-- ==== Sys2Proof/Word.lean ====
section
/-!
DEFINITION. The word types of the P9 model: bytes, byte strings and the counts that its registers hold.
-/

namespace Sys2Proof

/-- A byte of a structure or of memory (00 R7: multi-byte fields are little-endian). -/
abbrev Byte := BitVec 8

/-- A byte string: a packet's parameters, a reply's parameters, a key. -/
abbrev Bytes := List Byte

/-- A device-clock time in ns: `ns(t) = t.s × 1,000,000,000 + t.ns` (02 R29). -/
abbrev Ns := Nat

end Sys2Proof
end

