-- ==== Sys2Proof/Syntax.lean ====
section
/-!
DEFINITION. The commands of the block (spec/opcode_table.json, one constructor of `Instr` for each row) and what they carry.
-/

namespace Sys2Proof

/-- The parameters of the part, one constructor for each named parameter of 19 Table 19.4 (an array is one parameter, 19 R501).
KMS-P9-PL, which gives each its 12-bit index, is not in the spec, so a command names a parameter by its name
(notes/assumptions/4.md). -/
inductive Par where
  | blockInfo (block : Nat)
  | sysUnits | sysIndSel | sysIndData0 | sysIndData1 | sysIndData2 | sysFont
  | clkVrCfg | clkVcoreFuse
  | bshCfg | bshCost | bshTemp | bshSrcPrio | bshNightCfg | bshWakeMs | bshStatus | bshAccount | bshDebt | bshStat
  | rstCause | rstStatus | rstBlkSrst | rstBlkInreset | rstBlkDefer | rstBackup | rstAoSram | rstWdtMs | rstSafeResetMs
  | sesPortCfg | sesStat
  | tenStatus | tenGrant | tenDrainMs
  | srcCfg | srcName | srcDst | srcFilter | srcSsrc | srcMediaOff | srcFmt | srcDetect | srcAllow | srcJbMs | srcLateMs
  | srcLossMs | srcBufKib | srcStatus | srcStat | srcDpiEdid
  | timNow | timPtpCfg | timStatus | timOffsetNs | timAdj | timStepThreshNs | timLockThreshNs | timMaxSlewPpb | timStepLog
  | timPortLatRx | timPortLatTx | timUtcOffset | timSmpteSm | timTsiCfg | timTsiFifo | timTsiMissed | timTsoCfg | timTsoStart
  | timTsoPeriod
  | decCfg | decStatus | decEngStatus | decStat
  | encMonCfg | encRc | encDst | encUdpPort
  | witCfg | witDst | witUdpPort | witAckPort | witAckKey | witAckTimeoutMs | witMetaRetainS | witVideoRetainS | witRc | witStat
  | ipuPortCfg | ipuCamCfg | ipuOutCfg | ipuMergeSat | ipuMergeBand | ipuTapEn | ipuTapRing | ipuEmbSel | ipuStat
  | pltOutCfg | pltOutPhase | pltPostLut | pltOutFrame | pltSliceDmin | pltHoldBase | pltOutStat | pltLayerCfg | pltLayerDst
  | pltLayerCrop | pltLayerBuf | pltLayerFill | pltLayerLive | pltPreLut | pltFailbackN | pltBmStatus
  | datProofCfg | datSentRect | datFreezeEventMs | datHoldoverTrustMs | datSinkCrcEn | datSinkCrcPeriod | datSinkMismatchLimit
  | datGlyphEn
  | carState
  | grtFeCfg | grtSelfCfg | grtSelfGroup | grtStuckS | grtBaseStore | grtStatus | grtRing | grtRingWr | grtRingRd | grtStat
  | hapCfg | hapWave | hapStat
  | audPortCfg | audInBuf | audInWr | audInRd | audInCfg | audRoute | audSlotAtt | audAlertBuf | audAlertWr | audAlertRd
  | audAlertCfg | audAlertRoute | audStat
  | memDramCfg | memPartnerMib | memEccLast | memStat
  | xbrQos | xbrPageHint | xbrRemap | xbrStat
  | bndRegion | bndCommit | bndViol
  | talCfg | talBase | talLimit | talMatch | talValue | talCount | talStatus
  | lnkEthCfg | lnkEthMac | lnkEthIp4 | lnkEthGw4 | lnkEthIp6 | lnkEthGw6 | lnkEthEq | lnkEthStat | lnkH0Bar2Size | lnkH1Bar2Size
  | lnkH0OutBase | lnkH1OutBase | lnkDpCfg | lnkDpTiming | lnkDpEdid | lnkDpStatus | lnkEyeVstep
  | mdkCfg | mdkStatus | mdkEq | mdkStat | mdkBarrierCfg | mdkMirror
  | secOtpState | secMeas | secMeasCount | secTamperCfg | secTamperLog
  | fltQuar | fltLog
  deriving DecidableEq, Repr

/-- One item of PARAM_WRITE or PARAM_WRITE_MULTI (10 Table 10.9): the parameter its ADDR names (none: an address that names
no parameter), IN_FORCE, the byte OFFSET and the bytes (COUNT is their number). -/
structure ParItem where
  par : Option Par
  inForce : Bool := false
  offset : Nat
  data : Bytes
  deriving DecidableEq, Repr

/-- What is left of a packet header once its port is known (10 Table 10.6): the port it arrives on (10 R266: 0 to 5, or
0x10 + n for tenancy n's page), the peer on NC0 and NC1, SESSION, TENANCY, SEQUENCE, FENCE, and whether LENGTH is right
for the opcode. -/
structure Hdr where
  port : Nat
  peer : Nat := 0
  session : Nat
  tenancy : Nat := 0
  seq : Nat
  fence : Bool := false
  lenOk : Bool := true
  deriving DecidableEq, Repr

/-- One exposure of IPU_EXPOSE (10 Table 10.9). -/
structure Exposure where
  expNs : Nat
  gain : Nat
  emb : Nat
  deriving DecidableEq, Repr

/-- An ICP opcode with its parameters (10 Table 10.9), the two handshake opcodes apart. `image` of TENANCY_RESTORE is what the read of its SRC_ADDR
returns from the host's memory. -/
inductive IcpOp where
  | sessionClose
  | sessionPing
  | deviceDescribe
  | traverseQuery (session seq : Nat)
  | keySet (port kind : Nat) (salt key : Bytes)
  | eventMask (mask : Nat)
  | paramRead (par : Option Par) (inForce : Bool) (offset count : Nat)
  | paramWrite (item : ParItem)
  | paramWriteMulti (items : List ParItem)
  | sourceQuery (src : Nat)
  | layerCommit (mask : Nat)
  | cartWrite (out offset : Nat) (data : Bytes)
  | cartLut (out bank : Nat) (entries : List Nat)
  | cartGlyph (out bank : Nat) (images : Bytes)
  | cartDesc (out bank control : Nat) (rects : List Nat)
  | cartCommit (mask bank : Nat)
  | witnessQuery (out : Nat)
  | ipuExpose (pipe tag : Nat) (sets : List Exposure)
  | ipuReprocess (tap pipe copy inAddr outAddr outFmt : Nat) (config : Bytes)
  | tenancyCreate (n cls : Nat) (grant : Bytes)
  | tenancyConfigure (n : Nat) (grant : Bytes)
  | tenancyReset (n mode : Nat)
  | tenancyRemove (n mode : Nat)
  | tenancyFreeze (n : Nat)
  | tenancySave (n dest maxLen : Nat)
  | tenancyRestore (n src len : Nat) (image : Bytes)
  | tenancyThaw (n : Nat)
  | timeStep (mode : Nat) (delta : Int)
  | powerState (target : Nat)
  | touchRecalibrate (feMask selfMask : Nat)
  | hapticPlay (driver waveform amplitude rep : Nat)
  | diagStampRead (src slice : Nat)
  | diagTileRead (out band : Nat)
  | diagEyeScan (lane dwell dest : Nat)
  | diagTallyRead (channel : Nat)
  | chainRole (role position chainId : Nat)
  | chainLayout (addr len : Nat)
  | chainQuery (first : Nat)
  | attest (nonce : Bytes)
  | auditRead (first count : Nat)
  | serviceChallenge
  | serviceEnter (response : Bytes)
  | serviceExit
  | firmwareStage (offset : Nat) (final : Bool) (data : Bytes)
  | faultRead
  | faultClear (unit : Nat)
  | reset (level block : Nat)
  | unknown (code : Nat)
  deriving DecidableEq, Repr

/-- A packet as a transport delivers it (10 R263, R264): discarded for its trailer, MAGIC, VERSION, LENGTH or framing; a
handshake packet; or a command. -/
inductive Packet where
  | bad
  | hello (role : Nat) (hostNonce : Bytes)
  | auth (session : Nat) (hostMac : Bytes)
  | cmd (h : Hdr) (op : IcpOp)
  deriving DecidableEq, Repr

/-- A submission entry (10 Table 10.4), with the packet that PKT_ADDR holds; `readable` is false where it cannot be read. -/
structure SubEntry where
  tag : Nat
  pktLen : Nat
  replyMax : Nat
  readable : Bool := true
  pkt : Packet
  deriving DecidableEq, Repr

/-- The configuration of a ring or of the event ring that a host writes (10 Table 10.3). -/
structure RingCfg where
  sqBase : Nat
  cqBase : Nat
  sqLog2 : Nat
  cqLog2 : Nat
  msix : Nat
  en : Bool
  deriving DecidableEq, Repr

/-- How an endpoint's function is reset (14 R379). -/
inductive PcieReset where
  | flr | hotReset | perst | linkDown
  deriving DecidableEq, Repr

/-- A picture format (04 Table 4.3), with the timing of a DisplayPort stream (0 for other kinds). -/
structure Format where
  width : Nat
  height : Nat
  sampling : Nat
  depth : Nat
  color : Nat
  timing : Nat := 0
  deriving DecidableEq, Repr

/-- What an active SPS fixes (05 R115 to R127): the format, the profile code of 05 Table 5.4, the level, the output
reordering depth, the pictures of the maximum DPB, the independent slices of a picture, the picture rate of the VUI in
mHz (0: not carried) and the H.264 MaxFrameNum (0: H.265). -/
structure Sps where
  fmt : Format
  profile : Nat
  level : Nat
  reorder : Nat
  dpb : Nat
  slices : Nat
  rate : Nat
  maxFrameNum : Nat := 0
  deriving DecidableEq, Repr

/-- An RTP packet (04 R96 to R101): its header fields, its bytes, whether 04 Table 4.4 supports its options, the slice
whose NAL units (or 64-line group) it carries and whether it starts or ends them, the payload of a heartbeat SEI it completes
(02 Table 2.6: 24 bytes), an SPS it carries, and for ST 2110-20 whether its lines lie inside SRC.FMT. -/
structure RtpPkt where
  version : Nat := 2
  pt : Nat
  ssrc : Nat
  seq : Nat
  ts : Nat
  marker : Bool
  bytes : Nat
  supported : Bool := true
  slice : Nat
  sliceStart : Bool := false
  sliceEnd : Bool
  heartbeat : Option Bytes := none
  sps : Option Sps := none
  inFmt : Bool := true
  /-- its NAL units make a discardable picture (05 R136) -/
  disc : Bool := false
  deriving DecidableEq, Repr

/-- A PTP exchange or message that reaches a time port (03 R77): a valid exchange with the selected grandmaster and its
measured offset, an exchange that fails a check, the selection of a grandmaster, or its Announce data. -/
inductive PtpMsg where
  | exchange (port : Nat) (offset : Int)
  | invalid
  | grandmaster (port identity : Nat)
  | announce (utcOffset : Nat) (smpte : Option Nat)
  deriving DecidableEq, Repr

/-- A recorder's acknowledgement as it arrives (08 R219): the addressed output's record stream, its HIGHEST, the missing
ranges and the MAC. -/
structure WitnessAck where
  out : Nat
  segment : Nat
  highest : Nat
  ranges : List (Nat × Nat × Nat)
  mac : Bytes
  deriving DecidableEq, Repr

/-- What a port receives (14 R372): a frame whose FCS is right, with the identifier of its VLAN tag where that decides (14 Table 14.3, 04 R96); a frame
whose FCS is wrong; or the codewords that the port's FEC decoder corrected or could not correct (14 R396). -/
inductive EthFrame where
  | ptp (vlan : Option Nat) (m : PtpMsg)
  | neighbour (vlan : Option Nat) (ip mac : Nat) (isRequest : Bool) (target : Nat)
  | echo (ip : Nat)
  | rtp (vlan : Option Nat) (ipv6 fragment : Bool) (dst sender udp : Nat) (pkt : RtpPkt)
  | icp (vlan : Option Nat) (udp peer bytes : Nat) (pkt : Packet)
  | ack (udp : Nat) (a : WitnessAck)
  | other
  | badFcs
  | codewords (corrected uncorrectable : Nat)
  deriving DecidableEq, Repr

/-- What the receiver of a DisplayPort input found in a frame (04 R104, R106). -/
structure DpiFrame where
  msaValid : Bool
  complete : Bool
  inRange : Bool
  fmt : Format
  edge : Ns
  check : Nat
  sentinels : List (Option Nat)
  grid : List Nat
  deriving DecidableEq, Repr

/-- The header of a coded picture, as the engine parses it at its first slice (05 R130 to R137). -/
structure PicHead where
  irap : Bool
  cra : Bool := false
  recovery : Option Nat := none
  isRef : Bool
  discardable : Bool := false
  rasl : Bool := false
  order : Int
  poc : Int
  deriving DecidableEq, Repr

/-- How a slice comes out of an engine (05 R128, R129, R116). -/
inductive SliceOutcome where
  | ok | gap | parseError | redundant
  deriving DecidableEq, Repr

/-- A slice that an engine finishes (05 R124): the outcome, the missing reference pictures substituted in it and whether a
block used one, whether the filter at its lower boundary crosses into the next slice, the CRC of the lines it
completes, poison read while it was made, and the engine's time. -/
structure SliceDec where
  src : Nat
  seq : Nat
  slice : Nat
  head : PicHead
  outcome : SliceOutcome
  missing : Nat := 0
  substituted : Bool := false
  crossFilter : Bool := true
  check : Nat
  poison : Bool := false
  busyNs : Nat := 0
  last : Bool
  /-- the first rows of the 8-line units it publishes (05 R125) -/
  units : List Nat := []
  /-- with the last slice: CHECK of the whole picture, the CRCs of the two sentinel rectangles, the 256 luma samples of the grid -/
  wholeCheck : Nat := 0
  sentinels : List (Option Nat) := []
  grid : List Nat := []
  deriving DecidableEq, Repr

/-- How a pipe's long packet of pixel or embedded data arrives (06 R146, R153): its virtual channel, its samples, a
payload CRC that fails, an option outside 06 Table 6.1, a corrected header. -/
structure CsiLine where
  vc : Nat
  embedded : Bool := false
  samples : Nat
  crcOk : Bool := true
  supported : Bool := true
  corrected : Bool := false
  /-- embedded data: the value read for each exposure (06 R159) -/
  embVals : List Nat := []
  overflow : Bool := false
  deriving DecidableEq, Repr

/-- The output of a camera frame as its last line is written (06 R157, R161). -/
structure CamFrame where
  check : Nat
  grid : List Nat
  sentinels : List (Option Nat) := []
  tapsHeld : List Nat := []
  poison : Bool := false
  deriving DecidableEq, Repr

/-- One layer's pixel after stage 2 (07 R167): its layer, the 12-bit non-linear R, G, B codes, the per-pixel alpha. -/
structure LayerPx where
  layer : Nat
  r : Nat
  g : Nat
  b : Nat
  alpha : Nat := 255
  deriving DecidableEq, Repr

/-- An output pixel of a band as fetched: its place, and the code of each layer that has a picture pixel there. -/
structure BandPx where
  x : Nat
  y : Nat
  layers : List LayerPx
  deriving DecidableEq, Repr

/-- How the fetch of a layer fared in a tile (07 R183). -/
inductive FetchFail where
  | late | boundary | defaultTarget | poison
  deriving DecidableEq, Repr

/-- How the fetches of a tile of a band fared (07 R183): its column, and the layers whose fetch failed in it. -/
structure TileIn where
  col : Nat
  failed : List (Nat × FetchFail) := []
  /-- for a SLICE layer, the slices whose rows the tile samples, each with the SEQ of its picture (07 R185) -/
  rows : List (Nat × Nat × Nat) := []
  deriving DecidableEq, Repr

/-- A picture that an encode engine codes (08 R210): for each row of coding blocks the bits of its slice header, and for each block
the bits it takes at the rate-controlled QP, at QP 51 and as skip, and whether it lies in a scheduled intra column. -/
structure CodedRow where
  header : Nat
  blocks : List (Nat × Nat × Nat × Bool)
  deriving DecidableEq, Repr

/-- One activity increment of 09 Table 9.2: the counter, its increment, and the class it is charged to
(0: base, 1: C, 2: L, 3: A). -/
structure Activity where
  k : Nat
  count : Nat
  cls : Nat
  deriving DecidableEq, Repr

/-- The forecasts an accounting frame starts with (09 R238), in 1/1000 grain: base, C, need(v) for each level from 0, and the
forecast energy per frame of each suspendable source. -/
structure Forecast where
  base : Nat
  c : Nat
  need : List Nat
  sources : List (Nat × Nat)
  frameNs : Nat
  /-- the actual length of the frame that ends -/
  endedNs : Nat
  deriving DecidableEq, Repr

/-- A reading of the twelve thermal sensors in 1/16 °C, none for a sensor that fails its self-check (09 R230). -/
abbrev Temps := List (Option Int)

/-- A node of a scan frame whose node value differs from its baseline (12 R310): its sense and drive index and its node value in
counts. Nodes not listed read as their baseline in force. -/
structure Node where
  sense : Nat
  drive : Nat
  value : Int
  deriving DecidableEq, Repr

/-- A scan frame of a front-end (12 R309 to R316): the node values at the current frequency and the noise power of each of the sixteen
frequencies, in counts². -/
structure ScanFrame where
  nodes : List Node
  noise : List Nat
  deriving DecidableEq, Repr

/-- A scan frame of the self-capacitance block (12 R318): the values of channels that differ from their baseline, as (channel, value), and the
noise power of the eight frequencies its listen slot covers. -/
structure SelfFrame where
  values : List (Nat × Int)
  noise : List Nat
  deriving DecidableEq, Repr

/-- How the data of a memory read comes back from its cells (13 R346, R349): clean, with a correctable error, with an uncorrectable
error whose second read is clean, or with one whose second read fails. -/
inductive EccResult where
  | clean | corrected | transient | lasting
  deriving DecidableEq, Repr

/-- The kind of an access (13 Table 13.9 KIND). -/
inductive AccKind where
  | read | write | fetch
  deriving DecidableEq, Repr

/-- A chain frame's payload (15 Table 15.1), as its parts. -/
inductive ChainBody where
  | control (pkt : Packet)
  | slice (route row0 nrows : Nat) (whole : Bool) (stamp : Bytes) (rows : Bytes)
  | ready (wallFrame staged inForce flags stageStatus : Nat)
  | go (wallFrame apply inForce exclude ndev flags barrier : Nat) (step : Int)
  | ptp (m : PtpMsg)
  | summary (wallFrame : Nat) (body : Bytes)
  | layout (image : Bytes)
  | resetReq (level count : Nat) (mac : Bytes)
  | unknown (ftype : Nat)
  deriving DecidableEq, Repr

/-- A Mindanko frame as it is received (14 R384, R385): its SEQ, whether its CRC and blocks are sound, and whether the receiver has a
free buffer. In TEST, where the checker sees PRBS31 and no frames, only `bitErrors` is read (14 R388). -/
structure MdkFrame where
  seq : Nat
  ok : Bool
  room : Bool := true
  bitErrors : Nat := 0
  ftype : Nat
  body : Bytes
  deriving DecidableEq, Repr

/-- The commands: what a host sends, what arrives at a pin or a port, and what the part's own engines and timers do. -/
inductive Instr where
  -- sessions and transports (10)
  | sessionHello (port peer role : Nat) (hostNonce : Bytes)
  | sessionAuth (port peer session : Nat) (hostMac : Bytes)
  | authAttemptLapse (port : Nat)
  | authLockoutEnd (port : Nat)
  | sessionClose (h : Hdr)
  | sessionPing (h : Hdr)
  | sessionTimeout (port : Nat)
  | sessionAlive (port : Nat)
  | badPacket (port : Nat)
  | holeExpire (port seq : Nat)
  | eventsLost (port : Nat)
  | sqDoorbell (ep page ring tail : Nat) (entries : List SubEntry)
  | cqDoorbell (ep page ring head : Nat)
  | evtDoorbell (ep page head : Nat)
  | bar0Access (ep page : Nat) (write : Bool)
  | bar2Read (ep aperture offset len : Nat)
  | bar2Write (ep aperture offset : Nat) (data : Bytes) (poisoned : Bool)
  | outboundReadTimeout (ep master : Nat)
  | pcieFunctionReset (ep : Nat) (kind : PcieReset)
  -- opcodes (10 Table 10.9)
  | deviceDescribe (h : Hdr)
  | traverseQuery (h : Hdr) (session seq : Nat)
  | keySet (h : Hdr) (port kind : Nat) (salt key : Bytes)
  | eventMask (h : Hdr) (mask : Nat)
  | paramRead (h : Hdr) (par : Option Par) (inForce : Bool) (offset count : Nat)
  | paramWrite (h : Hdr) (item : ParItem)
  | paramWriteMulti (h : Hdr) (items : List ParItem)
  | sourceQuery (h : Hdr) (src : Nat)
  | layerCommit (h : Hdr) (mask : Nat)
  | cartWrite (h : Hdr) (out offset : Nat) (data : Bytes)
  | cartLut (h : Hdr) (out bank : Nat) (entries : List Nat)
  | cartGlyph (h : Hdr) (out bank : Nat) (images : Bytes)
  | cartDesc (h : Hdr) (out bank control : Nat) (rects : List Nat)
  | cartCommit (h : Hdr) (mask bank : Nat)
  | witnessQuery (h : Hdr) (out : Nat)
  | ipuExpose (h : Hdr) (pipe tag : Nat) (sets : List Exposure)
  | ipuReprocess (h : Hdr) (tap pipe copy inAddr outAddr outFmt : Nat) (config : Bytes)
  | reprocessDone (pipe : Nat)
  | tenancyCreate (h : Hdr) (n cls : Nat) (grant : Bytes)
  | tenancyConfigure (h : Hdr) (n : Nat) (grant : Bytes)
  | tenancyReset (h : Hdr) (n mode : Nat)
  | tenancyRemove (h : Hdr) (n mode : Nat)
  | tenancyFreeze (h : Hdr) (n : Nat)
  | freezeDrainTimeout (n : Nat)
  | tenancySave (h : Hdr) (n dest maxLen : Nat)
  | tenancyRestore (h : Hdr) (n src len : Nat) (image : Bytes)
  | tenancyThaw (h : Hdr) (n : Nat)
  | tenancyDrainExpired (n : Nat)
  | zeroFillDone (n : Nat)
  | tenancyQuiesced (n : Nat)
  | timeStep (h : Hdr) (mode : Nat) (delta : Int)
  | powerState (h : Hdr) (target : Nat)
  | touchRecalibrate (h : Hdr) (feMask selfMask : Nat)
  | hapticPlay (h : Hdr) (driver waveform amplitude rep : Nat)
  | diagStampRead (h : Hdr) (src slice : Nat)
  | diagTileRead (h : Hdr) (out band : Nat)
  | diagEyeScan (h : Hdr) (lane dwell dest : Nat)
  | eyeScanDone (quad : Nat) (counts : Bytes)
  | diagTallyRead (h : Hdr) (channel : Nat)
  | chainRole (h : Hdr) (role position chainId : Nat)
  | chainLayout (h : Hdr) (addr len : Nat)
  | chainQuery (h : Hdr) (first : Nat)
  | attest (h : Hdr) (nonce : Bytes)
  | auditRead (h : Hdr) (first count : Nat)
  | serviceChallenge (h : Hdr)
  | serviceEnter (h : Hdr) (response : Bytes)
  | serviceExit (h : Hdr)
  | serviceExpire
  | firmwareStage (h : Hdr) (offset : Nat) (final : Bool) (data : Bytes)
  | faultRead (h : Hdr)
  | faultClear (h : Hdr) (unit : Nat)
  | reset (h : Hdr) (level block : Nat)
  -- sources, ingest, decode (04, 05, 02)
  | srcCfgWrite (h : Hdr) (n value : Nat)
  | srcFlowWrite (h : Hdr) (par : Par) (n value : Nat)
  | igmpReportRepeat (port group : Nat)
  | igmpQueryRx (port group : Nat)
  | dpiEdidWrite (h : Hdr) (input offset : Nat) (data : Bytes)
  | dpiHpdPulseEnd (input : Nat)
  | ethFrameRx (port : Nat) (f : EthFrame)
  | jitterBufferExpire (src ts : Nat)
  | dpiFrameRx (input : Nat) (f : DpiFrame)
  | sourceLossTimeout (src : Nat)
  | sourceFrozen (src : Nat)
  | holdoverTrustExpire
  | sliceDecoded (d : SliceDec)
  -- camera image pipeline (06)
  | csiFrameStart (pipe vc fn : Nat)
  | ipuExposeTimeout (pipe tag : Nat)
  | csiLineRx (pipe : Nat) (line : CsiLine)
  | csiFrameEnd (pipe vc fn : Nat)
  | csiExposureTimeout (pipe exposure : Nat)
  | ipuFrameDone (pipe : Nat) (f : CamFrame)
  -- plates, outputs, the witness chain (07, 02)
  | frameCommitPoint (out : Nat)
  | frameStart (out : Nat) (errNs : Int)
  | bandCompose (out band : Nat) (tRef : Ns) (tiles : List TileIn) (px : List BandPx)
  | bandDeadline (out band : Nat)
  | bandScanout (out band : Nat) (tRef : Ns)
  | sinkCrcReadback (out : Nat) (sink own : List Nat)
  | benchCompare (out band crc : Nat)
  | failbackCompare (plate out band crc : Nat)
  | failbackRunReached (plate : Nat)
  | failbackNWrite (h : Hdr) (value : Nat)
  -- encode and the witness recorder (08)
  | checkpointWrite (out : Nat)
  | recordSigned (out rseq : Nat)
  | witnessPictureCoded (out : Nat) (rows : List CodedRow) (au : Bytes)
  | witnessNotCoded (out cause : Nat)
  | monitorPictureCoded (stream : Nat) (rows : List CodedRow)
  | monCfgWrite (h : Hdr) (m value : Nat)
  | witCfgWrite (h : Hdr) (par : Par) (out value : Nat)
  | witnessAckTimeout (out : Nat)
  -- the Bushel scheduler and power states (09)
  | accountingFrameStart (f : Forecast)
  | energyTick (acts : List Activity)
  /-- a job of a class (1 C, 2 L, 3 A; 0 that of its source, 09 R234) with its forecast in 1/1000 grain -/
  | jobLatestStart (src cost : Nat) (cls : Nat)
  | jobTimeout (unit sub : Nat)
  | islandWake (island : Nat)
  | pllRestart (pll : Nat)
  | thermalSample (t : Temps)
  | bthermUpdate
  | nightEntryStep
  | nightExitStep (failedOutputs : Nat)
  | wakeTimerExpire
  -- time (03)
  | tsiFifoRead (h : Hdr) (n : Nat)
  | ptpMessageRx (m : PtpMsg)
  | announceTimeout
  | ptpSyncSend (port : Nat)
  | ptpCfgWrite (h : Hdr) (value : Nat)
  | tsiEdge (n : Nat) (rise : Bool)
  | tsoEdge (n : Nat)
  | tsoPulseEnd (n : Nat)
  -- touch, haptics and audio (12)
  | touchScanFrame (fe : Nat) (f : ScanFrame)
  | touchStuck (fe id : Nat)
  | selfScanFrame (f : SelfFrame)
  | feCfgWrite (h : Hdr) (unit value : Nat)
  | baseStoreWrite (h : Hdr) (value : Nat)
  | touchRingWrite (h : Hdr) (recipient value : Nat)
  | ringRdWrite (h : Hdr) (recipient value : Nat)
  | hapticPlayEnd (driver : Nat)
  | hapticOvercurrent (driver peak : Nat)
  | hapticTrackLost (driver freq : Nat)
  | audioBlock
  | alertIdleExpire
  | audioPortCfgWrite (h : Hdr) (port value : Nat)
  -- memory, crossbar, boundary units (13)
  | memRead (master addr len qos claim : Nat) (fetch : Bool) (ecc : EccResult)
  | memWrite (master addr claim : Nat) (data : Bytes) (poisoned : Bool)
  | dramRefresh (channel : Nat) (hot : Bool)
  | zqCalibration (channel rank : Nat)
  | scanoutPanic (out : Nat) (raised : Bool)
  | caParityAlert (channel : Nat) (duringReplay : Bool)
  | writeCrcAlert (channel : Nat) (again : Bool)
  | patrolScrub (addr : Nat) (ecc : EccResult)
  | chartScrub (addr : Nat) (ecc : EccResult)
  | cartScrub (addr : Nat) (ecc : EccResult)
  | cartoucheRepair (addr : Nat)
  | dramTraining (ok : Bool) (temp : Int)
  | tagRetag (base limit tag : Nat) (zeroFill : Bool)
  | remapWrite (master value : Nat)
  | bndCommit (master mask : Nat)
  | bndViolRead (h : Hdr)
  -- serial lanes and external links (14)
  | ethCfgWrite (h : Hdr) (port value : Nat)
  | ethLinkDown (port : Nat)
  | ethLinkUp (port : Nat)
  | arpRetry (port ip : Nat)
  | neighborAgeOut (port ip : Nat)
  | ethTxTimeout (port : Nat)
  | mdkFrameRx (port : Nat) (f : MdkFrame)
  | mdkLinkctlRx (port : Nat) (ack : Bool) (seq : Nat)
  | mdkAckTimer (port : Nat)
  | mdkNakRepeat (port : Nat)
  | mdkReplayTimeout (port : Nat)
  | mdkBlockLock (port lanes : Nat) (aligned : Bool) (inv skew : Nat)
  | mdkStartupBurst (port : Nat)
  | mdkRecoveryTimeout (port : Nat)
  | mdkIdleTimer (port : Nat)
  | mdkEidleRx (port : Nat)
  | mdkExitBurstRx (port : Nat)
  | mdkCfgWrite (h : Hdr) (port value : Nat)
  | mdkPeerRxUp (port : Nat) (up : Bool)
  | dpHpdAssert (out : Nat) (edid : Bytes)
  | dpHpdIrq (out : Nat) (lockLost : Bool)
  | dpHpdDeassert (out : Nat)
  | dpTrainingRetry (out : Nat)
  | dpTrainingDone (out : Nat) (rate lanes : Option Nat)
  | dpiLinkLoss (input : Nat)
  | pcieLinkUp (ep : Nat)
  | ringCfgWrite (ep page ring : Nat) (evt : Bool) (cfg : RingCfg)
  | msixUnmask (ep vector : Nat)
  -- Atlas and Sheet chains (15)
  | discoverSend
  | discoverRx (port : Nat) (chainId position role ttl bid : Nat)
  | chainLinkCut (port : Nat)
  | chainFrameRx (port dst src ttl bid : Nat) (body : ChainBody)
  | readySend
  | goSend
  | barrierDeadline
  | atlasListenExpire
  | takebackRunReached
  | takebackNWrite (h : Hdr) (value : Nat)
  | summarySend
  | resetReqSend (position : Nat)
  -- resets, faults, tally, boot and supplies (16, 17, 18)
  | coldPowerOn
  | brownout
  | supplyDrop
  | resetPin (lowNs : Nat)
  | watchdog (coreIdx : Nat)
  | lockstep (pair : Nat)
  | criticalState (sub code : Nat)
  | safeResetExpire
  | resetStretchEnd
  | thermalResetRelease
  | optionLoad
  | pllLock (pll : Nat)
  | clockGoodTimeout (pll : Nat)
  | blkSrstWrite (value : Nat)
  | blockResetDone (block : Nat)
  | bursolStart
  | bootMailboxGo (ep addr len : Nat) (image : Bytes)
  | svnCommitTimer
  | faultReport (unit sub code : Nat)
  | faultRetryDone (ok : Bool)
  | tallyMessage (channel : Nat) (msg : Bytes)
  | tamperEdge (input : Nat) (assertion : Bool)
  | pgoodAssert
  | pgoodTimeout
  | vcoreSettle (mv : Nat) (ok : Bool)
  | s0FrameRx (ok : Bool) (bytes : Nat) (pkt : Packet)
  | debugHalt (coreIdx : Nat) (halt : Bool)
  deriving DecidableEq, Repr

end Sys2Proof
end

