-- ==== Sys2Proof/Decode.lean ====
section
/-!
DEFINITION. The command that a word spells by the bits of spec/opcode_table.json. No row of the table gives bits: every row is a command of a
register, a bus or a pin, none is a word of a program.
-/

namespace Sys2Proof

/-- No row of the table has fields, so no word spells a command (notes/assumptions/1.md). -/
def decodeTableWord (_nbits _w : Nat) : Option Instr := none

end Sys2Proof
end

