-- ==== Sys2Proof/Config.lean ====
section
/-!
DEFINITION. What the part fixes (fuses) and the values that the spec leaves open. Every value the spec leaves open is an
opaque constant: nothing in Lean can evaluate it, so a claim holds whatever it is (notes/assumptions/3.md).
-/

namespace Sys2Proof.Config

/-- The values the spec leaves open, one fresh value for each index: the model applies it to the counter `Dev.free`. -/
opaque freeValue : Nat → Nat

/-- HMAC-SHA-256 of a key and a message (10 R266): 32 bytes by the standard the spec names; its value stays open here. -/
opaque hmacSha256 : Bytes → Bytes → Bytes

/-- SHA-384 of a byte string (08 R216, 17 R459, R473). -/
opaque sha384 : Bytes → Bytes

/-- SHA-256 of a byte string (17 R456). -/
opaque sha256 : Bytes → Bytes

/-- ECDSA P-384 verification of a message and a signature against the public key with this hash (17 R459, R460). -/
opaque ecdsaVerify : Bytes → Bytes → Bytes → Bool

/-- A signature by a device key (0: the identity key, 1: the witness key) over a message (17 R466, 08 R216). -/
opaque ecdsaSign : Nat → Bytes → Bytes


/-- The SHA-384 of the Kensaori manufacturing key that the boot ROM holds (17 Table 17.2). -/
opaque manufHash : Bytes

/-- The bytes of the device's identity public key (10 R283: only its SHA-384 leaves the part). -/
opaque idPublicKey : Bytes

/-- The 16 bytes of SERIAL (17 Table 17.1, fused). -/
opaque serial : Bytes

/-- Factory values of TIM.PORT_LAT_RX and TIM.PORT_LAT_TX for port `n` at a SPEED and FEC (03 R74, 14 R374): signed 32-bit words. -/
opaque portLat : Bool → Nat → Nat → Nat → Nat

/-- The rate correction the PI servo asks for from the offset and its integral (03 R79: the gains are not given). -/
opaque servoRate : Int → Int → Int

/-- Fused energy costs BSH.COST (09 R228). -/
opaque fusedCost : Nat → Nat

/-- Fused core voltage code CLK.VCORE_FUSE in mV (18 R485: 700 to 850). -/
opaque vcoreFuse : Nat

/-- The voltage step of a quad's offset sampler in µV (14 R395: a value of the part). -/
opaque eyeVstep : Nat → Nat

/-- The MAC address fused for Ethernet port `n` (14 R371). -/
opaque ethMac : Nat → Nat

/-- Byte `i` of the reset EDID of DisplayPort input `m` (04 R105: given in KMS-P9-PL). -/
opaque dpiEdid : Nat → Nat → Nat

/-- Byte `i` of the device font (02 R52: KMS-P9-FT). -/
opaque fontByte : Nat → Nat

/-- The dither offset at (x mod 4, y mod 4, frame) (07 R170: the matrix is not given). -/
opaque ditherOffset : Nat → Nat → Nat → Nat

/-- The next value of the 32-bit LFSR of the bench-mark compare (07 R192: neither its polynomial nor how a value chooses a band is given). -/
opaque lfsrNext : Nat → Nat

/-- What a byte of the boot ROM holds (17 R458: its image is not in the spec). -/
opaque bootRom : Nat → Nat

/-- What byte `i` of a cartouche slot holds where nothing has written it: the compass images and palette of the signed Bursol image
(07 R189) and the SERVICE notice (17 R471), none of which is in the spec. -/
opaque compassByte : Nat → Nat

/-- When row `r` of a picture of source `n` has been decoded in full, in ns from the ingest of its first packet, with the source delivering
rows at its nominal timing (07 R186: the nominal timing is not in the spec). -/
opaque rowReady : Nat → Nat → Nat

/-- The origin of a route is eligible for slice-synchronous composition (15 R417: how the mirror's device learns it is not stated), by ROUTE and the
mirror's GEN. -/
opaque mirrorEligible : Nat → Nat → Bool

/-- The wall period in ns by which a Sheet judges its commits (15 R406: how a Sheet learns it is not stated), by wall frame. -/
opaque wallPeriod : Nat → Nat

/-- The wall phase in ns as a device other than the acting Atlas takes it (15 R406: how it learns it is not stated), by wall frame. -/
opaque wallPhase : Nat → Nat

/-- The parameter that a 32-bit ADDR names (KMS-P9-PL is not in the spec): an item of a layout image carries one (15 R413). -/
opaque parOfAddr : Nat → Option Par

/-- NPARAM of a block, its highest index in use plus 1 (19 Table 19.1: KMS-P9-PL is not in the spec). -/
opaque paramCount : Nat → Nat

/-- The first and the last page of the cartouche pair's part of core SRAM (17 R463: where it lies is not stated). -/
opaque cartPart : Nat × Nat

/-- The gain of an attenuation in tenths of a dB, as a 1.31 fraction (12 R330: a real power of ten, rounded). -/
opaque gainOf : Nat → Nat

/-- The duck attenuation in tenths of a dB at ramp position `p` of 240 toward `duck` (12 R330: the shape of the ramp is not given). -/
opaque duckRamp : Nat → Nat → Nat

/-- The limiter one sample after it stood at a value in 1/2^31 with nothing to limit (12 R330: the shape of the recovery is not given). -/
opaque limRecover : Nat → Nat

/-- The unit-presence word fused on this part (00 R2): a fully enabled P9C. -/
def unitsFused : Nat := 0x001F_FFFF

/-- This part's variant (00 R1): true for a P9C. -/
def isP9C : Bool := true

/-- The installed DRAM in GiB when the option words train it (13 R335). -/
def dramGiB : Nat := 16

end Sys2Proof.Config
end

