-- ==== Sys2Proof/Machine/Bits.lean ====
section
/-!
DEFINITION. Bit fields, byte order, sign extension, serial arithmetic, CRCs and small list operations that the meanings share.
-/

namespace Sys2Proof.Machine

/-- Field `[hi:lo]` of a register value (00 Table 0.4). -/
def bits (v hi lo : Nat) : Nat := (v >>> lo) % 2 ^ (hi + 1 - lo)

/-- Bit `[n]` of a register value. -/
def bit (v n : Nat) : Bool := (v >>> n) % 2 == 1

/-- `v` with field `[hi:lo]` replaced by `x` (truncated to the field). -/
def setBits (v hi lo x : Nat) : Nat :=
  v - (bits v hi lo <<< lo) + ((x % 2 ^ (hi + 1 - lo)) <<< lo)

/-- `v` with bit `[n]` set to `b`. -/
def setBit (v n : Nat) (b : Bool) : Nat := setBits v n n b.toNat

/-- The signed value of a `w`-bit two's-complement word. -/
def toSigned (w v : Nat) : Int :=
  let u := v % 2 ^ w
  if u < 2 ^ (w - 1) then (u : Int) else (u : Int) - (2 : Int) ^ w

/-- The `w`-bit two's-complement word of an integer. -/
def ofSigned (w : Nat) (i : Int) : Nat := (i % ((2 : Int) ^ w)).toNat

/-- The `n` little-endian bytes of a value (00 R7). -/
def leBytes : Nat → Nat → Bytes
  | 0, _ => []
  | n + 1, v => BitVec.ofNat 8 v :: leBytes n (v / 256)

/-- The value of a little-endian byte string (00 R7). -/
def leVal : Bytes → Nat
  | [] => 0
  | b :: bs => b.toNat + 256 * leVal bs

/-- A byte string cut or padded with zero bytes to `n` bytes. -/
def padTo (n : Nat) (b : Bytes) : Bytes := (b ++ List.replicate n 0).take n

/-- `(a − b) mod 2^w` read as a signed value: serial arithmetic (10 R271, 04 R99). -/
def serialDiff (w a b : Nat) : Int := toSigned w (a % 2 ^ w + 2 ^ w - b % 2 ^ w)

/-- `a` is greater than `b` in serial arithmetic modulo 2^w (02 R36). -/
def serialGt (w a b : Nat) : Bool := decide (0 < serialDiff w a b)

/-- Rounds up to a power of two (19 R502: the stride of an element), searching the powers up to 2^20. -/
def ceilPow2 (n : Nat) : Nat := ((List.range 21).map (2 ^ ·)).find? (n ≤ ·) |>.getD (2 ^ 21)

/-- Ceiling division. -/
def ceilDiv (a b : Nat) : Nat := (a + b - 1) / b

/-- The list with element `i` changed; out of range, the list itself. -/
def modAt {α : Type} (l : List α) (i : Nat) (f : α → α) : List α := l.modify i f

/-- One bit step of a reflected CRC register. -/
def crcBitR (poly crc : Nat) : Nat := if crc % 2 = 1 then (crc / 2) ^^^ poly else crc / 2

/-- One bit step of an unreflected CRC register of width `w`. -/
def crcBitN (w poly crc : Nat) : Nat :=
  let s := (crc * 2) % 2 ^ w
  if crc / 2 ^ (w - 1) % 2 = 1 then s ^^^ poly else s

/-- `n` iterations of a step. -/
def iter {α : Type} : Nat → (α → α) → α → α
  | 0, _, a => a
  | n + 1, f, a => iter n f (f a)

/-- A reflected CRC over a byte string (16 Table 16.15), the polynomial given bit-reversed. -/
def crcReflected (poly init xorOut : Nat) (bs : Bytes) : Nat :=
  (bs.foldl (fun c b => iter 8 (crcBitR poly) (c ^^^ b.toNat)) init) ^^^ xorOut

/-- An unreflected CRC of width `w` over a byte string (16 Table 16.15). -/
def crcPlain (w poly init xorOut : Nat) (bs : Bytes) : Nat :=
  (bs.foldl (fun c b => iter 8 (crcBitN w poly) (c ^^^ (b.toNat <<< (w - 8)))) init) ^^^ xorOut

/-- CRC-32C (02 R54, 16 Table 16.15 POLY 0). -/
def crc32c (bs : Bytes) : Nat := crcReflected 0x82F63B78 0xFFFFFFFF 0xFFFFFFFF bs

/-- The check value of a tally polynomial (16 Table 16.15). -/
def tallyCrc (poly : Nat) (bs : Bytes) : Nat :=
  match poly with
  | 0 => crc32c bs
  | 1 => crcReflected 0xEDB88320 0xFFFFFFFF 0xFFFFFFFF bs
  | 2 => crcPlain 16 0x1021 0xFFFF 0 bs
  | _ => crcPlain 64 0x42F0E1EBA9EA3693 0 0 bs

/-- The 64-bit Datum format of a time in ns (02 Table 2.2): S modulo 2^34 above NS. -/
def datumTime (t : Ns) : Nat := (t / 1000000000 % 2 ^ 34) * 2 ^ 30 + t % 1000000000

/-- The 96-bit full device-time format of a time in ns (03 Table 3.11). -/
def fullTime (t : Ns) : Nat := (t / 1000000000 % 2 ^ 48) * 2 ^ 32 + t % 1000000000

/-- The time in ns of a full device-time word (03 Table 3.11). -/
def ofFullTime (w : Nat) : Ns := bits w 79 32 * 1000000000 + bits w 29 0

/-- A list with an element put in its place by a key. -/
def insertOn {α : Type} (key : α → Nat) (a : α) : List α → List α
  | [] => [a]
  | b :: l => if key a ≤ key b then a :: b :: l else b :: insertOn key a l

/-- A list in the order of a key, equal ones as they stood. -/
def sortOn {α : Type} (key : α → Nat) (l : List α) : List α := l.foldr (insertOn key) []

/-- The least element by a key, the first on a tie. -/
def argMin {α : Type} (key : α → Nat) : List α → Option α
  | [] => none
  | a :: as =>
    match argMin key as with
    | none => some a
    | some b => if key a ≤ key b then some a else some b

/-- The greatest element by a key, the first on a tie. -/
def argMax {α : Type} (key : α → Nat) : List α → Option α
  | [] => none
  | a :: as =>
    match argMax key as with
    | none => some a
    | some b => if key b ≤ key a then some a else some b

end Sys2Proof.Machine
end

