-- ==== Sys2Proof/Machine/Params.lean ====
section
/-!
DEFINITION. The layout of every parameter of 19 Table 19.4: its block, the size and counts of its elements, its fields with their access and
range, and its reset values.
-/

namespace Sys2Proof.Machine

/-- Access types (00 Table 0.5). -/
inductive Acc where
  | ro | rw | wo | w1c
  deriving DecidableEq, Repr

/-- A field of an element: its bits, its access, and the values a write may give it (19 R505 step 3). -/
structure Field where
  hi : Nat
  lo : Nat
  acc : Acc
  ok : Nat → Bool := fun _ => true

/-- The layout of a parameter (19 R501, R502): block number, bytes of an element, counts of its indices [a][b], the bytes of one stored
unit (an element, or a part of a long one), its fields within a unit, and whether it is shadowed (19 Table 19.2). -/
structure PInfo where
  block : Nat
  size : Nat
  a : Nat := 1
  b : Nat := 1
  unit : Nat := size
  fields : List Field
  shadow : Bool := false

/-- A read-only field. -/
def fRO (hi lo : Nat) : Field := { hi, lo, acc := .ro }
/-- A writable field that takes every value. -/
def fRW (hi lo : Nat) : Field := { hi, lo, acc := .rw }
/-- A writable field with a range. -/
def fIn (hi lo mn mx : Nat) : Field := { hi, lo, acc := .rw, ok := fun v => decide (mn ≤ v ∧ v ≤ mx) }
/-- A W1C field. -/
def fW1C (hi lo : Nat) : Field := { hi, lo, acc := .w1c }
/-- A write-only field. -/
def fWO (hi lo : Nat) : Field := { hi, lo, acc := .wo }
/-- A writable field whose value satisfies a test. -/
def fOk (hi lo : Nat) (ok : Nat → Bool) : Field := { hi, lo, acc := .rw, ok }

/-- A read-only parameter. -/
def pRO (block size : Nat) (a : Nat := 1) (b : Nat := 1) : PInfo := { block, size, a, b, fields := [fRO (8 * size - 1) 0] }
/-- A parameter of one writable field. -/
def pRW (block size : Nat) (a : Nat := 1) (b : Nat := 1) (shadow : Bool := false) : PInfo :=
  { block, size, a, b, fields := [fRW (8 * size - 1) 0], shadow }
/-- A parameter of one writable field with a range. -/
def pIn (block size mn mx : Nat) (a : Nat := 1) (b : Nat := 1) : PInfo :=
  { block, size, a, b, fields := [fIn (8 * size - 1) 0 mn mx] }
/-- A parameter with a field map. -/
def pMap (block size a : Nat) (fields : List Field) (shadow : Bool := false) : PInfo := { block, size, a, fields, shadow }

/-- Table 3.11's nanoseconds are at most 999,999,999 (03 R71). -/
def fullTimeFields : List Field := [fRO 95 80, fRW 79 32, fRO 31 30, fIn 29 0 0 999999999]

/-- The fields of a front-end configuration (12 Table 12.1). -/
def feFields : List Field :=
  [fRW 63 63, fRW 62 62, fRW 61 58, fIn 57 52 1 48, fIn 51 45 1 80, fIn 44 37 30 240, fIn 36 29 20 200, fRW 28 28, fIn 27 18 16 1023,
   fRW 17 8, fRO 7 0]

/-- The fields of a transmit equaliser (18 Table 18.13). -/
def eqFields : List Field := [fRO 31 18, fIn 17 12 0 16, fIn 11 6 24 63, fIn 5 0 0 24]

/-- The fields of a rectangle with signed or unsigned 16-bit X and Y, and W and H from 1 to 8,192 (07 Table 7.4). -/
def dstFields : List Field := [fRW 63 48, fRW 47 32, fIn 31 16 1 8192, fIn 15 0 1 8192]

/-- A multiple of 16 (02 R37). -/
def mul16 (v : Nat) : Bool := v % 16 == 0

end Sys2Proof.Machine

namespace Sys2Proof

open Machine

/-- The layout of each parameter. Sizes and counts that the spec leaves to KMS-P9-PL are those of the chapter's own tables
(notes/assumptions/4.md). -/
def Par.info : Par → PInfo
  | .blockInfo blk => { block := blk, size := 8, fields := [fRO 63 0] }
  | .sysUnits => pRO 1 4
  | .sysIndSel => pRO 1 8 3
  | .sysIndData0 => pRO 1 256
  | .sysIndData1 => pRO 1 256
  | .sysIndData2 => pRO 1 256
  | .sysFont => { block := 1, size := 1520, unit := 1, fields := [fRO 7 0] }
  | .clkVrCfg => pMap 2 4 1 [fRW 31 31, fRW 30 24, fRW 23 23, fIn 22 21 0 2, fRO 20 0]
  | .clkVcoreFuse => pRO 2 2
  | .bshCfg => pMap 3 8 1 [fIn 63 48 10000 48000, fIn 47 40 70 105, fIn 39 32 71 110, fRO 31 0]
  | .bshCost => pRO 3 4 11
  | .bshTemp => pRO 3 2 12
  | .bshSrcPrio => pMap 3 1 192 [fRO 7 2, fRW 1 0]
  | .bshNightCfg => pMap 3 4 1 [fRW 31 24, fRW 23 20, fRW 19 19, fRO 18 0]
  | .bshWakeMs => pRW 3 4
  | .bshStatus => pRO 3 8
  | .bshAccount => pRO 3 8
  | .bshDebt => pRO 3 2
  | .bshStat => pRO 3 4 9
  | .rstCause => pMap 4 4 1 [fRO 31 24, fRO 23 21, fRO 20 14, fW1C 13 0]
  | .rstStatus => pRO 4 4
  | .rstBlkSrst => pRO 4 8
  | .rstBlkInreset => pRO 4 8
  | .rstBlkDefer => pMap 4 8 1 [fRO 63 40, fW1C 39 0]
  | .rstBackup => pRW 4 4 32
  | .rstAoSram => { block := 4, size := 8192, unit := 1, fields := [fRW 7 0] }
  | .rstWdtMs => pIn 4 2 10 10000
  | .rstSafeResetMs => { block := 4, size := 2, fields := [fOk 15 0 fun v => decide (v = 0 ∨ (100 ≤ v ∧ v ≤ 60000))] }
  | .sesPortCfg => pMap 5 8 6 [fRW 63 63, fRW 62 62, fRO 61 61, fRO 60 60, fIn 59 56 1 8, fRW 55 53, fRW 52 52, fRW 51 36, fIn 35 32 0 5,
      fIn 31 16 10 6000, fIn 15 8 1 255, fRO 7 0]
  | .sesStat => pRO 5 4 6 10
  | .tenStatus => pRO 6 4 9
  | .tenGrant => { block := 6, size := 176, a := 9, unit := 1, fields := [fRO 7 0] }
  | .tenDrainMs => pIn 6 2 10 10000
  | .srcCfg => pMap 7 8 192 [fRW 63 63, fIn 62 60 0 4, fIn 59 58 0 2, fRW 57 55, fRW 54 54, fRW 53 53, fRW 52 52, fRW 51 51, fRW 50 39,
      fRW 38 32, fRW 31 16, fRO 15 8, fRO 7 4, fRO 3 0]
  | .srcName => pRW 7 12 192
  | .srcDst => pRW 7 16 192
  | .srcFilter => pRW 7 16 192
  | .srcSsrc => pRW 7 4 192
  | .srcMediaOff => pRW 7 4 192
  | .srcFmt => pMap 7 8 192 [fRW 63 48, fRW 47 32, fIn 31 28 0 3, fOk 27 24 fun v => [6, 8, 10, 12].contains v, fIn 23 20 0 2,
      fRW 19 0]
  | .srcDetect => pRO 7 8 192
  | .srcAllow => pRW 7 2 192
  | .srcJbMs => pIn 7 2 1 500 192
  | .srcLateMs => pIn 7 2 1 5000 192
  | .srcLossMs => pIn 7 2 20 10000 192
  | .srcBufKib => pIn 7 2 64 65535 192
  | .srcStatus => pRO 7 4 192
  | .srcStat => pRO 7 4 192 14
  | .srcDpiEdid => { block := 7, size := 512, a := 4, unit := 1, fields := [fRW 7 0] }
  | .timNow => pRO 8 12
  | .timPtpCfg => pMap 8 4 1 [fIn 31 24 0 127, fIn 23 22 0 2, fIn 21 20 0 2, fRW 19 19, fRW 18 18, fRW 17 10, fRO 9 0]
  | .timStatus => pRO 8 4
  | .timOffsetNs => pRO 8 8
  | .timAdj => pRO 8 4
  | .timStepThreshNs => pIn 8 4 1000 1000000000
  | .timLockThreshNs => pIn 8 4 20 100000
  | .timMaxSlewPpb => pIn 8 4 1000 500000
  | .timStepLog => pRO 8 32 15
  | .timPortLatRx => pRW 8 4 8
  | .timPortLatTx => pRW 8 4 8
  | .timUtcOffset => pRO 8 2
  | .timSmpteSm => pRO 8 8
  | .timTsiCfg => pMap 8 4 8 [fRW 31 31, fRW 30 29, fRO 28 24, fRW 23 16, fRW 15 12, fRO 11 0]
  | .timTsiFifo => pRO 8 16 8
  | .timTsiMissed => pRO 8 4 8
  | .timTsoCfg => pMap 8 4 4 [fIn 31 29 0 4, fRW 28 28, fRW 27 27, fRW 26 24, fRW 23 0]
  | .timTsoStart => { block := 8, size := 12, a := 4, fields := fullTimeFields }
  | .timTsoPeriod => pRW 8 8 4
  | .decCfg => pMap 9 4 192 [fRW 31 31, fRW 30 29, fRW 28 28, fRW 27 27, fIn 26 24 2 7, fRW 23 15, fRO 14 0]
  | .decStatus => pRO 9 4 192
  | .decEngStatus => pRO 9 4 4
  | .decStat => pRO 9 4 192 18
  | .encMonCfg => pMap 10 8 8 [fRW 63 63, fRW 62 62, fRW 61 54, fIn 53 52 0 2, fIn 51 41 8 256, fIn 40 30 8 270, fIn 29 23 1 60, fRW 22 20,
      fRW 19 19, fRO 18 0]
  | .encRc => pRW 10 4 8 6
  | .encDst => pRW 10 16 8
  | .encUdpPort => pRW 10 2 8
  | .witCfg => pMap 11 8 8 [fRW 63 63, fIn 62 61 0 2, fRW 60 60, fRW 59 57, fRW 56 56, fIn 55 48 96 127, fIn 47 40 96 127, fIn 39 30 1 600,
      fRO 29 0]
  | .witDst => pRW 11 16 8
  | .witUdpPort => pRW 11 2 8
  | .witAckPort => pRW 11 2 8
  | .witAckKey => pMap 11 32 8 [fWO 255 0]
  | .witAckTimeoutMs => pIn 11 2 100 10000 8
  | .witMetaRetainS => pIn 11 2 60 3600 8
  | .witVideoRetainS => pIn 11 2 0 300 8
  | .witRc => pRW 11 4 8 6
  | .witStat => pRO 11 4 8 8
  | .ipuPortCfg => pMap 12 4 4 [fRW 31 31, fRW 30 30, fIn 29 28 0 2, fRW 27 27, fRW 26 26, fRW 25 22, fRW 21 14, fRW 13 8, fIn 7 6 0 2,
      fRW 5 2, fIn 1 0 0 2]
  | .ipuCamCfg => pMap 12 8 4 [fIn 63 48 64 8192, fIn 47 32 64 8192, fIn 31 28 0 4, fRW 27 24, fRW 23 21, fRW 20 20, fIn 19 16 1 15, fRW 15 0]
  | .ipuOutCfg => pMap 12 8 4 [fIn 63 48 64 7680, fIn 47 32 64 7680, fIn 31 28 1 3, fIn 27 24 10 10, fIn 23 20 1 2, fRO 19 0]
  | .ipuMergeSat => pRW 12 2 4
  | .ipuMergeBand => pRW 12 2 4
  | .ipuTapEn => pMap 12 1 4 [fRO 7 6, fRW 5 0]
  | .ipuTapRing => { block := 12, size := 16, a := 4, b := 6, fields := [fRO 127 112, fRW 111 64, fRO 63 4, fIn 3 0 1 8] }
  | .ipuEmbSel => pRW 12 4 4 4
  | .ipuStat => pRO 12 4 4 11
  | .pltOutCfg => pMap 13 4 8 [fRW 31 31, fRW 30 30, fIn 29 28 0 2, fRW 27 27, fRW 26 19, fRW 18 18, fIn 17 14 0 8, fRO 13 0] true
  | .pltOutPhase => { block := 13, size := 12, a := 8, fields := fullTimeFields }
  | .pltPostLut => { block := 13, size := 24576, a := 8, unit := 2, fields := [fRW 15 0], shadow := true }
  | .pltOutFrame => pRO 13 8 8
  | .pltSliceDmin => pRO 13 4 8
  | .pltHoldBase => pRO 13 6 8
  | .pltOutStat => pRO 13 4 8 8
  | .pltLayerCfg => pMap 13 8 256 [fRW 63 63, fRW 62 60, fRW 59 54, fIn 53 52 0 2, fIn 51 44 0 191, fIn 43 42 0 2, fRW 41 34, fRW 33 33,
      fIn 32 31 0 2, fRW 30 30, fRO 29 8, fRO 7 4, fRO 3 0] true
  | .pltLayerDst => pMap 13 8 256 dstFields true
  | .pltLayerCrop => pRW 13 8 256 1 true
  | .pltLayerBuf => pMap 13 16 256 [fRO 127 104, fIn 103 100 0 3, fIn 99 84 1 8192, fIn 83 68 1 8192, fOk 67 48 fun v => v % 64 == 0,
      fOk 47 0 fun v => v % 256 == 0] true
  | .pltLayerFill => pMap 13 8 256 [fRO 63 36, fRW 35 24, fRW 23 12, fRW 11 0] true
  | .pltLayerLive => pMap 13 4 256 [fRW 31 31, fRW 30 30, fRW 29 29, fRO 28 26, fIn 25 24 1 3, fRO 23 13, fRW 12 0] true
  | .pltPreLut => { block := 13, size := 6144, a := 256, unit := 2, fields := [fRW 15 0], shadow := true }
  | .pltFailbackN => pIn 13 2 60 6000
  | .pltBmStatus => pRO 13 8
  | .datProofCfg => pMap 14 4 192 [fIn 31 16 20 2000, fIn 15 8 4 255, fIn 7 2 1 63, fRW 1 1, fRW 0 0]
  | .datSentRect => { block := 14, size := 8, a := 192, b := 2, fields := [fOk 63 48 mul16, fOk 47 32 mul16,
      fOk 31 16 fun v => mul16 v && decide (v ≤ 256), fOk 15 0 fun v => mul16 v && decide (v ≤ 256)] }
  | .datFreezeEventMs => pIn 14 2 100 60000
  | .datHoldoverTrustMs => pIn 14 2 0 60000
  | .datSinkCrcEn => pMap 14 1 8 [fRO 7 1, fRW 0 0]
  | .datSinkCrcPeriod => pIn 14 1 1 60 8
  | .datSinkMismatchLimit => pIn 14 1 1 16 8
  | .datGlyphEn => pMap 14 1 8 [fRO 7 1, fRW 0 0]
  | .carState => pRO 15 4 8
  | .grtFeCfg => pMap 16 8 4 feFields
  | .grtSelfCfg => pMap 16 8 1 (feFields.map fun f => if f.lo = 52 ∨ f.lo = 45 then { f with ok := fun _ => true } else f)
  | .grtSelfGroup => pMap 16 2 16 [fRW 15 15, fIn 14 13 0 2, fRW 12 9, fRW 8 6, fRO 5 0]
  | .grtStuckS => pIn 16 4 10 86400
  | .grtBaseStore => pMap 16 1 1 [fWO 7 0]
  | .grtStatus => pRO 16 4 5
  | .grtRing => pMap 16 8 9 [fOk 63 16 fun v => v % 4096 == 0, fIn 15 12 6 12, fRW 11 11, fRO 10 0]
  | .grtRingWr => pRO 16 4 9
  | .grtRingRd => pRW 16 4 9
  | .grtStat => pRO 16 4 5 4
  | .hapCfg => pMap 17 4 8 [fRW 31 31, fRW 30 30, fRW 29 29, fIn 28 20 50 300, fIn 19 12 1 255, fRW 11 4, fRO 3 0]
  | .hapWave => pRW 17 32 8 8
  | .hapStat => pRO 17 4 8 3
  | .audPortCfg => pMap 18 4 2 [fRW 31 31, fRW 30 30, fRW 29 29, fIn 28 27 0 2, fRW 26 26, fRW 25 25, fRW 24 24, fRO 23 0]
  | .audInBuf => pMap 18 8 32 [fOk 63 16 fun v => v % 4096 == 0, fIn 15 11 12 20, fRO 10 0]
  | .audInWr => pRW 18 4 32
  | .audInRd => pRO 18 4 32
  | .audInCfg => pMap 18 4 32 [fRW 31 31, fRW 30 30, fRW 29 20, fRO 19 0]
  | .audRoute => pRW 18 2 32
  | .audSlotAtt => pRW 18 2 16
  | .audAlertBuf => pMap 18 8 1 [fOk 63 16 fun v => v % 4096 == 0, fIn 15 11 12 20, fRO 10 0]
  | .audAlertWr => pRW 18 4
  | .audAlertRd => pRO 18 4
  | .audAlertCfg => pMap 18 4 1 [fRW 31 31, fRW 30 30, fRW 29 20, fIn 19 10 0 400, fRO 9 0]
  | .audAlertRoute => pRW 18 2
  | .audStat => pRO 18 4 33 2
  | .memDramCfg => pRO 19 8
  | .memPartnerMib => { block := 19, size := 2, fields := [fOk 15 0 fun v => decide (v ≤ 16384) && v % 2 == 0] }
  | .memEccLast => pRO 19 6
  | .memStat => pRO 19 4 4 9
  | .xbrQos => pRO 20 1 24
  | .xbrPageHint => pRO 20 1 24
  | .xbrRemap => pRO 20 1
  | .xbrStat => pRO 20 4 12 4
  | .bndRegion => pRO 21 16 24 32
  | .bndCommit => pMap 21 4 1 [fRO 31 0]
  | .bndViol => pRO 21 24
  | .talCfg => pMap 22 8 16 [fRW 63 63, fRW 62 61, fIn 60 59 0 2, fRW 58 54, fIn 53 52 1 3, fRW 51 51, fRW 50 40, fRO 39 0]
  | .talBase => pRW 22 6 16
  | .talLimit => pRW 22 6 16
  | .talMatch => pMap 22 10 16 [fRW 79 64, fRW 63 32, fRW 31 0]
  | .talValue => pRO 22 8 16
  | .talCount => pRO 22 4 16
  | .talStatus => pMap 22 4 16 [fRO 31 16, fRO 15 2, fW1C 1 1, fW1C 0 0]
  | .lnkEthCfg => pMap 23 8 8 [fRW 63 63, fRW 62 62, fIn 61 60 0 2, fIn 59 46 1280 9194, fRW 45 45, fRW 44 33, fRW 32 30, fRW 29 24,
      fIn 23 16 0 32, fIn 15 8 0 128, fRO 7 0]
  | .lnkEthMac => pRW 23 6 8
  | .lnkEthIp4 => pRW 23 4 8
  | .lnkEthGw4 => pRW 23 4 8
  | .lnkEthIp6 => pRW 23 16 8
  | .lnkEthGw6 => pRW 23 16 8
  | .lnkEthEq => pMap 23 4 8 eqFields
  | .lnkEthStat => pRO 23 4 8 7
  | .lnkH0Bar2Size => pIn 23 1 28 36
  | .lnkH1Bar2Size => pIn 23 1 28 36
  | .lnkH0OutBase => { block := 23, size := 8, fields := [fOk 63 0 fun v => v % 2 ^ 46 == 0] }
  | .lnkH1OutBase => { block := 23, size := 8, fields := [fOk 63 0 fun v => v % 2 ^ 46 == 0] }
  | .lnkDpCfg => pMap 23 8 8 [fRW 63 63, fIn 62 60 0 6, fIn 59 58 0 2, fRW 57 56, fRW 55 55, fRW 54 54, fRW 53 53, fRO 52 0] true
  | .lnkDpTiming => pMap 23 24 8 [fRW 191 160, fRW 159 144, fOk 143 128 fun v => v % 8 == 0, fRW 127 112, fRW 111 96, fRW 95 80, fRW 79 64,
      fRW 63 48, fRW 47 32, fRW 31 31, fRW 30 30, fRO 29 0] true
  | .lnkDpEdid => { block := 23, size := 1024, a := 8, unit := 1, fields := [fRO 7 0] }
  | .lnkDpStatus => pRO 23 4 8
  | .lnkEyeVstep => pRO 23 4 6
  | .mdkCfg => pMap 24 4 2 [fRW 31 31, fRW 30 23, fRW 22 22, fRW 21 20, fRO 19 0]
  | .mdkStatus => pRO 24 4 2
  | .mdkEq => { block := 24, size := 4, a := 2, b := 4, fields := eqFields }
  | .mdkStat => pRO 24 4 2 8
  | .mdkBarrierCfg => pMap 24 8 1 [fIn 63 48 2000 10000, fIn 47 32 1000 8000, fIn 31 20 100 2000, fIn 19 16 1 8, fIn 15 3 60 6000, fRO 2 0]
  | .mdkMirror => pRO 24 2 192
  | .secOtpState => { block := 25, size := 328, unit := 1, fields := [fRO 7 0] }
  | .secMeas => { block := 25, size := 48, unit := 1, fields := [fRO 7 0] }
  | .secMeasCount => pRO 25 2
  | .secTamperCfg => pMap 25 2 4 [fRW 15 15, fRW 14 14, fIn 13 8 1 63, fRW 7 7, fRW 6 6, fRW 5 5, fRO 4 0]
  | .secTamperLog => pRO 25 8 16
  | .fltQuar => pRO 26 8
  | .fltLog => pRO 26 16 64

end Sys2Proof

namespace Sys2Proof.Machine

/-- The stride of the elements of a parameter (19 R502). -/
def PInfo.stride (i : PInfo) : Nat := max 4 (ceilPow2 i.size)

/-- The count of the second index rounded up to a power of two (19 R502). -/
def PInfo.bPow (i : PInfo) : Nat := ceilPow2 i.b

/-- The bytes of the whole value (19 R502, R504). -/
def PInfo.bytes (i : PInfo) : Nat := ((i.a - 1) * i.bPow + i.b) * i.stride

/-- The stored units of an element. -/
def PInfo.units (i : PInfo) : Nat := i.size / i.unit

/-- The element `[x][y]` as one number. -/
def PInfo.elem (i : PInfo) (x y : Nat) : Nat := x * i.b + y

/-- Where a byte offset of a value lies: the index `[x][y]` of its element, the stored unit in it and the byte in that unit, or none
between elements (19 R502). -/
def PInfo.place (i : PInfo) (off : Nat) : Option (Nat × Nat × Nat) :=
  let e := off / i.stride
  let r := off % i.stride
  let x := e / i.bPow
  let y := e % i.bPow
  if x < i.a && y < i.b && r < i.size then
    some (i.elem x y, r / i.unit, r % i.unit)
  else none

/-- The stored unit `u` of element `e` as one number. -/
def PInfo.slot (i : PInfo) (e u : Nat) : Nat := e * i.units + u

/-- Default QoS of a crossbar master (01 Table 1.5). -/
def qosReset (m : Nat) : Nat :=
  [10, 14, 8, 8, 8, 8, 12, 12, 12, 12, 4, 6, 6, 9, 8, 11, 11, 7, 7, 11, 11, 9, 5, 1].getD m 0

/-- Default page hint of a crossbar master (13 Table 13.6): 0 auto, 1 open, 2 close. -/
def hintReset (m : Nat) : Nat :=
  [2, 2, 0, 0, 0, 0, 1, 1, 1, 1, 1, 0, 0, 1, 0, 1, 1, 2, 2, 1, 1, 2, 1, 2].getD m 0

/-- Table 8.2's reset values of a rate-control set, in its order. -/
def rcReset (k : Nat) : Nat := [0, 6000, 250, 125, 30, 30].getD k 0

end Sys2Proof.Machine

namespace Sys2Proof

open Machine

/-- The reset value of stored slot `s` of a parameter (its chapter's tables). -/
def Par.resetVal (p : Par) (s : Nat) : Nat :=
  match p with
  | .clkVrCfg => 0x40A00000
  | .clkVcoreFuse => Config.vcoreFuse
  | .bshCfg => 0xBB805F6400000000
  | .bshCost => Config.fusedCost s
  | .bshSrcPrio => 1
  | .rstWdtMs => 500
  | .rstSafeResetMs => 5000
  | .sesPortCfg =>
    (1 <<< 63) + (if s = 0 ∨ s = 4 then 1 <<< 62 else 0) + (4 <<< 56) + (if s = 3 then 1 <<< 53 else 0)
      + (if s = 2 then 0x1CE8 <<< 36 else if s = 3 then 0x1CE9 <<< 36 else 0) + (0x64 <<< 16) + (0x14 <<< 8)
  | .tenDrainMs => 1000
  | .srcAllow => 0xC8
  | .srcJbMs => 0x32
  | .srcLateMs => 0x64
  | .srcLossMs => 0x1F4
  | .srcBufKib => 0x400
  | .srcDpiEdid => Config.dpiEdid (s / 512) (s % 512)
  | .timPtpCfg => (1 <<< 19) + (1 <<< 18)
  | .timStepThreshNs => 100000
  | .timLockThreshNs => 1000
  | .timMaxSlewPpb => 100000
  | .timPortLatRx => Config.portLat true s 0 0
  | .timPortLatTx => Config.portLat false s 0 0
  | .timTsiCfg => (1 <<< 29) + (2 <<< 16) + (1 <<< 12)
  | .timTsoCfg => 1
  | .decCfg => 4 <<< 24
  | .encMonCfg => (0x78 <<< 41) + (0x87 <<< 30) + (0x1E <<< 23)
  | .encRc => rcReset (s % 6)
  | .witCfg => (1 <<< 63) + (0x60 <<< 48) + (0x61 <<< 40) + (0x3C <<< 30)
  | .witUdpPort => 0x1388
  | .witAckPort => 0x1389
  | .witAckTimeoutMs => 0x3E8
  | .witMetaRetainS => 0x258
  | .witVideoRetainS => 0x1E
  | .witRc => rcReset (s % 6)
  | .ipuPortCfg => (2 <<< 28) + (1 <<< 26) + (0xE4 <<< 14) + (0x2B <<< 8)
  | .ipuCamCfg => 2 <<< 16
  | .pltOutCfg => (1 <<< 30) + (2 <<< 28)
  | .pltPostLut => (16 * (s % 4096) * 65535) / 65535
  | .pltLayerCfg => 0xFF <<< 34
  | .pltLayerLive => (1 <<< 30) + (1 <<< 24) + 0xFA
  | .pltPreLut => (4 * (s % 1024) * 65535) / 4095
  | .pltFailbackN => 600
  | .datProofCfg => (0xC8 <<< 16) + (0x20 <<< 8) + (1 <<< 2)
  | .datFreezeEventMs => 1000
  | .datHoldoverTrustMs => 5000
  | .datSinkCrcEn => 1
  | .datSinkCrcPeriod => 1
  | .datSinkMismatchLimit => 3
  | .datGlyphEn => 1
  | .grtFeCfg | .grtSelfCfg =>
    (1 <<< 62) + (4 <<< 58) + (0x30 <<< 52) + (0x50 <<< 45) + (0x78 <<< 37) + (0x40 <<< 29) + (1 <<< 28) + (0x78 <<< 18) + (0x50 <<< 8)
  | .grtStuckS => 1800
  | .grtRing => 6 <<< 12
  | .hapCfg => (1 <<< 29) + (0xAF <<< 20) + (0x64 <<< 12) + (0x96 <<< 4)
  | .audPortCfg => (1 <<< 30) + (2 <<< 27) + (1 <<< 26) + (1 <<< 25)
  | .memPartnerMib => 1024
  | .xbrQos => qosReset s
  | .xbrPageHint => hintReset s
  | .talCfg => 2 <<< 52
  | .lnkEthCfg => (0x5DC <<< 46) + (5 <<< 30) + (0x2E <<< 24) + (0x18 <<< 16) + (0x40 <<< 8)
  | .lnkEthMac => Config.ethMac s
  | .lnkEyeVstep => Config.eyeVstep s % 2 ^ 32
  | .lnkEthEq | .mdkEq => (3 <<< 12) + (0x34 <<< 6) + 8
  | .lnkH0Bar2Size | .lnkH1Bar2Size => 32
  | .lnkDpCfg => (4 <<< 60) + (2 <<< 58) + (2 <<< 56) + (1 <<< 53)
  | .mdkCfg => (0xE4 <<< 23) + (1 <<< 22)
  | .mdkBarrierCfg => (0x1388 <<< 48) + (0xBB8 <<< 32) + (0x3E8 <<< 20) + (2 <<< 16) + (0x258 <<< 3)
  | .secTamperCfg => 0xA120
  | _ => 0

/-- The key of a stored slot in the parameter fabric; a shadowed parameter has a second copy, in force (19 R508). -/
def Par.key (p : Par) (slot : Nat) (inForce : Bool) : Nat :=
  (p.ctorIdx * 2 ^ 24 + slot) * 2 + inForce.toNat

/-- The parameter of an address (19 R501, R504): the block in [19:12] and the index in [11:0]. Index 0 of a block is its descriptor, SYS.UNITS and
PLT.LAYER_DST have the indices that 19 R501 and Table 19.5 give, and the rest of KMS-P9-PL is not in the spec. -/
def parAt (addr : Nat) : Option Par :=
  let blk := addr / 4096 % 256
  let k := blk * 4096 + addr % 4096
  if blk < 1 ∨ 26 < blk then none
  else if addr % 4096 = 0 then some (.blockInfo blk)
  else if k = 0x1001 then some .sysUnits
  else if k = 0xD021 then some .pltLayerDst
  else (Config.parOfAddr k).filter fun p => p.info.block == blk

end Sys2Proof
end

