-- ==== Sys2Proof/Machine/State.lean ====
section
/-!
DEFINITION. The state of the block as plain data: every register, buffer, counter, mode and pin that the spec gives it, and the queue of
the commands that wait.
-/

namespace Sys2Proof.Machine

/-! ### Events, replies and what leaves the part -/

/-- An event (10 R284, R285): its code, TENANCY, TIME in ns, EPOCH, ON, OBJECT, GEN, OUT and DATA. -/
structure Event where
  code : Nat
  tenancy : Nat := 0
  time : Ns := 0
  epoch : Nat := 0
  on : Bool := false
  object : Nat
  gen : Nat := 0
  out : Nat := 0xFF
  data : Bytes := []
  deriving DecidableEq, Repr

/-- What the part sends out, newest first in `Dev.sent`: replies and events of the protocol, ring entries, and the frames, pulses
and pin changes of its other interfaces. Every number is the one the rule named beside it gives. -/
inductive Out where
  | reply (port session seq opcode status phase : Nat) (trunc background : Bool) (body : Bytes)
  | event (port session number : Nat) (p : Option Bool) (e : Event)
  | completion (ep page ring tag replyLen status phase sqHead : Nat) (p trunc ringError : Bool)
  | msix (ep vector : Nat)
  | busRead (ep : Nat) (data : Bytes) (poisoned : Bool)
  | busWrite (ep addr : Nat) (data : Bytes)
  | completerAbort (ep : Nat) (posted : Bool)
  | membership (port group : Nat) (join : Bool)
  | neighbourReply (port ip mac : Nat)
  | neighbourRequest (port ip : Nat)
  | ethSend (port : Nat) (kind : Nat) (body : Bytes)
  | onEth (port : Nat) (tag : Option (Nat × Nat)) (dscp : Nat) (o : Out)
  | mdk (port kind seq : Nat) (body : Bytes)
  | hpd (input : Nat) (asserted : Bool)
  | pulse (tso : Nat) (active : Bool)
  | band (out band check : Nat) (held : Bool)
  | record (out segment rseq : Nat) (signed : Bool)
  | picture (stream : Nat) (monitor : Bool) (bits : Nat)
  | haptic (driver waveform amplitude : Nat) (drive : List (Int × Nat))
  | audio (port : Nat) (samples : List Int)
  | rstOut (high : Bool)
  | supplyEn (high : Bool)
  | vout (mv : Nat)
  | memData (master addr : Nat) (data : Bytes) (error poisoned : Bool)
  | memAck (master addr : Nat) (error : Bool)
  | powerGate (island : Nat) (on : Bool)
  | ptp (port kind : Nat)
  deriving DecidableEq, Repr

/-! ### The command protocol (10) -/

/-- A slot of the replay window (10 R271): EMPTY slots are not listed. -/
inductive Slot where
  | hole | run | done
  deriving DecidableEq, Repr

/-- Where the reply of a command that a ring carried goes (10 R257): the ring, the TAG and REPLY_MAX of its entry. -/
structure Via where
  ring : Nat
  tag : Nat
  replyMax : Nat
  deriving DecidableEq, Repr

/-- A command that is accepted and has yet to start (10 R271). -/
structure Waiting where
  h : Hdr
  op : IcpOp
  via : Option Via := none
  /-- accepted after the admission of its tenancy had closed (11 R298): it returns NOT_PERMITTED -/
  late : Bool := false
  deriving DecidableEq, Repr

/-- The record of a number in the replay window: its slot, its traverse record (10 Table 10.7a) and the cached reply (10 R273). -/
structure Rec where
  seq : Nat
  slot : Slot
  opcode : Nat := 0
  session : Nat := 0
  status : Nat := 0xFFFF
  /-- the STATUS of the original reply, 0xFFFF before it (10 R273) -/
  orig : Nat := 0xFFFF
  phase : Nat := 0
  nPhase : Nat := 0
  safeMax : Nat := 0
  inProgress : Bool := false
  rst : Bool := false
  fault : Bool := false
  squashed : Bool := false
  items : Nat := 0
  replied : Bool := false
  cached : Bytes := []
  replyLen : Nat := 0
  via : Option Via := none
  tenancy : Nat := 0
  deriving DecidableEq, Repr

/-- An open session (10 R254, R266 to R275, R286). `cfg` is the copy of SES.PORT_CFG that the open took (10 R255); `mediator`, `timeoutMs` and
`holeMs` come from it. -/
structure Session where
  sid : Nat
  port : Nat
  role : Nat
  mediator : Bool
  peer : Nat
  cfg : Nat
  timeoutMs : Nat
  holeMs : Nat
  h : Nat := 0
  recs : List Rec := []
  waiting : List Waiting := []
  evNo : Nat := 0
  undelivered : List (Nat × Event) := []
  lost : Nat := 0
  lostFirst : Nat := 0
  mask : Nat := 0
  deriving DecidableEq, Repr

/-- The key of a port or page (10 R267). -/
structure PortKey where
  kind : Nat
  salt : Bytes
  key : Bytes
  deriving DecidableEq, Repr

/-- A handshake that waits for SESSION_AUTH (10 R266). -/
structure Attempt where
  role : Nat
  peer : Nat
  sid : Nat
  hostNonce : Bytes
  devNonce : Bytes
  deriving DecidableEq, Repr

/-- What a port keeps beside its session (10 R266 to R268). -/
structure PortSt where
  key : Option PortKey := none
  attempt : Option Attempt := none
  fails : Nat := 0
  locked : Bool := false
  lockSecs : Nat := 0
  deriving DecidableEq, Repr

/-- A ring of a BAR0 page (10 R256, R257); tails and heads count entries since the ring was enabled. -/
structure Ring where
  cfg : RingCfg := ⟨0, 0, 0, 0, 0, false⟩
  sqHead : Nat := 0
  cqTail : Nat := 0
  cqHead : Nat := 0
  /-- entries that a doorbell brought while Bursol did not run: they wait in host memory (16 R435) -/
  held : List SubEntry := []
  deriving DecidableEq, Repr

/-- The event ring of a page (10 Table 10.3). -/
structure EvtRing where
  base : Nat := 0
  log2 : Nat := 0
  msix : Nat := 0
  en : Bool := false
  tail : Nat := 0
  head : Nat := 0
  deriving DecidableEq, Repr

/-! ### Time (03) -/

/-- The states of the time unit (03 Table 3.3, Table 3.4). -/
inductive TimSt where
  | freeRun | acquiring | locked | holdover | slewing
  deriving DecidableEq, Repr

/-- A step of the device clock (03 Table 3.12). -/
structure StepEntry where
  size : Int
  epoch : Nat
  after : Ns
  auto : Bool
  deriving DecidableEq, Repr

/-- A timestamp input (03 R85, R86): its FIFO of 128-bit records, oldest first. -/
structure TsiSt where
  fifo : List Nat := []
  count : Nat := 0
  lastEdge : Option Ns := none
  ovfPending : Bool := false
  /-- the session that enabled the input, as (port, identifier) -/
  session : Option (Nat × Nat) := none
  deriving DecidableEq, Repr

/-- The time unit (03 R68 to R81). Times of the wait rules are in elapsed ns since reset, which a step does not move. -/
structure TimeU where
  s : BitVec 48 := 0
  ns : BitVec 30 := 0
  f : BitVec 32 := 0
  adj : BitVec 32 := 0
  epoch : BitVec 4 := 0
  elapsed : Ns := 0
  log : List StepEntry := []
  st : TimSt := .freeRun
  stepNeeded : Bool := false
  firstStepDone : Bool := false
  slavePort : Nat := 0xF
  gmValid : Bool := false
  gmId : Nat := 0
  offset : Int := 0
  utcOffset : Nat := 0
  smpte : Nat := 0
  valid : Nat := 0
  inLock : Nat := 0
  beyond : Nat := 0
  rates : List Int := []
  integ : Int := 0
  lastValid : Option Ns := none
  lastStep : Option Ns := none
  holdFromLocked : Bool := false
  trustOver : Bool := false
  tsi : List (Nat × TsiSt) := []
  tsoActive : List Nat := []
  tsoNext : List (Nat × Ns) := []
  deriving DecidableEq, Repr

/-! ### Pictures and their stamps (02) -/

/-- A Datum stamp (02 Table 2.1); times in ns of the device clock. -/
structure Stamp where
  hbCtr : Nat := 0
  epoch : Nat
  evid : Nat := 0
  gen : Nat
  check : Nat := 0
  ing : Ns
  cap : Ns
  taint : Nat := 0
  capsrc : Nat
  proof : Nat := 0
  slice : Nat
  src : Nat
  seq : Nat
  deriving DecidableEq, Repr

/-- A picture with its final stamps, the start of its run of equal CHECK values (02 R44), the epoch-expired mark of its buffer
(02 R45), whether it was decoded in full (05 R137) and its place in output order. -/
structure Pic where
  stamp : Stamp
  slices : List Stamp := []
  runStart : Option Ns := none
  expired : Bool := false
  full : Bool := true
  width : Nat := 0
  height : Nat := 0
  poc : Int := 0
  deriving DecidableEq, Repr

/-! ### Sources and ingest (04) -/

/-- Source states (04 Table 4.6). -/
inductive SrcSt where
  | off | seeking | running | lost | format
  deriving DecidableEq, Repr

/-- An RTP picture in the packet buffer (04 R100): its packets by extended sequence number with their ingest times, how it
closed, and the SEQ and slice stamps it has once slices have left. -/
structure PicBuf where
  ts : Nat
  firstIng : Ns
  jbMs : Nat
  lateMs : Nat
  allow : Nat
  pkts : List (Nat × RtpPkt × Ns) := []
  marker : Option Nat := none
  closedLater : Option Nat := none
  expired : Bool := false
  seq : Option Nat := none
  left : Nat := 0
  stamps : List Stamp := []
  hbCap : Option (Option Ns) := none
  /-- not in the configured format, so it cannot be accepted; carries FORMAT (04 R111) -/
  bad : Bool := false
  format : Bool := false
  mark : Bool := false
  deriving DecidableEq, Repr

/-- An accepted picture on its way through decode: the slices ingest released (index, gap mark, stamp), whether it has left whole,
its transport counter, its SPS, its payload bits, the ingest time of its heartbeat message. -/
structure AccPic where
  seq : Nat
  gen : Nat
  slices : List (Nat × Bool × Stamp) := []
  whole : Bool := false
  transport : Nat := 0
  sps : Option Sps := none
  bits : Nat := 0
  /-- discardable under 05 R136 -/
  disc : Bool := false
  /-- DAT.PROOF_CFG and the numbers of writes to the two sentinel rectangles as ingest accepted it (02 R37, R41) -/
  proof : Nat × Nat × Nat := (0, 0, 0)
  done : List Nat := []
  mark : Bool := false
  deriving DecidableEq, Repr

/-- Ingest state of a source entry (04). -/
structure Src where
  st : SrcSt := .off
  outOfRange : Bool := false
  hbSeen : Bool := false
  lastCapsrc : Nat := 0
  lastTaint : Nat := 0
  lastIng : Option Ns := none
  waitMs : Nat := 0
  lostAt : Ns := 0
  highest : Option Nat := none
  ssrc : Option Nat := none
  /-- the 16-bit number of `highest` as it was received, and the RTP timestamp of the last picture that left -/
  rawHigh : Nat := 0
  lastTs : Option Nat := none
  sps : Option Sps := none
  cand : List (RtpPkt × Ns) := []
  pics : List PicBuf := []
  prevHigh : Option Nat := none
  seen : List Nat := []
  nextSeq : Nat := 0
  fmt : Option Format := none
  newFmt : Option Format := none
  fmtRun : Nat := 0
  ivals : List Nat := []
  lastPicIng : Option Ns := none
  /-- the ingest time of the first packet of the last RTP picture that left (07 R186) -/
  firstIng : Option Ns := none
  dpiCount : Nat := 0
  hpdLow : Bool := false
  prevTransport : Option Nat := none
  -- the heartbeat (02 R39, R40)
  hbLast : Option Nat := none
  hbAdvance : Option Ns := none
  hbNeed : Nat := 0
  hbPeriodRun : Bool := false
  hbPassed : Bool := false
  -- the sentinels, the noise test and the freeze run (02 R37, R38, R44)
  /-- for each picture, newest first, the CRC of each rectangle beside the number of writes that had set it -/
  sentHist : List (List (Option (Nat × Nat))) := []
  rectWrites : Nat × Nat := (0, 0)
  gridPrev : List Nat := []
  noiseHeld : Bool := false
  runCheck : Option Nat := none
  runStart : Option Ns := none
  runRaised : Bool := false
  deriving DecidableEq, Repr

/-! ### Decode (05) -/

/-- A refresh cycle of a taint state (05 Table 5.3): the recovery point it waits for, or the pictures left of an assumed cycle. -/
inductive Cycle where
  | none
  | recovery (start : Int) (count : Nat) (mod : Nat)
  | assumed (left : Nat)
  deriving DecidableEq, Repr

/-- A picture that a mirror gathers (15 R417): its SEQ, the rows that have arrived, its whole-picture stamp, the stamps of its units by SLICE, and
the epoch-expired mark. -/
structure MirrorPic where
  seq : Nat
  rows : List Nat := []
  whole : Option Stamp := none
  stamps : List Stamp := []
  mark : Bool := false
  deriving DecidableEq, Repr

/-- Decode state of a source (05). -/
structure Dec where
  engine : Option Nat := none
  load : Nat := 0
  reserved : Option Nat := none
  sps : Option Sps := none
  queue : List AccPic := []
  cur : Option AccPic := none
  curHead : Option PicHead := none
  curStamps : List Stamp := []
  curCause : Option Nat := none
  overrun : Bool := false
  craSeen : Bool := false
  lastOrder : Int := 0
  pending : Bool := false
  cycle : Cycle := .none
  waiting : Bool := false
  dropRasl : Bool := false
  held : List Pic := []
  pics : List Pic := []
  lastOut : Option Pic := none
  hidden : Bool := true
  suspended : Bool := false
  movePending : Option (Nat × Nat) := none
  bitWindow : List (Ns × Nat) := []
  /-- of a mirror (15 R417): the picture that arrives -/
  mirror : Option MirrorPic := none
  deriving DecidableEq, Repr

/-- A decode engine (05 R120, R140): OVERCOMMIT, and the jobs that ended in the last second with their lengths. -/
structure DecEng where
  overcommit : Bool := false
  window : List (Ns × Nat) := []
  deriving DecidableEq, Repr

/-! ### The camera image pipeline (06) -/

/-- An announced exposure set (06 R158, R159). -/
structure ExpSet where
  tag : Nat
  sets : List Exposure
  target : Nat
  embedded : Bool
  framesLeft : Nat := 16
  port : Nat := 0
  session : Nat := 0
  seq : Nat := 0
  deriving DecidableEq, Repr

/-- An exposure as it is received (06 R153, R154): its lines so far, and whether it has closed. -/
structure ExpRx where
  lines : Nat := 0
  closed : Bool := false
  deriving DecidableEq, Repr

/-- A frame of a pipe from the FS of exposure 0 on (06 R154 to R157): its extended frame number, its CSI-2 frame number, the time of that FS with the
EPOCH and HOLDOVER taken there, the GEN of its source, its exposures, the embedded values read, and ING_TIME once stage 1 has all of it. -/
structure CamSet where
  e : Nat
  fn : Nat
  fs : Ns
  epoch : Nat
  holdover : Bool
  gen : Nat
  exps : List (Nat × ExpRx)
  emb : List Nat := []
  cropPad : Bool := false
  discard : Bool := false
  ing : Option Ns := none
  mark : Bool := false
  deriving DecidableEq, Repr

/-- An exposure whose FS came before the FS of the exposure 0 with its frame number (06 R154, R156): its lines so far, whether any of it was cropped
or padded, and whether the input buffer overflowed. -/
structure EarlyExp where
  exp : Nat
  fn : Nat
  fs : Ns
  rx : ExpRx := {}
  cropPad : Bool := false
  overflow : Bool := false
  deriving DecidableEq, Repr

/-- A reprocessing job (06 R151). -/
structure Reproc where
  port : Nat
  session : Nat
  seq : Nat
  inAddr : Nat
  outAddr : Nat
  outLen : Nat
  pipe : Nat
  deriving DecidableEq, Repr

/-- The header of a statistics buffer (06 R161); the sums in the buffer come from samples that the model does not hold. -/
structure StatHead where
  seq : Nat
  frame : Nat
  gen : Nat
  cap : Ns
  tag : Nat
  taint : Nat
  deriving DecidableEq, Repr

/-- A pipe (06): the configuration its last FS took (R144, R147), the extended frame number (R160), the frames in it, oldest first, lines that came
without an FS, exposures that are discarded and exposures ahead of their exposure 0 (R154), the exposure sets (R158, R159), the runs that an event tells of once, the headers in the statistics
ring by buffer (R161), the stamps of tapped buffers by address (R150), and those of reprocessed outputs (R152). -/
structure Pipe where
  port : Nat := 0
  cam : Nat := 0
  e : Nat := 0
  fPrev : Option Nat := none
  sets : List CamSet := []
  stray : List (Nat × Nat) := []
  void : List Nat := []
  early : List EarlyExp := []
  inForce : Option ExpSet := none
  pend : List ExpSet := []
  applied : Bool := false
  unknownRun : Bool := false
  overrunRun : Bool := false
  sizeRun : Bool := false
  statsIdx : Nat := 0
  stats : List (Nat × StatHead) := []
  tapIdx : List (Nat × Nat) := []
  taps : List (Nat × Stamp) := []
  outs : List (Nat × Stamp) := []
  reproc : List Reproc := []
  deriving DecidableEq, Repr

/-! ### Plates, outputs and the cartouche (07) -/

/-- The parameters of a layer that a commit carries (07 Table 7.4); `lut` lists the entries of its pre-blend table. -/
structure LayerVals where
  cfg : Nat
  dst : Nat
  crop : Nat
  buf : Nat
  fill : Nat
  live : Nat
  lut : List (Nat × Nat) := []
  deriving DecidableEq, Repr

/-- The parameters of an output that a commit carries (07 Table 7.1, 14 R392); `lut` lists the entries of its post-blend table. -/
structure OutVals where
  cfg : Nat
  dpCfg : Nat
  timing : Nat
  lut : List (Nat × Nat) := []
  deriving DecidableEq, Repr

/-- A layer commit that is armed (07 R180, R181): the command that made it (port 0xFF: the device itself), the values it carries for its outputs
and layers and the outputs on which it has yet to apply, with the frames it applied at. -/
structure ArmedCommit where
  port : Nat
  session : Nat
  seq : Nat
  tenancy : Nat
  mediator : Bool
  mask : Nat
  left : Nat
  outs : List (Nat × OutVals) := []
  layers : List (Nat × LayerVals) := []
  frames : List (Nat × Nat) := []
  deriving DecidableEq, Repr

/-- A cartouche commit that is armed on outputs (07 R190). -/
structure ArmedCart where
  port : Nat
  session : Nat
  seq : Nat
  bank : Nat
  mask : Nat
  left : Nat
  deriving DecidableEq, Repr

/-- How a layer is shown in the frame in progress (07 R175, R176, R182): its current picture and its scale factors in 1/65536. -/
structure LayerSt where
  pic : Option Pic := none
  /-- the picture size that the factors were set for, (0, 0) after a commit -/
  size : Nat × Nat := (0, 0)
  scaleX : Nat := 65536
  scaleY : Nat := 65536
  stale : List (Nat × Ns) := []
  lateRun : Bool := false
  errRun : Bool := false
  visible : Bool := false
  deriving DecidableEq, Repr

/-- A tile as the last composed frame left it: its summary (02 Table 2.8) and its expiry time for a hold (02 R64). -/
structure TileSt where
  summary : Nat := 0
  expiry : Option Ns := none
  deriving DecidableEq, Repr

/-- A pixel as it was sent: its place, its three component codes, and whether it is of the cartouche. -/
structure SentPx where
  x : Nat
  y : Nat
  r : Nat
  g : Nat
  b : Nat
  cart : Bool
  deriving DecidableEq, Repr

/-- An output (07 R164 to R200, 02 R53 to R66). -/
structure Output where
  raster : Bool := false
  frame : Nat := 0
  /-- the frame whose commit point came last, the number of the next, and a stop at the next frame start (07 R181) -/
  cp : Nat := 0
  cpNext : Nat := 0
  stopping : Bool := false
  /-- composition or the link goes off at the next frame start (07 R191) -/
  offNext : Bool := false
  /-- layers that this output composes otherwise than by their values in force, while a move between outputs is under way (07 R181) -/
  over_ : List (Nat × LayerVals) := []
  /-- whether a plate composes the frame from band 0 (07 R181) -/
  fromBand0 : Bool := false
  frameLocked : Bool := false
  errNs : Int := 0
  tiles : List (Nat × TileSt) := []
  bandsDone : List Nat := []
  bandCheck : List (Nat × Nat) := []
  bandPx : List (Nat × List SentPx) := []
  heldBands : List Nat := []
  holdFrame : Option Nat := none
  holdTiles : List (Nat × TileSt) := []
  holdBands : List (Nat × Nat) := []
  holdPx : List (Nat × List SentPx) := []
  /-- the layers whose label this frame has placed (02 R51) -/
  labelled : List Nat := []
  witnessTiles : List (Nat × TileSt) := []
  witnessBands : List (Nat × Nat) := []
  witnessPx : List (Nat × List SentPx) := []
  witnessHeld : Bool := false
  heldRun : Nat := 0
  glyphBytes : List (Nat × Bytes) := []
  /-- the 16 expected values that the composed glyph cell is checked against, and the band that holds the cell -/
  glyphExp : List Nat := []
  glyphBand : Nat := 0
  /-- the reference time of band 0 of the frame that leaves -/
  ref0 : Ns := 0
  glyphOk : Bool := false
  glyphRun : Nat := 0
  sinkOk : Bool := false
  sinkRun : Nat := 0
  unwitnessed : Bool := false
  sinkResult : Option (List Nat × List Nat × Bool) := none
  cartCommitted : Bool := false
  cartBank : Nat := 0
  noticeDrawn : Bool := false
  barrierOut : Bool := false
  barrierHold : Bool := false
  commitFlag : Bool := false
  cartFlag : Bool := false
  curCommit : Bool := false
  curCart : Bool := false
  stepsSeen : Nat := 0
  offCause : Bool := false
  deriving DecidableEq, Repr

/-- A plate (07 R195 to R197): who drives its outputs and its way back. -/
structure Plate where
  quarantined : Bool := false
  resetDone : Bool := false
  run : Nat := 0
  failover : Bool := false
  backAtFrame : Bool := false
  deriving DecidableEq, Repr

/-- The bench-mark compare (07 R192, R193, R198). -/
structure Bench where
  lfsr : Nat := 1
  compares : Nat := 0
  mismatches : Nat := 0
  stage : Nat := 0
  out : Nat := 0
  band : Nat := 0
  plate : Nat := 0
  standIn : Option Nat := none
  /-- elapsed ns from which PLS composes for the plate it stands in for (07 R195) -/
  standFrom : Ns := 0
  waiting : List Nat := []
  deriving DecidableEq, Repr

/-! ### Encoding and the witness recorder (08) -/

/-- The rate control of a stream (08 R207 to R210): the bits in the CPB as an exact fraction, the sizes of its last pictures, the
place in its refresh cycle. -/
structure RcSt where
  full : Rat := 0
  started : Bool := false
  sizes : List Nat := []
  cyclePos : Nat := 0
  idrDue : Bool := true
  coarseRun : Bool := false
  engine : Option Nat := none
  running : Bool := false
  hbCounter : Nat := 0
  lastSeq : Option Nat := none
  /-- of a monitoring stream: its OWNER, taken when EN was set (08 R205, 10 R513) -/
  owner : Nat := 0
  deriving DecidableEq, Repr

/-- A checkpoint in audit MRAM (08 R216): SEGMENT, RSEQ, CHAIN. -/
structure Ckpt where
  segment : Nat
  rseq : Nat
  chain : Bytes
  deriving DecidableEq, Repr

/-- A witness record that is kept for a resend (08 R220). -/
structure WRec where
  rseq : Nat
  type : Nat
  bytes : Bytes
  chain : Bytes
  signed : Bool
  sent : Bool
  au : Bool
  /-- elapsed ns at which it was made, from which retention counts -/
  at_ : Ns
  deriving DecidableEq, Repr

/-- A FRAME record that waits for its picture to be coded or given up (08 R211, R222): its frame, reference time, flags without those of the
picture, level, epoch, sections, and whether a picture of it is due. -/
structure WPend where
  frame : Nat
  ref : Ns
  flags : Nat
  wlevel : Nat
  epoch : Nat
  sections : List (Nat × Bytes)
  due : Bool
  gapCode : Nat := 0
  deriving DecidableEq, Repr

/-- The recorder of an output (08 R211 to R223). -/
structure Wit where
  started : Bool := false
  segment : Nat := 0
  rseq : Nat := 0
  chain : Bytes := []
  slotA : Option Ckpt := none
  slotB : Option Ckpt := none
  writeB : Bool := false
  ckptPending : Option Ckpt := none
  lost : Bool := false
  lastAck : Nat := 0
  recs : List WRec := []
  chainLog : List (Nat × Bytes) := []
  pend : List WPend := []
  /-- the lost (RSEQ, KIND) that a GAP record has named -/
  gapped : List (Nat × Nat) := []
  gapRun : Bool := false
  on : Bool := false
  rc : RcSt := {}
  deriving DecidableEq, Repr

/-! ### The Bushel scheduler and power states (09) -/

/-- The device states (09 Table 9.12 STATE). -/
inductive PowSt where
  | active | enterNight | night | waking | enterStandby | standby
  deriving DecidableEq, Repr

/-- The command that started a transition (09 R244). -/
structure PowCmd where
  port : Nat
  session : Nat
  seq : Nat
  deriving DecidableEq, Repr

/-- The scheduler (09). Energies are in grains, exactly. `cfg` is BSH.CFG as the frame in progress took it; `bThermFrame` is the B_therm that it uses. -/
structure Bushel where
  st : PowSt := .active
  phase : Nat := 0
  cmd : Option PowCmd := none
  queued : List (Nat × PowCmd) := []
  wakeQueued : Bool := false
  composedBefore : Nat := 0
  cfg : Nat := 0xBB805F64_00000000
  bTherm : Nat := 48000
  bThermFrame : Nat := 48000
  bFrame : Rat := 0
  running : Bool := false
  level : Nat := 0
  fits : Nat := 0
  allow : Rat := 0
  debt : Rat := 0
  base : Rat := 0
  c : Rat := 0
  l : Rat := 0
  a : Rat := 0
  cOver : Bool := false
  excluded : List Nat := []
  tMax : Int := 0
  tMaxSensor : Nat := 0
  tripRun : Nat := 0
  highRaised : Bool := false
  suspended : List Nat := []
  islandsOn : List Nat := []
  pllStopped : List Nat := []
  deriving DecidableEq, Repr


/-! ### Tenancies (11) -/

/-- The states of a tenancy (11 Table 11.1). -/
inductive TenSt where
  | absent | creating | active | frozen | resetting | removing | incomplete
  deriving DecidableEq, Repr

/-- What a tenancy's background command is doing (11 R294 to R306). -/
inductive TenJob where
  | create | configure | reset | remove | freeze | restore | thaw
  deriving DecidableEq, Repr

/-- A background command of a tenancy: the commands (port, session, number) that it answers, the one that started it first, its MODE, the last
phase completed, the outputs whose commit point it still waits for, the commands it squashed, what it was given (the key of TENANCY_CREATE, the image of
TENANCY_RESTORE, the owners that TENANCY_CONFIGURE changes), whether a removal has erased the memory, and the removals that wait behind a reset (11 R301). -/
structure TenRun where
  job : TenJob
  cmds : List (Nat × Nat × Nat)
  mode : Nat := 0
  phase : Nat := 1
  outs : Nat := 0
  squashed : Nat := 0
  given : Bytes := []
  erased : Bool := false
  removes : List ((Nat × Nat × Nat) × Nat) := []
  deriving DecidableEq, Repr

/-- A tenancy (11). `closed` is phase 2 of Table 11.4: admission is closed. -/
structure Ten where
  st : TenSt := .absent
  cls : Nat := 0
  grant : Bytes := []
  restored : Bool := false
  closed : Bool := false
  runs : List TenRun := []
  pool : List (Nat × Nat) := []
  deriving DecidableEq, Repr

/-! ### Touch, haptics and audio (12) -/

/-- A contact (12 R312, R313, R320): its ID, the node of its peak, its position and peak delta, its anchor and when it was set, its
recipient and region, and what has been reported of it. -/
structure Contact where
  id : Nat
  sense : Nat
  drive : Nat
  x : Nat
  y : Nat
  z : Nat
  ax : Nat
  ay : Nat
  at_ : Ns
  recipient : Option Nat
  region : Nat
  stuck : Bool := false
  fresh : Bool := true
  deriving DecidableEq, Repr

/-- A front-end or (index 4) the self-capacitance block (12). -/
structure FrontEnd where
  enabled : Bool := false
  freq : Nat := 0
  baseSrc : Nat := 0
  suspect : Bool := false
  /-- the baselines in counts, keyed frequency × 8192 + node (R311, R314), and when a node last drifted (R315) -/
  base : List (Nat × Int) := []
  driftAt : List (Nat × Ns) := []
  /-- frames left of a recalibration, its channels (self-capacitance), the sums of the deltas seen in it, and the commands that wait (R316) -/
  recal : Nat := 0
  recalMask : Nat := 0
  acc : List (Nat × Int) := []
  waits : List (Nat × Nat × Nat) := []
  /-- the averaged noise power of the sixteen frequencies (R311) -/
  noise : List Rat := []
  hopRun : Nat := 0
  lastHop : Option Ns := none
  hopped : Bool := false
  frames : Nat := 0
  /-- the nodes (or groups) at or above TOUCH_TH in the frame before -/
  starting : List Nat := []
  contacts : List Contact := []
  firstScan : Bool := false
  stretched : Bool := false
  deriving DecidableEq, Repr

/-- The two copies of a unit's commissioning baseline in audit MRAM (12 R314): none where a copy fails its check. -/
structure BaseStore where
  a : Option (List (Nat × Int)) := none
  b : Option (List (Nat × Int)) := none
  newerB : Bool := true
  deriving DecidableEq, Repr

/-- What a report ring keeps beside its registers (12 R323). -/
structure RingSt where
  dropped : Nat := 0
  ovfMark : Bool := false
  outstanding : Bool := false
  deriving DecidableEq, Repr

/-- A queued play (12 R326). -/
structure Play where
  waveform : Nat
  amplitude : Nat
  times : Nat
  deriving DecidableEq, Repr

/-- A haptic driver (12 R325, R326). -/
structure Haptic where
  queue : List Play := []
  stopped : Bool := false
  openLoop : Bool := false
  peak : Nat := 0
  deriving DecidableEq, Repr

/-- The mixer (12 R327 to R331): the alert, the duck ramp in samples of 0 to 240, and the limiter of each slot in 1/2^31 (12 R330). -/
structure Audio where
  alertActive : Bool := false
  emptySince : Option Ns := none
  duck : Nat := 0
  lim : List (Nat × Nat) := []
  deriving DecidableEq, Repr


/-! ### Memory, crossbar and boundary units (13) -/

/-- A violation report (13 Table 13.9). -/
structure Viol where
  time : Ns
  addr : Nat
  master : Nat
  region : Nat
  kind : Nat
  claim : Nat
  tag : Nat
  imprecise : Bool := false
  decode : Bool := false
  ovf : Bool := false
  epoch : Nat
  count : Nat := 1
  deriving DecidableEq, Repr

/-- A DRAM channel (13 R337 to R345): a lasting fault, the refreshes postponed, the ranks whose calibration a panic holds. -/
structure DramCh where
  faulted : Bool := false
  postponed : Nat := 0
  zqDeferred : List Nat := []
  deriving DecidableEq, Repr

/-- The memory system (13). Memory is one sparse byte map over the internal address map of 01 Table 1.7. Boundary regions are keyed by
master × 32 + region; page tags that the tag engine has set are runs (first page, last page, tag), the newest first. -/
structure MemSys where
  cells : List Host.Cell := []
  poison : List (Nat × Bool) := []
  tags : List (Nat × Nat × Nat) := []
  regions : List (Nat × Nat) := []
  staged : List (Nat × Nat) := []
  viol : List Viol := []
  ovfPending : Bool := false
  remap : Bool := false
  trained : Bool := false
  trainTemp : Option Int := none
  chans : List (Nat × DramCh) := []
  panics : List Nat := []
  lastGrant : List (Nat × Nat) := []
  cartBad : List Nat := []
  denials : List Ns := []
  debugDetached : Bool := false
  /-- cartouche words rewritten (13 R350) -/
  cartRepairs : Nat := 0
  deriving DecidableEq, Repr

/-! ### Serial lanes and external links (14) -/

/-- A neighbour entry (14 R372): its MAC once resolved, and the attempts made. -/
structure Neigh where
  mac : Option Nat := none
  attempts : Nat := 0
  /-- the packets that wait for it, each with its priority -/
  waiting : List (Nat × Out) := []
  made : Ns := 0
  deriving DecidableEq, Repr

/-- An Ethernet port (14 R370 to R374): its link, its neighbour table by address, the frames that wait to be sent with their
priorities (R373), its multicast groups. -/
structure EthPort where
  up : Bool := false
  neigh : List (Nat × Neigh) := []
  tx : List (Nat × Out) := []
  groups : List Nat := []
  groupRepeat : List Nat := []
  deriving DecidableEq, Repr

/-- The states of a Mindanko port (14 Table 14.6). -/
inductive MdkSt where
  | down | startup | active | idle | recovery | test
  deriving DecidableEq, Repr

/-- A Mindanko port (14 R382 to R390). -/
structure Mdk where
  st : MdkSt := .down
  rxUp : Bool := false
  peerRxUp : Bool := false
  inv : Nat := 0
  skew : Nat := 0
  txSeq : Nat := 0
  replay : List (Nat × Nat × Bytes) := []
  waiting : List (Nat × Bytes) := []
  expect : Nat := 0
  sinceAck : Nat := 0
  ackDue : Bool := false
  nakOut : Bool := false
  resends : Nat := 0
  eidleSent : Bool := false
  eidleRcvd : Bool := false
  commas : Bool := false
  deriving DecidableEq, Repr

/-- A PCIe endpoint (14 R375 to R380): its link, the MSI-X masks and pending bits of its 72 vectors. -/
structure Pcie where
  up : Bool := false
  /-- log2 of the BAR2 size since the last fundamental reset (14 R376) -/
  bar2Log : Nat := 32
  masked : List Nat := List.range 72
  pendingVec : List Nat := []
  aer : Nat := 0
  deriving DecidableEq, Repr

/-- A DisplayPort output link (14 R392 to R394): HPD, the link, the rate and lanes in use, a retry that is due. -/
structure DpLink where
  hpd : Bool := false
  up : Bool := false
  training : Bool := false
  rate : Nat := 0
  lanes : Nat := 0
  deriving DecidableEq, Repr

/-- An eye scan in progress on a quad (14 R395). -/
structure EyeScan where
  port : Nat
  session : Nat
  seq : Nat
  lane : Nat
  dest : Nat
  deriving DecidableEq, Repr

/-! ### Atlas and Sheet chains (15) -/

/-- A READY as the acting Atlas holds it (15 Table 15.3). -/
structure Ready where
  late : Bool := false
  frame : Nat
  staged : Nat
  inForce : Nat
  flags : Nat
  status : Nat
  deriving DecidableEq, Repr

/-- A GO (15 Table 15.3). -/
structure Go where
  frame : Nat
  apply : Nat
  inForce : Nat
  exclude : Nat
  ndev : Nat
  last : Bool
  original : Bool
  barrier : Nat
  step : Int
  src : Nat
  deriving DecidableEq, Repr

/-- A layout that is staged or in force (15 R413, R414). -/
structure Layout where
  id : Nat
  ndev : Nat
  image : Bytes
  sections : List (Nat × Nat × List ParItem)
  routes : List (List Nat)
  deriving DecidableEq, Repr

/-- A CHAIN_LAYOUT in progress (15 R414). -/
structure LayoutRun where
  port : Nat
  session : Nat
  seq : Nat
  id : Nat
  /-- the frame of the GO that carries it, once sent, and the positions that GO excluded -/
  target : Option Nat := none
  exclude : Nat := 0
  deriving DecidableEq, Repr

/-- The chain logic (15). Links are by Mindanko port 0 or 1. -/
structure Chain where
  role : Nat := 0
  position : Nat := 0
  chainId : Nat := 0
  acting : Option Nat := none
  standby : Option Nat := none
  inForce : Option Layout := none
  staged : Option Layout := none
  stageFail : Nat := 0
  run : Option LayoutRun := none
  /-- the wall frame whose barrier deadline has passed -/
  passed : Option Nat := none
  inService : List Nat := []
  miscabled : List Nat := []
  /-- hop counts learnt from DISCOVER: (port, position, hops, role, elapsed ns) -/
  hops : List (Nat × Nat × Nat × Nat × Ns) := []
  bids : List (Nat × Nat × Ns) := []
  bid : Nat := 0
  wallFrame : Nat := 0
  ready : List (Nat × Ready) := []
  go : Option Go := none
  goFrame : Option Nat := none
  excluded : Bool := false
  missed : Bool := false
  missedRun : Nat := 0
  waiting : Bool := false
  listening : Bool := true
  /-- the layout in force on the wall, as the acting Atlas names it in GO -/
  wallForce : Nat := 0
  fewRun : Nat := 0
  takeback : Nat := 0
  lastPending : Bool := false
  stepPending : Option (Int × Nat × Nat × Nat) := none
  exclRun : List (Nat × Nat) := []
  exclNow : List Nat := []
  summaries : List (Nat × Bytes) := []
  resetCount : Nat := 0
  resetSent : List (Nat × Nat) := []
  topology : Nat := 0
  reach : Nat := 0
  routeLost : List Nat := []
  deriving DecidableEq, Repr


/-! ### Reset, faults and tally units (16) -/

/-- A fault record (16 Table 16.12). -/
structure FaultRec where
  time : Ns
  unit : Nat
  sub : Nat
  code : Nat
  severity : Nat
  verdict : Nat
  epoch : Nat
  merged : Nat := 0
  seq : Nat
  deriving DecidableEq, Repr

/-- The fault logic (16 R440 to R447): the queue (the record being handled first), FLT.LOG newest first, the quarantined units as
(UNIT, SUB), the units whose block reset runs, and the counts of NOTE faults and of faults in SAFE. -/
structure Faults where
  handling : Bool := false
  queue : List FaultRec := []
  log : List FaultRec := []
  /-- the copy in retained SRAM (16 Table 16.9) -/
  retained : List FaultRec := []
  quar : List (Nat × Nat) := []
  seq : Nat := 0
  counted : List (Nat × Nat) := []
  safe : Bool := false
  deriving DecidableEq, Repr

/-- Where a reset in progress stands (16 R427, R431): stretched, or released and waiting for the option loader. -/
inductive RstStage where
  | idle | stretch | loading
  deriving DecidableEq, Repr

/-- The reset controller (16 R425 to R438, R448). -/
structure Rst where
  cause : Nat := 0x01
  level : Nat := 0
  history : Nat := 0x1
  maintenance : Bool := false
  optSrc : Nat := 0
  tornA : Bool := false
  tornB : Bool := false
  loadRestarts : Nat := 0
  aoCleared : Bool := true
  stage : RstStage := .stretch
  wasLoading : Bool := false
  rstOutLow : Bool := true
  thermalHold : Bool := false
  pllGood : Nat := 0
  blkSrst : Nat := 0xFF_F3FF_FFFF
  blkDefer : Nat := 0
  deferRaised : Nat := 0
  /-- blocks whose block reset runs, each with whether a command asked for it (true) or the fault logic (false) -/
  blkRun : List (Nat × Bool) := []
  coreTimes : List Ns := []
  aoTime : Ns := 0
  halted : List Nat := []
  /-- RST.WDT_MS and RST.SAFE_RESET_MS as the option loader applied them (16 R437, R447) -/
  wdtMs : Nat := 500
  safeResetMs : Nat := 5000
  bursol : Bool := false
  waitSupply : Bool := false
  deriving DecidableEq, Repr

/-- A tally channel's running message (16 R451 to R453). -/
structure Tally where
  alive : Option Nat := none
  lastAlive : Nat := 0
  gap : Bool := false
  rep : Bool := false
  short : Nat := 0
  deriving DecidableEq, Repr


/-! ### Security, boot and supplies (17, 18) -/

/-- The image that Bursol was started from (17 R458 to R464). -/
structure Running where
  digest : Bytes := []
  svn : Nat := 0
  release : Nat := 0
  commitSvn : Bool := false
  uploaded : Bool := false
  /-- elapsed ns at its start, and whether a CORE reset has come since (17 R464) -/
  since : Ns := 0
  coreReset : Bool := false
  deriving DecidableEq, Repr

/-- A SERVICE visit (17 R470 to R472). -/
structure Service where
  gen : Nat
  durationS : Nat
  since : Ns
  deriving DecidableEq, Repr

/-- The boot mailbox (17 R461): STATUS [3:0] and the status of R460 after a rejection. -/
structure Mailbox where
  waiting : Bool := false
  status : Nat := 0
  code : Nat := 0
  addr : Nat := 0
  len : Nat := 0
  deriving DecidableEq, Repr

/-- OTP fuses, boot, attestation, audit and tamper inputs (17). The lifecycle groups and ROOT_REVOKE hold the number of their blown
fuses; a group counts as blown from three on (17 Table 17.1). -/
structure Sec where
  fuseOpen : Nat := 0
  fuseSealed : Nat := 0
  fuseRetired : Nat := 0
  fuseSpare : Nat := 0
  idKey : Bool := false
  endorsement : Bytes := List.replicate 96 0
  rootHash : List (Nat × Bytes) := []
  rootRevoke : List (Nat × Nat) := []
  svnBursol : Nat := 0
  svnService : Nat := 0
  flash : List (Nat × Bytes) := []
  mailbox : Mailbox := {}
  running : Running := {}
  cartReleased : Bool := false
  staging : List (Nat × Byte) := []
  stagedLen : Nat := 0
  meas : Bytes := List.replicate 48 0
  measCount : Nat := 0
  challenge : Option (Bytes × Ns) := none
  service : Option Service := none
  serviceSinceBoot : Bool := false
  /-- SEQ and CHAIN of the newest entry of the audit log, which itself lies in audit MRAM (17 R473) -/
  auditSeq : Nat := 0
  auditChain : Bytes := List.replicate 48 0
  tamperLog : List Nat := []
  tamperUncopied : Nat := 0
  tamperSafe : Bool := false
  tamperExit : Bool := false
  aoPair : Option (Nat × Ns) := none
  deriving DecidableEq, Repr

/-- Supplies and the core regulator (18 R485 to R487). -/
structure Sup where
  supplyEn : Bool := false
  pgood : Bool := false
  started : Bool := false
  /-- CLK.VR_CFG as the option loader applied it (18 R485) -/
  vr : Nat := 0x40A00000
  vcore : Nat := 750
  target : Option Nat := none
  raising : Bool := false
  tries : Nat := 0
  deriving DecidableEq, Repr

/-! ### The device and the machine -/

/-- Everything the spec gives the part. Sparse maps (lists of key and value, canonical as in SMap.lean) hold what is indexed: an
unlisted index holds the structure's default. -/
structure Dev where
  -- fuses, the parameter fabric, the free-value counter and what left the part
  units : Nat := Config.unitsFused
  p9c : Bool := Config.isP9C
  regs : List (Nat × Nat) := []
  free : Nat := 0
  sent : List Out := []
  -- the protocol (10)
  sessions : List Session := []
  ports : List (Nat × PortSt) := []
  rings : List (Nat × Ring) := []
  evtRings : List (Nat × EvtRing) := []
  pages : List (Nat × Nat) := []
  /-- commands of closed sessions that are still in flight, as (port, session, number) (10 R270, R275), and
  the retained traverse logs of the partner ports, newest first (10 R279) -/
  orphans : List (Nat × Nat × Nat) := []
  travLogs : List (Nat × List Rec) := []
  -- time (03)
  tim : TimeU := {}
  -- sources and decode (04, 05)
  srcs : List (Nat × Src) := []
  decs : List (Nat × Dec) := []
  engs : List (Nat × DecEng) := []
  -- image pipeline (06)
  pipes : List (Nat × Pipe) := []
  -- plates and outputs (07)
  outs : List (Nat × Output) := []
  plates : List (Nat × Plate) := []
  layers : List (Nat × LayerSt) := []
  bench : Bench := {}
  commits : List ArmedCommit := []
  carts : List ArmedCart := []
  -- encode and the recorder (08): eight recorders, eight monitoring streams
  wits : List (Nat × Wit) := []
  mons : List (Nat × RcSt) := []
  -- power (09)
  bsh : Bushel := {}
  -- tenancies (11)
  tens : List (Nat × Ten) := []
  -- console (12): front-ends 0 to 3 and (4) the self-capacitance block
  fes : List (Nat × FrontEnd) := []
  baseStores : List (Nat × BaseStore) := []
  touchRings : List (Nat × RingSt) := []
  nextContact : Nat := 0
  haps : List (Nat × Haptic) := []
  aud : Audio := {}
  -- memory (13)
  mem : MemSys := {}
  -- links (14)
  eths : List (Nat × EthPort) := []
  mdks : List (Nat × Mdk) := []
  pcies : List (Nat × Pcie) := []
  dps : List (Nat × DpLink) := []
  scans : List (Nat × EyeScan) := []
  -- chains (15)
  chain : Chain := {}
  -- reset, faults, tally (16)
  flt : Faults := {}
  rst : Rst := {}
  tals : List (Nat × Tally) := []
  -- security and supplies (17, 18)
  sec : Sec := {}
  sup : Sup := {}
  deriving DecidableEq, Repr

/-- Why a command stops. -/
inductive Fault where
  /-- Raised by every meaning for a command that names an object the part does not have (an Ethernet port 9, an output 12): the spec
  gives no such command, so it has no effect. Safe (notes/assumptions/2.md). -/
  | illFormed
  deriving DecidableEq, Repr

/-- Why a command has no meaning. -/
inductive Refusal where
  /-- Raised by an arm of `exec` whose command has no meaning yet; safe. -/
  | notModelled (mnemonic : String)
  deriving DecidableEq, Repr

/-- The machine: the commands that wait, first in, first out, and the device. -/
structure State where
  pending : List Instr := []
  dev : Dev := {}
  deriving DecidableEq, Repr

/-- The device in the COLD reset that powering VDD_AO takes (16 R426, 18 R487): every parameter at its reset value (19 R510), no session, no
tenancy, the AO domain cleared, cause COLD recorded, and the stretch waiting for the supplies. -/
def Dev.reset : Dev := { rst := { waitSupply := true }, sup := { supplyEn := true } }

/-- The machine right after reset: no command waits. -/
def State.reset : State := { pending := [], dev := Dev.reset }

end Sys2Proof.Machine
end

