-- ==== Sys2Proof/Machine/Ops.lean ====
section
/-!
DEFINITION. The named operations over the device: its indexed units, the parameter fabric, the clock, free values and what it sends; and the
one form that every command's meaning has.
-/

namespace Sys2Proof.Machine

/-- The form of every meaning: a command that names objects of the part has its effect on the device and leaves the queue; one that names
an object the part does not have faults (notes/assumptions/2.md). -/
def onDev (wf : Bool) (f : Dev → Dev) (s : State) : Host.Outcome State Fault Refusal :=
  if wf then .next { s with dev := f s.dev } else .fault .illFormed

/-! ### The indexed units -/

/-- The source entry (04) number `n`. -/
def Dev.src (d : Dev) (n : Nat) : Src := smGet {} d.srcs n
/-- The device with that unit replaced. -/
def Dev.setSrc (d : Dev) (n : Nat) (x : Src) : Dev := { d with srcs := smSet {} d.srcs n x }
/-- The device with that unit changed. -/
def Dev.modSrc (d : Dev) (n : Nat) (f : Src → Src) : Dev := d.setSrc n (f (d.src n))

/-- The decode state of a source (05) number `n`. -/
def Dev.dec (d : Dev) (n : Nat) : Dec := smGet {} d.decs n
/-- The device with that unit replaced. -/
def Dev.setDec (d : Dev) (n : Nat) (x : Dec) : Dev := { d with decs := smSet {} d.decs n x }
/-- The device with that unit changed. -/
def Dev.modDec (d : Dev) (n : Nat) (f : Dec → Dec) : Dev := d.setDec n (f (d.dec n))

/-- The decode engine (05) number `n`. -/
def Dev.eng (d : Dev) (n : Nat) : DecEng := smGet {} d.engs n
/-- The device with that unit replaced. -/
def Dev.setEng (d : Dev) (n : Nat) (x : DecEng) : Dev := { d with engs := smSet {} d.engs n x }
/-- The device with that unit changed. -/
def Dev.modEng (d : Dev) (n : Nat) (f : DecEng → DecEng) : Dev := d.setEng n (f (d.eng n))

/-- The camera pipe (06) number `n`. -/
def Dev.pipe (d : Dev) (n : Nat) : Pipe := smGet {} d.pipes n
/-- The device with that unit replaced. -/
def Dev.setPipe (d : Dev) (n : Nat) (x : Pipe) : Dev := { d with pipes := smSet {} d.pipes n x }
/-- The device with that unit changed. -/
def Dev.modPipe (d : Dev) (n : Nat) (f : Pipe → Pipe) : Dev := d.setPipe n (f (d.pipe n))

/-- The output (07) number `n`. -/
def Dev.out (d : Dev) (n : Nat) : Output := smGet {} d.outs n
/-- The device with that unit replaced. -/
def Dev.setOut (d : Dev) (n : Nat) (x : Output) : Dev := { d with outs := smSet {} d.outs n x }
/-- The device with that unit changed. -/
def Dev.modOut (d : Dev) (n : Nat) (f : Output → Output) : Dev := d.setOut n (f (d.out n))

/-- The plate (07) number `n`. -/
def Dev.plate (d : Dev) (n : Nat) : Plate := smGet {} d.plates n
/-- The device with that unit replaced. -/
def Dev.setPlate (d : Dev) (n : Nat) (x : Plate) : Dev := { d with plates := smSet {} d.plates n x }
/-- The device with that unit changed. -/
def Dev.modPlate (d : Dev) (n : Nat) (f : Plate → Plate) : Dev := d.setPlate n (f (d.plate n))

/-- The layer (07) number `n`. -/
def Dev.layer (d : Dev) (n : Nat) : LayerSt := smGet {} d.layers n
/-- The device with that unit replaced. -/
def Dev.setLayer (d : Dev) (n : Nat) (x : LayerSt) : Dev := { d with layers := smSet {} d.layers n x }
/-- The device with that unit changed. -/
def Dev.modLayer (d : Dev) (n : Nat) (f : LayerSt → LayerSt) : Dev := d.setLayer n (f (d.layer n))

/-- The recorder of an output (08) number `n`. -/
def Dev.wit (d : Dev) (n : Nat) : Wit := smGet {} d.wits n
/-- The device with that unit replaced. -/
def Dev.setWit (d : Dev) (n : Nat) (x : Wit) : Dev := { d with wits := smSet {} d.wits n x }
/-- The device with that unit changed. -/
def Dev.modWit (d : Dev) (n : Nat) (f : Wit → Wit) : Dev := d.setWit n (f (d.wit n))

/-- The monitoring stream (08) number `n`. -/
def Dev.mon (d : Dev) (n : Nat) : RcSt := smGet {} d.mons n
/-- The device with that unit replaced. -/
def Dev.setMon (d : Dev) (n : Nat) (x : RcSt) : Dev := { d with mons := smSet {} d.mons n x }
/-- The device with that unit changed. -/
def Dev.modMon (d : Dev) (n : Nat) (f : RcSt → RcSt) : Dev := d.setMon n (f (d.mon n))

/-- The tenancy (11) number `n`. -/
def Dev.ten (d : Dev) (n : Nat) : Ten := smGet {} d.tens n
/-- The device with that unit replaced. -/
def Dev.setTen (d : Dev) (n : Nat) (x : Ten) : Dev := { d with tens := smSet {} d.tens n x }
/-- The device with that unit changed. -/
def Dev.modTen (d : Dev) (n : Nat) (f : Ten → Ten) : Dev := d.setTen n (f (d.ten n))

/-- The touch front-end, or the self-capacitance block at 4 (12) number `n`. -/
def Dev.fe (d : Dev) (n : Nat) : FrontEnd := smGet {} d.fes n
/-- The device with that unit replaced. -/
def Dev.setFe (d : Dev) (n : Nat) (x : FrontEnd) : Dev := { d with fes := smSet {} d.fes n x }
/-- The device with that unit changed. -/
def Dev.modFe (d : Dev) (n : Nat) (f : FrontEnd → FrontEnd) : Dev := d.setFe n (f (d.fe n))

/-- The report ring of a recipient (12) number `n`. -/
def Dev.tring (d : Dev) (n : Nat) : RingSt := smGet {} d.touchRings n
/-- The device with that unit replaced. -/
def Dev.setTring (d : Dev) (n : Nat) (x : RingSt) : Dev := { d with touchRings := smSet {} d.touchRings n x }
/-- The device with that unit changed. -/
def Dev.modTring (d : Dev) (n : Nat) (f : RingSt → RingSt) : Dev := d.setTring n (f (d.tring n))

/-- The haptic driver (12) number `n`. -/
def Dev.hap (d : Dev) (n : Nat) : Haptic := smGet {} d.haps n
/-- The device with that unit replaced. -/
def Dev.setHap (d : Dev) (n : Nat) (x : Haptic) : Dev := { d with haps := smSet {} d.haps n x }
/-- The device with that unit changed. -/
def Dev.modHap (d : Dev) (n : Nat) (f : Haptic → Haptic) : Dev := d.setHap n (f (d.hap n))

/-- The Ethernet port (14) number `n`. -/
def Dev.eth (d : Dev) (n : Nat) : EthPort := smGet {} d.eths n
/-- The device with that unit replaced. -/
def Dev.setEth (d : Dev) (n : Nat) (x : EthPort) : Dev := { d with eths := smSet {} d.eths n x }
/-- The device with that unit changed. -/
def Dev.modEth (d : Dev) (n : Nat) (f : EthPort → EthPort) : Dev := d.setEth n (f (d.eth n))

/-- The Mindanko port (14) number `n`. -/
def Dev.mdk (d : Dev) (n : Nat) : Mdk := smGet {} d.mdks n
/-- The device with that unit replaced. -/
def Dev.setMdk (d : Dev) (n : Nat) (x : Mdk) : Dev := { d with mdks := smSet {} d.mdks n x }
/-- The device with that unit changed. -/
def Dev.modMdk (d : Dev) (n : Nat) (f : Mdk → Mdk) : Dev := d.setMdk n (f (d.mdk n))

/-- The PCIe endpoint (14) number `n`. -/
def Dev.pcie (d : Dev) (n : Nat) : Pcie := smGet {} d.pcies n
/-- The device with that unit replaced. -/
def Dev.setPcie (d : Dev) (n : Nat) (x : Pcie) : Dev := { d with pcies := smSet {} d.pcies n x }
/-- The device with that unit changed. -/
def Dev.modPcie (d : Dev) (n : Nat) (f : Pcie → Pcie) : Dev := d.setPcie n (f (d.pcie n))

/-- The DisplayPort output link (14) number `n`. -/
def Dev.dp (d : Dev) (n : Nat) : DpLink := smGet {} d.dps n
/-- The device with that unit replaced. -/
def Dev.setDp (d : Dev) (n : Nat) (x : DpLink) : Dev := { d with dps := smSet {} d.dps n x }
/-- The device with that unit changed. -/
def Dev.modDp (d : Dev) (n : Nat) (f : DpLink → DpLink) : Dev := d.setDp n (f (d.dp n))

/-- The tally channel (16) number `n`. -/
def Dev.tal (d : Dev) (n : Nat) : Tally := smGet {} d.tals n
/-- The device with that unit replaced. -/
def Dev.setTal (d : Dev) (n : Nat) (x : Tally) : Dev := { d with tals := smSet {} d.tals n x }
/-- The device with that unit changed. -/
def Dev.modTal (d : Dev) (n : Nat) (f : Tally → Tally) : Dev := d.setTal n (f (d.tal n))

/-- The port of a session (10 R266) number `n`. -/
def Dev.prt (d : Dev) (n : Nat) : PortSt := smGet {} d.ports n
/-- The device with that unit replaced. -/
def Dev.setPrt (d : Dev) (n : Nat) (x : PortSt) : Dev := { d with ports := smSet {} d.ports n x }
/-- The device with that unit changed. -/
def Dev.modPrt (d : Dev) (n : Nat) (f : PortSt → PortSt) : Dev := d.setPrt n (f (d.prt n))

/-- The ring (10 R256), numbered (endpoint × 16 + page) × 8 + ring number `n`. -/
def Dev.rng (d : Dev) (n : Nat) : Ring := smGet {} d.rings n
/-- The device with that unit replaced. -/
def Dev.setRng (d : Dev) (n : Nat) (x : Ring) : Dev := { d with rings := smSet {} d.rings n x }
/-- The device with that unit changed. -/
def Dev.modRng (d : Dev) (n : Nat) (f : Ring → Ring) : Dev := d.setRng n (f (d.rng n))

/-- The event ring of a page (10 R256), numbered endpoint × 16 + page number `n`. -/
def Dev.evr (d : Dev) (n : Nat) : EvtRing := smGet {} d.evtRings n
/-- The device with that unit replaced. -/
def Dev.setEvr (d : Dev) (n : Nat) (x : EvtRing) : Dev := { d with evtRings := smSet {} d.evtRings n x }
/-- The device with that unit changed. -/
def Dev.modEvr (d : Dev) (n : Nat) (f : EvtRing → EvtRing) : Dev := d.setEvr n (f (d.evr n))

/-! ### The parameter fabric (19) -/

/-- What stored slot `s` of a parameter holds (of a shadowed one, its shadow copy). -/
def Dev.get (d : Dev) (p : Par) (s : Nat := 0) : Nat := smGet (p.resetVal s) d.regs (p.key s false)

/-- The value of slot `s` in force: the second copy of a shadowed parameter (19 R508), the only copy of another. -/
def Dev.getF (d : Dev) (p : Par) (s : Nat := 0) : Nat := smGet (p.resetVal s) d.regs (p.key s p.info.shadow)

/-- Slot `s` set, at the width of its unit. -/
def Dev.put (d : Dev) (p : Par) (s v : Nat) : Dev :=
  { d with regs := smSet (p.resetVal s) d.regs (p.key s false) (v % 2 ^ (8 * p.info.unit)) }

/-- The copy in force of slot `s` set. -/
def Dev.putF (d : Dev) (p : Par) (s v : Nat) : Dev :=
  { d with regs := smSet (p.resetVal s) d.regs (p.key s p.info.shadow) (v % 2 ^ (8 * p.info.unit)) }

/-- A counter advanced by `n`, modulo its width. -/
def Dev.count (d : Dev) (p : Par) (s : Nat) (n : Nat := 1) : Dev := d.put p s (d.get p s + n)

/-- A counter of the array `[x][y]` advanced by `n`. -/
def Dev.count2 (d : Dev) (p : Par) (x y : Nat) (n : Nat := 1) : Dev := d.count p (p.info.elem x y) n

/-- Field `[hi:lo]` of slot `s`. -/
def Dev.fld (d : Dev) (p : Par) (s hi lo : Nat) : Nat := bits (d.get p s) hi lo

/-- Bit `[n]` of slot `s`. -/
def Dev.flag (d : Dev) (p : Par) (s n : Nat) : Bool := bit (d.get p s) n

/-- Field `[hi:lo]` of slot `s` in force. -/
def Dev.fldF (d : Dev) (p : Par) (s hi lo : Nat) : Nat := bits (d.getF p s) hi lo

/-- Bit `[n]` of slot `s` in force. -/
def Dev.flagF (d : Dev) (p : Par) (s n : Nat) : Bool := bit (d.getF p s) n

/-! ### The clock, free values, what is sent -/

/-- `ns(t)` of the device clock (02 R29). -/
def Dev.now (d : Dev) : Ns := d.tim.s.toNat * 1000000000 + d.tim.ns.toNat

/-- The device clock set to a time, which a step does (03 R78, R80). -/
def TimeU.setNow (t : TimeU) (n : Ns) : TimeU :=
  { t with s := BitVec.ofNat 48 (n / 1000000000), ns := BitVec.ofNat 30 (n % 1000000000) }

/-- The current epoch (02 R45). -/
def Dev.epoch (d : Dev) : Nat := d.tim.epoch.toNat

/-- A value the spec leaves open, fresh each time (notes/assumptions/3.md). -/
def Dev.fresh (d : Dev) : Nat × Dev := (Config.freeValue d.free, { d with free := d.free + 1 })

/-- `n` fresh bytes. -/
def Dev.freshBytes (d : Dev) (n : Nat) : Bytes × Dev :=
  ((List.range n).map fun i => BitVec.ofNat 8 (Config.freeValue (d.free + i)), { d with free := d.free + n })

/-- Something leaves the part. -/
def Dev.send (d : Dev) (o : Out) : Dev := { d with sent := o :: d.sent }

/-- A change for each element of a list, in its order. -/
def Dev.each {α : Type} (d : Dev) (l : List α) (f : Dev → α → Dev) : Dev := l.foldl f d

/-- A change made where a condition holds. -/
def Dev.when (d : Dev) (c : Bool) (f : Dev → Dev) : Dev := if c then f d else d

/-- A write to an outbound window goes to the host of its endpoint, at OUT_BASE and the offset in the window (14 R377). -/
def Dev.busWrite (d : Dev) (a : Nat) (b : Bytes) : Dev :=
  let ep := if a < 0xC00000000000 then 0 else 1
  d.send (.busWrite ep ((d.get (if ep = 0 then .lnkH0OutBase else .lnkH1OutBase) + a % 2 ^ 46) % 2 ^ 64) b)

/-! ### What leaves by an Ethernet port (14 R372, R373) -/

/-- What a frame carries as it leaves by a port (14 Table 14.3): the VLAN tag as its identifier and priority, with VLAN_EN, and the DSCP of its packet
where it is an IP packet. -/
def Dev.onEth (d : Dev) (port : Nat) (o : Out) : Out :=
  .onEth port (if d.flag .lnkEthCfg port 45 then some (d.fld .lnkEthCfg port 44 33, d.fld .lnkEthCfg port 32 30) else none)
    (d.fld .lnkEthCfg port 29 24) o

/-- A frame leaves by a port, or waits while its link is down. -/
def Dev.ethTx (d : Dev) (port prio : Nat) (o : Out) : Dev :=
  if (d.eth port).up then (d.send (d.onEth port o)).count2 .lnkEthStat port 1
  else d.modEth port fun e => { e with tx := e.tx ++ [(prio, o)] }

/-- A membership report (04 R97) leaves by a port whose link is up; a link that comes up draws reports of its own (14 R374). -/
def Dev.groupTx (d : Dev) (port group : Nat) (join : Bool) : Dev :=
  if (d.eth port).up then d.ethTx port 0 (.membership port group join) else d

/-- The address to which a packet for `dst` goes on the link (14 R372): `dst` within the port's prefix, else its gateway. -/
def Dev.nextHop (d : Dev) (port : Nat) (v6 : Bool) (dst : Nat) : Nat :=
  let w := if v6 then 128 else 32
  let len := if v6 then d.fld .lnkEthCfg port 15 8 else d.fld .lnkEthCfg port 23 16
  let own := if v6 then d.get .lnkEthIp6 port else d.get .lnkEthIp4 port
  if dst / 2 ^ (w - len) = own / 2 ^ (w - len) then dst else if v6 then d.get .lnkEthGw6 port else d.get .lnkEthGw4 port

/-- The neighbour entry of an address on a port. -/
def EthPort.entry (e : EthPort) (ip : Nat) : Neigh := smGet {} e.neigh ip

/-- The table holds 64 entries: the one made longest ago gives way (notes/assumptions/20.md). -/
def EthPort.roomForOne (e : EthPort) : EthPort :=
  if e.neigh.length < 64 then e
  else match argMin (fun (x : Nat × Neigh) => x.2.made) e.neigh with
    | some x => { e with neigh := e.neigh.filter (·.1 != x.1) }
    | none => e

/-- An IP packet leaves by a port: to a group or a resolved neighbour at once, else when its next hop is resolved. With no gateway there is
no next hop, and the packet is dropped. -/
def Dev.ipTx (d : Dev) (port : Nat) (v6 : Bool) (dst prio : Nat) (o : Out) : Dev :=
  if (if v6 then bits dst 127 120 == 0xFF else bits dst 31 28 == 0xE) then d.ethTx port prio o
  else
    let hop := d.nextHop port v6 dst
    let n := (d.eth port).entry hop
    if hop = 0 then d.count2 .lnkEthStat port 3
    else if n.mac.isSome then d.ethTx port prio o
    else if 0 < n.attempts then
      d.modEth port fun e => { e with neigh := smSet {} e.neigh hop { n with waiting := n.waiting ++ [(prio, o)] } }
    else
      (d.modEth port fun e =>
        let e := e.roomForOne
        { e with neigh := smSet {} e.neigh hop { mac := none, attempts := 1, waiting := [(prio, o)], made := d.tim.elapsed } }).ethTx port 0
          (.neighbourRequest port hop)

/-- A packet of a session on NC0 or NC1 goes to its peer (10 R259), numbered address × 2¹⁶ + UDP port; `cfg` is the port's configuration. -/
def Dev.ncTx (d : Dev) (cfg peer : Nat) (o : Out) : Dev := d.ipTx (bits cfg 55 53) (bit cfg 52) (peer / 65536) 1 o

/-! ### Presence (00 R2, R3) -/

/-- A unit of 00 Table 0.2 by its bit: present and usable. -/
def Dev.present (d : Dev) (b : Nat) : Bool := bit d.units b

/-- The unit bit on which element `e` of a parameter depends (00 R3), if any. -/
def parUnitBit (p : Par) (e : Nat) : Option Nat :=
  match p with
  | .ipuPortCfg | .ipuCamCfg | .ipuOutCfg | .ipuMergeSat | .ipuMergeBand | .ipuTapEn | .ipuTapRing | .ipuEmbSel | .ipuStat => some 20
  | .grtFeCfg | .grtSelfCfg | .grtSelfGroup | .grtStuckS | .grtBaseStore | .grtStatus | .grtRing | .grtRingWr | .grtRingRd | .grtStat =>
    some 19
  | .hapCfg | .hapWave | .hapStat => some 18
  | .audPortCfg | .audInBuf | .audInWr | .audInRd | .audInCfg | .audRoute | .audSlotAtt | .audAlertBuf | .audAlertWr | .audAlertRd
  | .audAlertCfg | .audAlertRoute | .audStat => some 17
  | .mdkCfg | .mdkStatus => some (15 + e)
  | .lnkEyeVstep => if e = 2 then some 15 else if e = 3 then some 16 else none
  | .mdkEq => some (15 + e / 4)
  | .mdkStat => some (15 + e / 8)
  | .decEngStatus => some (9 + e)
  | .pltOutCfg | .pltOutPhase | .pltPostLut | .pltOutFrame | .pltSliceDmin | .pltHoldBase => some (4 + e / 2)
  | .pltOutStat => some (4 + e / 16)
  | .srcDpiEdid => some e
  | .blockInfo blk => if blk = 12 then some 20 else if blk = 16 then some 19 else if blk = 17 then some 18 else if blk = 18 then some 17 else none
  | _ => none

/-- Element `e` of a parameter belongs to a present unit, or to none. -/
def Dev.parPresent (d : Dev) (p : Par) (e : Nat) : Bool :=
  match parUnitBit p e with
  | some b => d.present b
  | none => true

/-- The PLL that clocks a block of 16 Table 16.6 (01 Table 1.4), numbered as units 0x38 to 0x3E of 16 Table 16.11; the recorder and the console
run on PLL_CTL (notes/assumptions/24.md). -/
def pllOf (block : Nat) : Nat :=
  if block ≤ 4 then 0 else if block ≤ 10 ∨ block = 12 then 1 else if block ≤ 15 then 2 else if block ≤ 27 then 6 else 5

/-- A block is in reset (16 R432, R433): by its bit, by a block reset that runs, or because its PLL has yet to lock. -/
def Dev.inReset (d : Dev) (b : Nat) : Bool := bit d.rst.blkSrst b || d.rst.blkRun.any (·.1 == b) || !bit d.rst.pllGood (pllOf b)

/-- The plate of an output: PLn drives O(2n) and O(2n+1) (01 R11). -/
def plateOf (o : Nat) : Nat := o / 2

end Sys2Proof.Machine
end

