-- ==== Sys2Proof/Machine/Cells.lean ====
section
/-!
DEFINITION. The bytes of the internal address map (01 Table 1.7): what an address reads as where nothing is listed, and reads and writes of bytes
below the boundary units.
-/

namespace Sys2Proof.Machine

/-- Base of DRAM. -/
abbrev dramBase : Nat := 0x001000000000
/-- Base of cartouche memory. -/
abbrev cartBase : Nat := 0x000020000000
/-- Base of audit MRAM. -/
abbrev mramBase : Nat := 0x000030000000
/-- Base of chart memory. -/
abbrev chartBase : Nat := 0x000010000000

/-! ### Bytes -/

/-- What an address reads as where nothing is listed: the boot ROM's image, the images and the notice that Bursol loads into a cartouche slot
(07 Table 7.8, R189), 0 elsewhere (notes/assumptions/13.md). -/
def memDefault (a : Nat) : Byte :=
  if 0x01000000 ≤ a ∧ a < 0x01010000 then BitVec.ofNat 8 (Config.bootRom (a - 0x01000000))
  else if cartBase ≤ a ∧ a < 0x20400000 then
    let off := (a - cartBase) % 0x80000
    if (0x6E000 ≤ off ∧ off < 0x72000) ∨ (0x76000 ≤ off ∧ off < 0x76800) ∨ 0x77200 ≤ off then BitVec.ofNat 8 (Config.compassByte off) else 0
  else 0

/-- Memory is in its canonical form: addresses strictly rising, and no entry equal to what an unlisted address reads as. -/
def MemSys.wf (m : MemSys) : Bool := smWf memDefault m.cells

/-- The byte at an address. -/
def Dev.peek (d : Dev) (a : Nat) : Byte := smGet (memDefault a) d.mem.cells a

/-- `n` bytes from an address. -/
def Dev.peekN (d : Dev) (a n : Nat) : Bytes := (List.range n).map fun i => d.peek (a + i)

/-- The little-endian value of `n` bytes. -/
def Dev.peekLe (d : Dev) (a n : Nat) : Nat := leVal (d.peekN a n)

/-- The memory with the byte at an address written. -/
def MemSys.poke (m : MemSys) (a : Nat) (b : Byte) : MemSys := { m with cells := smSet (memDefault a) m.cells a b }

/-- The device with the bytes from an address written. -/
def Dev.poke (d : Dev) (a : Nat) : Bytes → Dev
  | [] => d
  | b :: bs => Dev.poke { d with mem := d.mem.poke a b } (a + 1) bs

/-- `n` bytes from an address are written with values that the spec leaves open. -/
def Dev.scribble (d : Dev) (a n : Nat) : Dev :=
  let (b, d) := d.freshBytes n
  d.poke a b

end Sys2Proof.Machine
end

