-- ==== Sys2Proof/Machine/Flags.lean ====
section
/-!
DEFINITION. What the part signals: events to sessions (10 R284 to R287), MSI-X vectors, the audit log (17 R473), and the status words that are
computed from the state.
-/

namespace Sys2Proof.Machine

/-! ### Bytes of a reply or an event -/

/-- A 1-byte field. -/
def u8 (v : Nat) : Bytes := leBytes 1 v
/-- A 2-byte field. -/
def u16 (v : Nat) : Bytes := leBytes 2 v
/-- A 4-byte field. -/
def u32 (v : Nat) : Bytes := leBytes 4 v
/-- An 8-byte field. -/
def u64 (v : Nat) : Bytes := leBytes 8 v
/-- An 8-byte signed field. -/
def s64 (v : Int) : Bytes := leBytes 8 (ofSigned 64 v)
/-- A time in the format of 02 Table 2.2. -/
def tm (t : Ns) : Bytes := u64 (datumTime t)
/-- Zero bytes. -/
def zeros (n : Nat) : Bytes := List.replicate n 0

/-! ### Sessions -/

/-- The open session of a port (10 R253). -/
def Dev.ses (d : Dev) (port : Nat) : Option Session := d.sessions.find? (·.port == port)

/-- The open session of a port changed. -/
def Dev.modSes (d : Dev) (port : Nat) (f : Session → Session) : Dev :=
  { d with sessions := d.sessions.map fun s => if s.port == port then f s else s }

/-- Every partner session (10 R254). -/
def toPartners (s : Session) : Bool := s.role == 0
/-- Every mediator session. -/
def toMediators (s : Session) : Bool := s.mediator
/-- The sessions that OWNER `o` stands for (10 R513). -/
def toOwner (o : Nat) (s : Session) : Bool := if o = 0 then s.role == 0 else s.role == o
/-- The owner and every mediator session, each once. -/
def toOwnerMed (o : Nat) (s : Session) : Bool := toOwner o s || s.mediator
/-- The session of one port. -/
def toPort (p : Nat) (s : Session) : Bool := s.port == p
/-- No session. -/
def toNone (_ : Session) : Bool := false

/-- The endpoint of a tenancy's page: bit of its grant (11 Table 11.2 ENDPOINT at byte 0). -/
def Dev.tenEp (d : Dev) (n : Nat) : Nat := ((d.ten n).grant.getD 0 0).toNat % 2

/-- The endpoint and page of a session on PCIe (10 R253, R254). -/
def Dev.pageOf (d : Dev) (port : Nat) : Option (Nat × Nat) :=
  if port < 2 then some (port, 0)
  else if 0x11 ≤ port ∧ port ≤ 0x18 then some (d.tenEp (port - 0x10), port - 0x10)
  else none

/-! ### MSI-X (14 R378) -/

/-- A vector is signalled; a masked one becomes pending. -/
def Dev.signal (d : Dev) (ep v : Nat) : Dev :=
  if v ∈ (d.pcie ep).masked then
    d.modPcie ep fun e => if v ∈ e.pendingVec then e else { e with pendingVec := v :: e.pendingVec }
  else d.send (.msix ep v)

/-! ### Events -/

/-- The group of an event code (10 R284). -/
def eventGroup (code : Nat) : Nat := code / 256 % 16

/-- EVENT_MASK suppresses the code (10 Table 10.9: bit 0 is ignored). -/
def Session.masks (s : Session) (code : Nat) : Bool := eventGroup code != 0 && bit s.mask (eventGroup code)

/-- The free slots of an event ring. -/
def EvtRing.space (r : EvtRing) : Nat := if r.en then 2 ^ r.log2 - (r.tail - r.head) else 0

/-- A session counter of a partner port (10 R289). -/
def Dev.sesCount (d : Dev) (port k : Nat) (n : Nat := 1) : Dev :=
  d.when (decide (port < 6)) fun d => d.count2 .sesStat port k n

/-- One numbered event is sent: into the event ring on PCIe, as a packet elsewhere (10 R257, R259). -/
def Dev.sendEvent (d : Dev) (s : Session) (no : Nat) (e : Event) : Dev :=
  let d := d.sesCount s.port 8
  match d.pageOf s.port with
  | none =>
    if s.port = 2 ∨ s.port = 3 then d.ncTx s.cfg s.peer (.event s.port s.sid no none e) else d.send (.event s.port s.sid no none e)
  | some (ep, page) =>
    let r := d.evr (ep * 16 + page)
    let d := d.send (.event s.port s.sid no (some (r.tail / 2 ^ r.log2 % 2 == 0)) e)
    (d.setEvr (ep * 16 + page) { r with tail := r.tail + 1 }).signal ep r.msix

/-- The session can be sent an event now: always but on PCIe, where a slot of its event ring must be free, and the events of a frozen
tenancy are held (10 R286, 11 R303). -/
def Dev.evSpace (d : Dev) (s : Session) : Nat :=
  match d.pageOf s.port with
  | none => 1
  | some (ep, page) => if (d.ten page).st = .frozen then 0 else (d.evr (ep * 16 + page)).space

/-- A session is to receive an event: it takes the next number, and is sent, held among 128 undelivered, or lost (10 R286). -/
def Dev.postEvent (d : Dev) (port : Nat) (e : Event) : Dev :=
  match d.ses port with
  | none => d
  | some s =>
    if s.masks e.code then d
    else
      let no := s.evNo + 1
      let d := d.modSes port fun s => { s with evNo := no }
      if s.undelivered.isEmpty && decide (0 < d.evSpace s) then d.sendEvent s no e
      else if s.undelivered.length < 128 then
        d.modSes port fun s => { s with undelivered := s.undelivered ++ [(no, e)] }
      else
        (d.modSes port fun s => { s with lost := s.lost + 1, lostFirst := if s.lost = 0 then no else s.lostFirst }).sesCount port 9

/-- Undelivered events go out while slots are free, oldest first; `fuel` bounds them by what the session can hold. -/
def Dev.drainEvents : Nat → Nat → Dev → Dev
  | 0, _, d => d
  | fuel + 1, port, d =>
    match d.ses port with
    | none => d
    | some s =>
      match s.undelivered with
      | [] => d
      | (no, e) :: rest =>
        if 0 < d.evSpace s then
          Dev.drainEvents fuel port ((d.modSes port fun s => { s with undelivered := rest }).sendEvent s no e)
        else d

/-- An event is raised now on the sessions that a rule names; each receives it once (10 R285, R513). -/
def Dev.raise (d : Dev) (rcpt : Session → Bool) (e : Event) : Dev :=
  let e := { e with time := d.now, epoch := d.epoch }
  d.each ((d.sessions.filter rcpt).map (·.port)) fun d p => d.postEvent p e

/-- Space returned to a session's events: those held go out, and events that were lost are reported by EVENTS_LOST ahead of later ones
(10 R286). EVENTS_LOST takes a number like any other event (notes/assumptions/9.md). -/
def Dev.eventSpaceBack (d : Dev) (port : Nat) : Dev :=
  let d := Dev.drainEvents 128 port d
  match d.ses port with
  | none => d
  | some s =>
    if 0 < s.lost && decide (s.undelivered.length < 128) then
      let d := d.modSes port fun s => { s with lost := 0, lostFirst := 0 }
      d.postEvent port { code := 0xE001, object := port, time := d.now, epoch := d.epoch, data := u32 s.lost ++ u32 s.lostFirst }
    else d

/-! ### The audit log (17 R473, R474) -/

/-- Base of the audit log ring (13 Table 13.4): two header copies of 2 KiB, then 23,520 entries. -/
abbrev auditBase : Nat := mramBase + 0x110000

/-- The slots of the ring. -/
abbrev auditSlots : Nat := 23520

/-- The address of entry `seq`. -/
def auditAddr (seq : Nat) : Nat := auditBase + 0x1000 + 128 * (seq % auditSlots)

/-- The address of a header copy. -/
def auditHeadAddr (b : Bool) : Nat := if b then auditBase + 0x800 else auditBase

/-- The first 80 bytes of an entry. -/
def auditEntry (seq time code epoch port tenancy : Nat) (data : Bytes) : Bytes :=
  u64 seq ++ u64 time ++ u16 code ++ u8 epoch ++ zeros 1 ++ u8 port ++ u8 tenancy ++ zeros 2 ++ padTo 56 data

/-- A header copy. -/
def auditHeader (gen seq : Nat) (chain : Bytes) : Bytes :=
  let body := u32 0x314C5541 ++ u32 gen ++ u64 seq ++ padTo 48 chain
  body ++ u32 (crc32c body)

/-- A header copy as it is held, where it is valid: GENERATION, HEAD_SEQ, HEAD_CHAIN. -/
def Dev.auditHeadOf (d : Dev) (b : Bool) : Option (Nat × Nat × Bytes) :=
  let a := auditHeadAddr b
  if d.peekLe a 4 = 0x314C5541 ∧ d.peekLe (a + 64) 4 = crc32c (d.peekN a 64) then
    some (d.peekLe (a + 4) 4, d.peekLe (a + 8) 8, d.peekN (a + 16) 48)
  else none

/-- The newer of the two valid header copies, with which one it is. -/
def Dev.auditNewer (d : Dev) : Option (Bool × Nat × Nat × Bytes) :=
  match d.auditHeadOf false, d.auditHeadOf true with
  | some a, some b => if serialGt 32 b.1 a.1 then some (true, b) else some (false, a)
  | some a, none => some (false, a)
  | none, some b => some (true, b)
  | none, none => none

/-- The older header copy is rewritten, with GENERATION one above the newer. -/
def Dev.auditRehead (d : Dev) (seq : Nat) (chain : Bytes) : Dev :=
  match d.auditNewer with
  | some (b, g, _) => d.poke (auditHeadAddr !b) (auditHeader ((g + 1) % 2 ^ 32) seq chain)
  | none => d.poke (auditHeadAddr false) (auditHeader 1 seq chain)

/-- An entry is appended: its SEQ follows the newest, its CHAIN hashes the CHAIN before it; every 64 entries the older header copy is rewritten. -/
def Dev.audit (d : Dev) (code : Nat) (data : Bytes) (port : Nat := 0xFF) (tenancy : Nat := 0xFF) : Dev :=
  let seq := d.sec.auditSeq + 1
  let head := auditEntry seq (datumTime d.now) code d.epoch port tenancy data
  let chain := padTo 48 (Config.sha384 (d.sec.auditChain ++ head))
  let d := Dev.poke { d with sec := { d.sec with auditSeq := seq, auditChain := chain } } (auditAddr seq) (head ++ chain)
  if seq % 64 = 0 then d.auditRehead seq chain else d

/-! ### Lifecycle and device state -/

/-- The lifecycle code (17 Table 17.2): the highest blown group, or SERVICE while a visit lasts. -/
def Dev.lifecycle (d : Dev) : Nat :=
  if 3 ≤ d.sec.fuseRetired then 4
  else if 3 ≤ d.sec.fuseSealed then (if d.sec.service.isSome then 3 else 2)
  else if 3 ≤ d.sec.fuseOpen then 1 else 0

/-- The engines are off (09 Table 9.9): from phase 2 of the way into NIGHT or STANDBY up to phase 3 of the way out. -/
def Dev.inNight (d : Dev) : Bool :=
  match d.bsh.st with
  | .active => false
  | .night | .standby => true
  | .enterNight | .enterStandby => decide (2 ≤ d.bsh.phase)
  | .waking => decide (d.bsh.phase < 3)

/-- The five flags that the host reads of the device's own state: STATE code of BSH.STATUS (09 Table 9.12). -/
def PowSt.code : PowSt → Nat
  | .active => 0 | .enterNight => 1 | .night => 2 | .waking => 3 | .enterStandby => 4 | .standby => 4

/-- RST.CAUSE (16 Table 16.3). -/
def Dev.rstCause (d : Dev) : Nat := (d.rst.cause <<< 24) + (d.rst.level <<< 21) + d.rst.history % 2 ^ 14

/-- The CORE resets of the last 60 s (16 R448). -/
def Dev.coreResets (d : Dev) : List Ns := d.rst.coreTimes.filter fun t => decide (d.rst.aoTime < t + 60000000000)

/-- RST.STATUS (16 Table 16.4). -/
def Dev.rstStatus (d : Dev) : Nat :=
  (d.rst.maintenance.toNat <<< 31) + (d.flt.safe.toNat <<< 30) + (d.rst.optSrc <<< 28) + (d.rst.tornA.toNat <<< 27) + (d.rst.tornB.toNat <<< 26)
    + (d.rst.loadRestarts <<< 22) + (min 15 d.coreResets.length <<< 18) + (d.rst.aoCleared.toNat <<< 17)

/-- A unit code of 16 Table 16.11 is quarantined. -/
def Dev.quarantined (d : Dev) (unit : Nat) (sub : Nat := 0) : Bool := d.flt.quar.contains (unit, sub)

/-- A unit with a block of its own (codes 0x00 to 0x27) is in service: neither quarantined nor in reset (16 R432, R446). -/
def Dev.inService (d : Dev) (unit : Nat) : Bool := !d.quarantined unit && !d.inReset unit

end Sys2Proof.Machine
end

