-- ==== Sys2Proof/WellFormed.lean ====
section
/-!
DEFINITION. Which commands name objects that the part has. A packet's operands are not judged here: the spec gives every operand of a
command a status, so a wrong one is answered (10 R276).
-/

namespace Sys2Proof

/-- A port byte of 10 R266: a partner port (10 Table 10.1) or the page of a tenancy. -/
def portOk (p : Nat) : Bool := decide (p < 6 ∨ (0x11 ≤ p ∧ p ≤ 0x18))

/-- A tenancy number (01 R21). -/
def tenOk (n : Nat) : Bool := decide (1 ≤ n ∧ n ≤ 8)

/-- The parameters that choose a source's flow (04 R92: DST, FILTER, SSRC and FMT). -/
def Par.isFlow (p : Par) : Bool := decide (p = .srcDst ∨ p = .srcFilter ∨ p = .srcSsrc ∨ p = .srcFmt)

/-- The parameters of the witness that a host writes (08 R212). -/
def Par.isWit (p : Par) : Bool :=
  decide (p = .witCfg ∨ p = .witDst ∨ p = .witUdpPort ∨ p = .witAckPort ∨ p = .witAckKey ∨ p = .witAckTimeoutMs ∨
    p = .witMetaRetainS ∨ p = .witVideoRetainS ∨ p = .witRc)

/-- Every port, unit, output, source, channel, master and address that the command names exists on a P9
(notes/assumptions/2.md). -/
def Instr.wellFormed : Instr → Bool
  | .sessionHello port _ _ _ => portOk port
  | .sessionAuth port _ _ _ => portOk port
  | .authAttemptLapse port => portOk port
  | .authLockoutEnd port => portOk port
  | .sessionClose h => portOk h.port
  | .sessionPing h => portOk h.port
  | .sessionTimeout port => portOk port
  | .sessionAlive port => portOk port
  | .badPacket port => portOk port
  | .holeExpire port _ => portOk port
  | .eventsLost port => portOk port
  | .sqDoorbell ep page ring _ _ => decide (ep < 2 ∧ page < 16 ∧ ring < 8)
  | .cqDoorbell ep page ring _ => decide (ep < 2 ∧ page < 16 ∧ ring < 8)
  | .evtDoorbell ep page _ => decide (ep < 2 ∧ page < 16)
  | .bar0Access ep page _ => decide (ep < 2 ∧ page < 16)
  | .bar2Read ep aperture _ _ => decide (ep < 2 ∧ aperture < 8)
  | .bar2Write ep aperture _ _ _ => decide (ep < 2 ∧ aperture < 8)
  | .outboundReadTimeout ep master => decide (ep < 2 ∧ master < 24)
  | .pcieFunctionReset ep _ => decide (ep < 2)
  | .deviceDescribe h => portOk h.port
  | .traverseQuery h _ _ => portOk h.port
  | .keySet h _ _ _ _ => portOk h.port
  | .eventMask h _ => portOk h.port
  | .paramRead h _ _ _ _ => portOk h.port
  | .paramWrite h _ => portOk h.port
  | .paramWriteMulti h _ => portOk h.port
  | .sourceQuery h _ => portOk h.port
  | .layerCommit h _ => portOk h.port
  | .cartWrite h _ _ _ => portOk h.port
  | .cartLut h _ _ _ => portOk h.port
  | .cartGlyph h _ _ _ => portOk h.port
  | .cartDesc h _ _ _ _ => portOk h.port
  | .cartCommit h _ _ => portOk h.port
  | .witnessQuery h _ => portOk h.port
  | .ipuExpose h _ _ _ => portOk h.port
  | .ipuReprocess h _ _ _ _ _ _ _ => portOk h.port
  | .reprocessDone pipe => decide (pipe < 4)
  | .tenancyCreate h _ _ _ => portOk h.port
  | .tenancyConfigure h _ _ => portOk h.port
  | .tenancyReset h _ _ => portOk h.port
  | .tenancyRemove h _ _ => portOk h.port
  | .tenancyFreeze h _ => portOk h.port
  | .freezeDrainTimeout n => tenOk n
  | .tenancySave h _ _ _ => portOk h.port
  | .tenancyRestore h _ _ _ _ => portOk h.port
  | .tenancyThaw h _ => portOk h.port
  | .tenancyDrainExpired n => tenOk n
  | .zeroFillDone n => tenOk n
  | .tenancyQuiesced n => tenOk n
  | .timeStep h _ _ => portOk h.port
  | .powerState h _ => portOk h.port
  | .touchRecalibrate h _ _ => portOk h.port
  | .hapticPlay h _ _ _ _ => portOk h.port
  | .diagStampRead h _ _ => portOk h.port
  | .diagTileRead h _ _ => portOk h.port
  | .diagEyeScan h _ _ _ => portOk h.port
  | .eyeScanDone quad _ => decide (quad < 6)
  | .diagTallyRead h _ => portOk h.port
  | .chainRole h _ _ _ => portOk h.port
  | .chainLayout h _ _ => portOk h.port
  | .chainQuery h _ => portOk h.port
  | .attest h _ => portOk h.port
  | .auditRead h _ _ => portOk h.port
  | .serviceChallenge h => portOk h.port
  | .serviceEnter h _ => portOk h.port
  | .serviceExit h => portOk h.port
  | .serviceExpire => true
  | .firmwareStage h _ _ _ => portOk h.port
  | .faultRead h => portOk h.port
  | .faultClear h _ => portOk h.port
  | .reset h _ _ => portOk h.port
  | .srcCfgWrite h _ _ => portOk h.port
  | .srcFlowWrite h par _ _ => portOk h.port && par.isFlow
  | .igmpReportRepeat port _ => decide (port < 8)
  | .igmpQueryRx port _ => decide (port < 8)
  | .dpiEdidWrite h _ _ _ => portOk h.port
  | .dpiHpdPulseEnd input => decide (input < 4)
  | .ethFrameRx port _ => decide (port < 8)
  | .jitterBufferExpire src _ => decide (src < 192)
  | .dpiFrameRx input _ => decide (input < 4)
  | .sourceLossTimeout src => decide (src < 192)
  | .sourceFrozen src => decide (src < 192)
  | .holdoverTrustExpire => true
  | .sliceDecoded d => decide (d.src < 192)
  | .csiFrameStart pipe _ _ => decide (pipe < 4)
  | .ipuExposeTimeout pipe _ => decide (pipe < 4)
  | .csiLineRx pipe _ => decide (pipe < 4)
  | .csiFrameEnd pipe _ _ => decide (pipe < 4)
  | .csiExposureTimeout pipe exposure => decide (pipe < 4 ∧ exposure < 4)
  | .ipuFrameDone pipe _ => decide (pipe < 4)
  | .frameCommitPoint out => decide (out < 8)
  | .frameStart out _ => decide (out < 8)
  | .bandCompose out band _ _ _ => decide (out < 8 ∧ band < 68)
  | .bandDeadline out band => decide (out < 8 ∧ band < 68)
  | .bandScanout out band _ => decide (out < 8 ∧ band < 68)
  | .sinkCrcReadback out sink own => decide (out < 8 ∧ sink.length = 3 ∧ own.length = 6)
  | .benchCompare out _ _ => decide (out < 8)
  | .failbackCompare plate out _ _ => decide (plate < 4 ∧ out < 8)
  | .failbackRunReached plate => decide (plate < 4)
  | .failbackNWrite h _ => portOk h.port
  | .checkpointWrite out => decide (out < 8)
  | .recordSigned out _ => decide (out < 8)
  | .witnessPictureCoded out _ _ => decide (out < 8)
  | .witnessNotCoded out _ => decide (out < 8)
  | .monitorPictureCoded stream _ => decide (stream < 8)
  | .monCfgWrite h _ _ => portOk h.port
  | .witCfgWrite h par _ _ => portOk h.port && par.isWit
  | .witnessAckTimeout out => decide (out < 8)
  | .accountingFrameStart _ => true
  | .energyTick _ => true
  | .jobLatestStart src _ _ => decide (src < 192)
  | .jobTimeout _ _ => true
  | .islandWake island => decide (island < 13)
  | .pllRestart pll => decide (pll < 7)
  | .thermalSample t => decide (t.length = 12)
  | .bthermUpdate => true
  | .nightEntryStep => true
  | .nightExitStep _ => true
  | .wakeTimerExpire => true
  | .tsiFifoRead h _ => portOk h.port
  | .ptpMessageRx _ => true
  | .announceTimeout => true
  | .ptpSyncSend port => decide (port < 10)
  | .ptpCfgWrite h _ => portOk h.port
  | .tsiEdge n _ => decide (n < 8)
  | .tsoEdge n => decide (n < 4)
  | .tsoPulseEnd n => decide (n < 4)
  | .touchScanFrame fe _ => decide (fe < 4)
  | .touchStuck fe _ => decide (fe < 4)
  | .selfScanFrame _ => true
  | .feCfgWrite h _ _ => portOk h.port
  | .baseStoreWrite h _ => portOk h.port
  | .touchRingWrite h _ _ => portOk h.port
  | .ringRdWrite h _ _ => portOk h.port
  | .hapticPlayEnd driver => decide (driver < 8)
  | .hapticOvercurrent driver _ => decide (driver < 8)
  | .hapticTrackLost driver _ => decide (driver < 8)
  | .audioBlock => true
  | .alertIdleExpire => true
  | .audioPortCfgWrite h _ _ => portOk h.port
  | .memRead master addr _ _ _ _ _ => decide (master < 24 ∧ addr < 2 ^ 48)
  | .memWrite master addr _ _ _ => decide (master < 24 ∧ addr < 2 ^ 48)
  | .dramRefresh channel _ => decide (channel < 4)
  | .zqCalibration channel rank => decide (channel < 4 ∧ rank < 2)
  | .scanoutPanic out _ => decide (out < 8)
  | .caParityAlert channel _ => decide (channel < 4)
  | .writeCrcAlert channel _ => decide (channel < 4)
  | .patrolScrub addr _ => decide (addr < 2 ^ 48)
  | .chartScrub addr _ => decide (addr < 2 ^ 48)
  | .cartScrub addr _ => decide (addr < 2 ^ 48)
  | .cartoucheRepair addr => decide (addr < 2 ^ 48)
  | .dramTraining _ _ => true
  | .tagRetag _ _ _ _ => true
  | .remapWrite master _ => decide (master < 24)
  | .bndCommit master _ => decide (master < 24)
  | .bndViolRead h => portOk h.port
  | .ethCfgWrite h _ _ => portOk h.port
  | .ethLinkDown port => decide (port < 8)
  | .ethLinkUp port => decide (port < 8)
  | .arpRetry port _ => decide (port < 8)
  | .neighborAgeOut port _ => decide (port < 8)
  | .ethTxTimeout port => decide (port < 8)
  | .mdkFrameRx port _ => decide (port < 2)
  | .mdkLinkctlRx port _ _ => decide (port < 2)
  | .mdkAckTimer port => decide (port < 2)
  | .mdkNakRepeat port => decide (port < 2)
  | .mdkReplayTimeout port => decide (port < 2)
  | .mdkBlockLock port _ _ _ _ => decide (port < 2)
  | .mdkStartupBurst port => decide (port < 2)
  | .mdkRecoveryTimeout port => decide (port < 2)
  | .mdkIdleTimer port => decide (port < 2)
  | .mdkEidleRx port => decide (port < 2)
  | .mdkExitBurstRx port => decide (port < 2)
  | .mdkCfgWrite h _ _ => portOk h.port
  | .mdkPeerRxUp port _ => decide (port < 2)
  | .dpHpdAssert out _ => decide (out < 8)
  | .dpHpdIrq out _ => decide (out < 8)
  | .dpHpdDeassert out => decide (out < 8)
  | .dpTrainingRetry out => decide (out < 8)
  | .dpTrainingDone out _ _ => decide (out < 8)
  | .dpiLinkLoss input => decide (input < 4)
  | .pcieLinkUp ep => decide (ep < 2)
  | .ringCfgWrite ep page ring _ _ => decide (ep < 2 ∧ page < 16 ∧ ring < 8)
  | .msixUnmask ep vector => decide (ep < 2 ∧ vector < 72)
  | .discoverSend => true
  | .discoverRx port _ _ _ _ _ => decide (port < 2)
  | .chainLinkCut port => decide (port < 2)
  | .chainFrameRx port _ _ _ _ _ => decide (port < 2)
  | .readySend => true
  | .goSend => true
  | .barrierDeadline => true
  | .atlasListenExpire => true
  | .takebackRunReached => true
  | .takebackNWrite h _ => portOk h.port
  | .summarySend => true
  | .resetReqSend position => decide (position < 32)
  | .coldPowerOn => true
  | .brownout => true
  | .supplyDrop => true
  | .resetPin _ => true
  | .watchdog coreIdx => decide (coreIdx < 4)
  | .lockstep pair => decide (pair < 2)
  | .criticalState sub code => decide (sub < 6 ∧ (code = 1 ∨ code = 2))
  | .safeResetExpire => true
  | .resetStretchEnd => true
  | .thermalResetRelease => true
  | .optionLoad => true
  | .pllLock pll => decide (pll < 7)
  | .clockGoodTimeout pll => decide (pll < 7)
  | .blkSrstWrite _ => true
  | .blockResetDone block => decide (block < 40)
  | .bursolStart => true
  | .bootMailboxGo ep addr len image => decide (ep < 2 ∧ addr < 2 ^ 46 ∧ image.length = len)
  | .svnCommitTimer => true
  | .faultReport unit _ code => decide (unit < 64 ∧ 1 ≤ code ∧ code ≤ 7)
  | .faultRetryDone _ => true
  | .tallyMessage channel _ => decide (channel < 16)
  | .tamperEdge input _ => decide (input < 4)
  | .pgoodAssert => true
  | .pgoodTimeout => true
  | .vcoreSettle _ _ => true
  | .s0FrameRx _ _ _ => true
  | .debugHalt coreIdx _ => decide (coreIdx < 4)

end Sys2Proof
end

