-- ==== Sys2Proof/Machine/Protocol.lean ====
section
/-!
DEFINITION. The command protocol below its opcodes (10): status codes, traverse records, replies, the handshake, and how a session closes.
-/

namespace Sys2Proof.Machine

/-! ### Status codes (10 Table 10.8) -/

/-- OK. -/
abbrev stOk : Nat := 0x0000
/-- ACCEPTED. -/
abbrev stAccepted : Nat := 0x0001
/-- DUPLICATE. -/
abbrev stDuplicate : Nat := 0x0002
/-- BAD_OPCODE. -/
abbrev stBadOpcode : Nat := 0x0010
/-- UNIT_ABSENT. -/
abbrev stUnitAbsent : Nat := 0x0011
/-- BAD_PARAM. -/
abbrev stBadParam : Nat := 0x0012
/-- NOT_PERMITTED. -/
abbrev stNotPermitted : Nat := 0x0013
/-- BUSY_RETRY. -/
abbrev stBusyRetry : Nat := 0x0014
/-- SEQUENCE_GAP. -/
abbrev stSequenceGap : Nat := 0x0015
/-- PARTIAL. -/
abbrev stPartial : Nat := 0x0020
/-- ABORTED. -/
abbrev stAborted : Nat := 0x0021
/-- AUTH_FAIL. -/
abbrev stAuthFail : Nat := 0x0030
/-- SESSION_EXPIRED. -/
abbrev stSessionExpired : Nat := 0x0031
/-- INTEGRITY. -/
abbrev stIntegrity : Nat := 0x0040
/-- FAULTED. -/
abbrev stFaulted : Nat := 0x0050

/-- The issuer of a command as its checks see it: its session, the number of the command, and the tenancy for which it acts (10 R265). -/
structure Ctx where
  ses : Session
  seq : Nat
  act : Nat
  deriving DecidableEq, Repr

/-- The issuer is the owner of an object with this OWNER (10 R513). -/
def Ctx.owns (c : Ctx) (owner : Nat) : Bool := owner == c.act

/-- The issuer is the owner or a mediator session. -/
def Ctx.ownsOrMed (c : Ctx) (owner : Nat) : Bool := c.owns owner || c.ses.mediator

/-- The issuer is a partner session. -/
def Ctx.partner (c : Ctx) : Bool := c.ses.role == 0

/-- What a command answers: STATUS, PHASE, its parameters, whether phases go on after the reply, and ITEMS (10 R277). -/
structure Res where
  st : Nat
  ph : Nat
  body : Bytes := []
  bg : Bool := false
  items : Nat := 0
  deriving DecidableEq, Repr

/-- A command refused by a check: no effect, no phase (10 R276). -/
def rErr (st : Nat) : Res := { st, ph := 0 }
/-- A read-only command done. -/
def rRead (body : Bytes) : Res := { st := stOk, ph := 1, body }
/-- A two-phase command done. -/
def rOk (body : Bytes := []) : Res := { st := stOk, ph := 2, body }
/-- A command accepted whose later phases run in the background. -/
def rAccepted (ph : Nat) (body : Bytes := []) : Res := { st := stAccepted, ph, body, bg := true }

/-- The answer of an opcode: at once, or later by `Dev.finishReply` (10 R276: a command that has started and not replied). -/
abbrev Answer := Option Res × Dev

/-- An answer that leaves the device as it is. -/
def refuse (st : Nat) (d : Dev) : Answer := (some (rErr st), d)

/-- The first check that fails gives the status (10 R276); with none failing, the command executes. -/
def checked (cs : List (Bool × Nat)) (d : Dev) (f : Dev → Answer) : Answer :=
  match cs.find? (·.1) with
  | some c => refuse c.2 d
  | none => f d

/-! ### Opcodes (10 Table 10.9) -/

/-- The opcode of a command. -/
def opCode : IcpOp → Nat
  | .sessionClose => 0x0002 | .sessionPing => 0x0003 | .deviceDescribe => 0x0004 | .traverseQuery .. => 0x0005
  | .keySet .. => 0x0006 | .eventMask _ => 0x0007
  | .paramRead .. => 0x0100 | .paramWrite _ => 0x0101 | .paramWriteMulti _ => 0x0102
  | .sourceQuery _ => 0x0200 | .layerCommit _ => 0x0300
  | .cartWrite .. => 0x0400 | .cartLut .. => 0x0401 | .cartGlyph .. => 0x0402 | .cartDesc .. => 0x0403 | .cartCommit .. => 0x0404
  | .witnessQuery _ => 0x0500 | .ipuExpose .. => 0x0600 | .ipuReprocess .. => 0x0601
  | .tenancyCreate .. => 0x0700 | .tenancyConfigure .. => 0x0701 | .tenancyReset .. => 0x0702 | .tenancyRemove .. => 0x0703
  | .tenancyFreeze _ => 0x0704 | .tenancySave .. => 0x0705 | .tenancyRestore .. => 0x0706 | .tenancyThaw _ => 0x0707
  | .timeStep .. => 0x0800 | .powerState _ => 0x0900 | .touchRecalibrate .. => 0x0A00 | .hapticPlay .. => 0x0A01
  | .diagStampRead .. => 0x0B00 | .diagTileRead .. => 0x0B01 | .diagEyeScan .. => 0x0B02 | .diagTallyRead _ => 0x0B03
  | .chainRole .. => 0x0C00 | .chainLayout .. => 0x0C01 | .chainQuery _ => 0x0C02
  | .attest _ => 0x0D00 | .auditRead .. => 0x0D01 | .serviceChallenge => 0x0D02 | .serviceEnter _ => 0x0D03 | .serviceExit => 0x0D04
  | .firmwareStage .. => 0x0D05 | .faultRead => 0x0E00 | .faultClear _ => 0x0E01 | .reset .. => 0x0E02
  | .unknown c => c

/-- The number of phases of an opcode and its SAFE_MAX (10 Table 10.9, 11 Table 11.4, 15 R399, R413). -/
def opPhases : IcpOp → Nat × Nat
  | .keySet .. | .eventMask _ | .cartWrite .. | .cartLut .. | .cartGlyph .. | .cartDesc .. | .touchRecalibrate .. | .diagEyeScan ..
  | .serviceEnter _ | .serviceExit | .firmwareStage .. | .faultClear _ => (2, 0xFF)
  | .paramWrite _ | .paramWriteMulti _ | .hapticPlay .. | .reset .. => (2, 2)
  | .layerCommit _ | .timeStep .. => (3, 2)
  | .cartCommit .. => (4, 3)
  | .ipuExpose .. => (3, 2)
  | .ipuReprocess .. => (3, 0xFF)
  | .powerState _ => (4, 0xFF)
  | .tenancyCreate .. => (4, 2) | .tenancyConfigure .. => (3, 0xFF) | .tenancyReset .. => (6, 0xFF) | .tenancyRemove .. => (7, 0xFF)
  | .tenancyFreeze _ => (4, 0xFF) | .tenancySave .. => (3, 0xFF) | .tenancyRestore .. => (3, 2) | .tenancyThaw _ => (3, 0xFF)
  | .chainRole .. => (3, 0xFF) | .chainLayout .. => (4, 2)
  | .sessionClose | .sessionPing | .deviceDescribe | .traverseQuery .. | .paramRead .. | .sourceQuery _ | .witnessQuery _
  | .diagStampRead .. | .diagTileRead .. | .diagTallyRead _ | .chainQuery _ | .attest _ | .auditRead .. | .serviceChallenge
  | .faultRead | .unknown _ => (1, 0xFF)

/-! ### Traverse records (10 R277 to R280) -/

/-- The 16 bytes of a traverse record (10 Table 10.7a); `cut` marks a record of the retained log cut short by a reset. -/
def Rec.bytes (r : Rec) (cut : Bool) : Bytes :=
  let flags := 1 + 2 * r.inProgress.toNat + 4 * (r.rst || cut).toNat + 8 * r.fault.toNat + 16 * r.squashed.toNat
    + 32 * (decide (r.phase < r.safeMax) || r.safeMax == 0xFF).toNat
  u32 r.seq ++ u16 r.opcode ++ u16 r.session ++ u16 r.status ++ u8 r.phase ++ u8 r.nPhase ++ u8 r.safeMax ++ u8 flags ++ u16 r.items

/-- The partner port whose retained log holds a session's commands: its own, or the endpoint of a tenancy's page (10 R279). -/
def Dev.logPort (d : Dev) (port : Nat) : Nat := if port < 6 then port else d.tenEp (port - 0x10)

/-- The retained log of a partner port, newest first. -/
def Dev.travLog (d : Dev) (p : Nat) : List Rec := smGet [] d.travLogs p

/-- A state-changing command's record is rewritten in the retained log of the last 16 (10 R279). -/
def Dev.retain (d : Dev) (port : Nat) (r : Rec) : Dev :=
  if r.nPhase ≤ 1 then d
  else
    let p := d.logPort port
    let old := d.travLog p
    let new :=
      if old.any fun x => x.seq == r.seq && x.session == r.session then
        old.map fun x => if x.seq == r.seq && x.session == r.session then r else x
      else (r :: old).take 16
    { d with travLogs := smSet [] d.travLogs p new }

/-- The record of a command: in the window of its session while that is open, else in the retained log. -/
def Dev.recOf (d : Dev) (port sid seq : Nat) : Option Rec :=
  match (d.ses port).filter (·.sid == sid) with
  | some s => s.recs.find? (·.seq == seq)
  | none => (d.travLog (d.logPort port)).find? fun r => r.seq == seq && r.session == sid

/-- The record of a command changed, in its session's window and in the retained log. -/
def Dev.modRec (d : Dev) (port sid seq : Nat) (f : Rec → Rec) : Dev :=
  match d.recOf port sid seq with
  | none => d
  | some r =>
    let r := f r
    let d := d.modSes port fun s =>
      if s.sid == sid then { s with recs := s.recs.map fun x => if x.seq == seq then r else x } else s
    d.retain port r

/-- A phase of a background command completes. -/
def Dev.phaseDone (d : Dev) (port sid seq ph : Nat) : Dev :=
  d.modRec port sid seq fun r => if r.slot = .done then r else { r with phase := ph }

/-- The last phase of a background command completes, or the command ends, with its final status (10 R275, R279); a command that a CORE reset
has ended stays ended (16 R435). -/
def Dev.finish (d : Dev) (port sid seq st ph : Nat) (squashed : Bool := false) (fault : Bool := false) : Dev :=
  let d := d.modRec port sid seq fun r =>
    if r.slot = .done then r else
    { r with slot := .done, status := st, phase := ph, inProgress := false, squashed := r.squashed || squashed, fault := r.fault || fault }
  { d with orphans := d.orphans.filter (· != (port, sid, seq)) }

/-! ### Replies -/

/-- Largest packet of a session's transport (10 Table 10.5); NC0 and NC1 take the MTU of the Ethernet port they listen on. -/
def Dev.maxLen (d : Dev) (port : Nat) : Nat :=
  if port = 2 ∨ port = 3 then
    let cfg := match d.ses port with
      | some s => s.cfg
      | none => d.get .sesPortCfg port
    d.fld .lnkEthCfg (bits cfg 55 53) 59 46 - (if bit cfg 52 then 48 else 28)
  else if port = 4 then 4124
  else if port = 5 then 65564
  else 1048604

/-- A reply packet leaves on a session; one to a ring's command also writes a completion entry and signals its vector (10 R257). -/
def Dev.reply (d : Dev) (port peer sid seq op st ph : Nat) (trunc bg : Bool) (body : Bytes) (via : Option Via) : Dev :=
  let o := Out.reply port sid seq (op + 0x8000) st ph trunc bg body
  let cfg := match d.ses port with
    | some s => s.cfg
    | none => d.get .sesPortCfg port
  let d := if port = 2 ∨ port = 3 then d.ncTx cfg peer o else d.send o
  match via with
  | none => d
  | some v =>
    let r := d.rng v.ring
    let len := 28 + body.length
    let p := r.cqTail / 2 ^ r.cfg.cqLog2 % 2 == 0
    let d := d.send (.completion (v.ring / 128) (v.ring / 8 % 16) (v.ring % 8) v.tag len st ph (r.sqHead % 65536) p
      (decide (v.replyMax < len)) false)
    (d.setRng v.ring { r with cqTail := r.cqTail + 1 }).signal (v.ring / 128) r.cfg.msix

/-- A command replies: its record keeps the status, the phase and the first 64 bytes (10 R273), and the reply goes to its session. -/
def Dev.finishReply (d : Dev) (port sid seq : Nat) (r : Res) : Dev :=
  match (d.recOf port sid seq).filter (·.slot != .done) with
  | none => d
  | some rec =>
    let d := d.modRec port sid seq fun x =>
      { x with replied := true, orig := r.st, status := if r.bg then 0xFFFF else r.st, phase := r.ph, inProgress := r.bg,
               slot := if r.bg then .run else .done, cached := padTo 64 r.body |>.take r.body.length, replyLen := r.body.length,
               items := r.items, fault := x.fault || r.st == stFaulted, squashed := x.squashed || r.st == stAborted }
    let d := if r.bg then d else { d with orphans := d.orphans.filter (· != (port, sid, seq)) }
    match (d.ses port).filter (·.sid == sid) with
    | none => d
    | some s =>
      let k := if port ≤ 1 ∨ 6 ≤ port then rec.via else none
      d.reply s.port s.peer sid seq rec.opcode r.st r.ph false r.bg r.body k

/-! ### Closing and opening sessions -/

/-- Commands of a session that are in flight (10 R275). -/
def Session.inFlight (s : Session) : Nat := (s.recs.filter (·.slot == .run)).length

/-- A session closes (10 R269, R270): commands that wait are dropped with LAST_PHASE 0 and STATUS ABORTED (10 R288), those that run go on,
and SESSION_CLOSED is raised on the mediator sessions that remain (notes/assumptions/10.md). -/
def Dev.closeSession (d : Dev) (port reason : Nat) : Dev :=
  match d.ses port with
  | none => d
  | some s =>
    let waits := s.waiting.map (·.h.seq)
    let d := d.each waits fun d q => d.modRec port s.sid q fun r =>
      { r with slot := .done, status := stAborted, phase := 0, inProgress := false }
    let runs := (s.recs.filter fun r => r.slot == .run && !waits.contains r.seq).map fun r => (port, s.sid, r.seq)
    let d := { d with sessions := d.sessions.filter (·.port != port), orphans := runs ++ d.orphans }
    d.raise toMediators { code := 0xE002, object := port, data := u16 s.sid ++ u8 reason }

/-- The port whose configuration a session of this port uses: a tenancy page uses its endpoint's (10 Table 10.2). -/
def Dev.cfgPort (d : Dev) (port : Nat) : Nat := if port < 6 then port else d.tenEp (port - 0x10)

/-- Bursol runs and answers sessions: the release order has come to its end and no CORE reset is stretched (16 R431, R435). -/
def Dev.alive (d : Dev) : Bool := d.rst.bursol && d.rst.stage == .idle

/-- A tenancy's page takes handshakes: the tenancy exists on this endpoint and its admission is open (10 R254, 11 R298, R303). -/
def Dev.pageOpen (d : Dev) (n : Nat) : Bool :=
  let t := d.ten n
  (match t.st with
   | .active | .frozen | .resetting | .removing => true
   | .absent | .creating | .incomplete => false) && !t.closed

/-- A port answers handshakes at all: Bursol runs, the port is enabled, MAINTENANCE takes only S0, H0 and H1 (16 R438), a page is open. -/
def Dev.portAnswers (d : Dev) (port : Nat) : Bool :=
  d.alive
    && (if port < 6 then d.flag .sesPortCfg port 63 else d.pageOpen (port - 0x10))
    && (!d.rst.maintenance || port == 0 || port == 1 || port == 4)

/-- The key of a port: as KEY_SET or TENANCY_CREATE left it; an unkeyed S0 opens with zeros in MANUFACTURE and OPEN (10 R267). -/
def Dev.keyOf (d : Dev) (port : Nat) : Option Bytes :=
  match (d.prt port).key with
  | some k => some k.key
  | none => if port = 4 ∧ d.lifecycle ≤ 1 then some (zeros 32) else none

/-- The role a port's page opens (10 R254): 0 on a partner port, n on page n. -/
def portRole (port : Nat) : Nat := if port < 6 then 0 else port - 0x10

/-- A reply to a handshake packet: SEQUENCE 0, recorded nowhere; one that a ring carried also gets its completion entry. -/
def Dev.handshake (d : Dev) (port peer sid op st : Nat) (body : Bytes) (via : Option Via) : Dev :=
  let d := d.when (st == stAuthFail) fun d => d.sesCount port 3
  d.reply port peer sid 0 op st (if st = stOk then 1 else 0) false false body via

/-- SESSION_HELLO (10 R266 to R268): refused during a lockout, without a key, or with another role; else an attempt is opened with a fresh
session identifier and nonce. -/
def helloOp (port peer role : Nat) (hostNonce : Bytes) (via : Option Via) (d : Dev) : Dev :=
  if !d.portAnswers port then d
  else
    let d := d.sesCount port 0
    if (d.prt port).locked then d.handshake port peer 0 0 stAuthFail [] via
    else if role != portRole port then d.handshake port peer 0 0 stBadParam [] via
    else match d.keyOf port with
    | none => d.handshake port peer 0 0 stAuthFail [] via
    | some _ =>
      let (v, d) := d.fresh
      let sid := v % 65535 + 1
      let (nonce, d) := d.freshBytes 32
      let kind := ((d.prt port).key.map (·.kind)).getD 0
      let salt := ((d.prt port).key.map (·.salt)).getD (zeros 16)
      let d := d.modPrt port fun p => { p with attempt := some { role, peer, sid, hostNonce, devNonce := nonce } }
      d.handshake port peer sid 0 stOk (u16 sid ++ u8 kind ++ zeros 1 ++ padTo 16 salt ++ nonce ++ padTo 16 Config.serial) via

/-- The bytes that a handshake MAC covers (10 Table 10.7). -/
def macBytes (label : Bytes) (port sid : Nat) (n1 n2 : Bytes) : Bytes := label ++ u8 port ++ u16 sid ++ n1 ++ n2

/-- "ICP1-H" and "ICP1-D" in ASCII. -/
def labelH : Bytes := [0x49, 0x43, 0x50, 0x31, 0x2D, 0x48]
/-- The device's label. -/
def labelD : Bytes := [0x49, 0x43, 0x50, 0x31, 0x2D, 0x44]

/-- The lockout after `n` consecutive failures (10 R268): none below three, then 1 s doubling up to 64 s. -/
def lockoutSecs (n : Nat) : Nat := if n < 3 then 0 else min 64 (2 ^ (n - 3))

/-- A failed SESSION_AUTH (10 R268): AUTH_FAIL, the attempt closes, the audit log notes it, three in a row lock the port out. -/
def authFail (port peer sid : Nat) (via : Option Via) (d : Dev) : Dev :=
  let n := min 255 ((d.prt port).fails + 1)
  let lock := lockoutSecs n
  let d := d.modPrt port fun p => { p with attempt := none, fails := n, locked := decide (3 ≤ n), lockSecs := lock }
  let d := d.audit 0x0007 (u8 port ++ u8 n) port (portRole port)
  let d := d.handshake port peer sid 1 stAuthFail [] via
  d.raise toMediators { code := 0xE003, object := port, data := u8 n ++ u8 lock }

/-- On NC0 and NC1 a SESSION_AUTH is taken from the bound peer, and from the peer whose SESSION_HELLO opened the attempt (10 R259). -/
def Dev.authPeer (d : Dev) (port peer : Nat) : Bool :=
  !(port == 2 || port == 3) || ((d.ses port).isNone && (d.prt port).attempt.isNone) || (d.ses port).any (·.peer == peer)
    || (d.prt port).attempt.any (·.peer == peer)

/-- SESSION_AUTH (10 R266, R268, R270): the host proves the key; the session opens, replacing the port's old one. -/
def authOp (port peer session : Nat) (hostMac : Bytes) (via : Option Via) (d : Dev) : Dev :=
  if !d.portAnswers port then d
  else if !d.authPeer port peer then (d.sesCount port 0).sesCount port 2
  else
    let d := d.sesCount port 0
    match (d.prt port).attempt, d.keyOf port with
    | some a, some key =>
      if a.sid != session then d.handshake port peer session 1 stSessionExpired [] via
      else if hostMac != Config.hmacSha256 key (macBytes labelH port session a.devNonce a.hostNonce) then authFail port peer session via d
      else
        let d := d.closeSession port 1
        let cfg := d.get .sesPortCfg (d.cfgPort port)
        let s : Session :=
          { sid := session, port := port, role := portRole port,
            mediator := portRole port == 0 && bit cfg 62, peer := peer, cfg := cfg,
            timeoutMs := bits cfg 31 16 * 100, holeMs := bits cfg 15 8 }
        let d := d.modPrt port fun p => { p with attempt := none, fails := 0, locked := false, lockSecs := 0 }
        let d : Dev := { d with sessions := d.sessions ++ [s] }
        let d := d.when (decide (port < 2)) fun d => { d with pages := smSet 4 d.pages (port * 16) (bits cfg 59 56) }
        d.handshake port peer session 1 stOk
          (padTo 32 (Config.hmacSha256 key (macBytes labelD port session a.hostNonce a.devNonce)) ++ u32 s.timeoutMs ++ u32 (d.maxLen port)) via
    | _, _ => d.handshake port peer session 1 stSessionExpired [] via

/-- The rings of a BAR0 page (10 R256): RINGS for page 0, the tenancy's grant for the page of an existing tenancy of this endpoint. -/
def Dev.ringsGranted (d : Dev) (ep page : Nat) : Nat :=
  if page = 0 then smGet 4 d.pages (ep * 16)
  else if page ≤ 8 ∧ (d.ten page).st ≠ .absent ∧ d.tenEp page = ep then ((d.ten page).grant.getD 1 0).toNat
  else 0

/-- The session port of a BAR0 page. -/
def pagePort (ep page : Nat) : Nat := if page = 0 then ep else 0x10 + page

/-- The session expires for want of packets (10 R269). -/
def sessionTimeoutOp (port : Nat) (d : Dev) : Dev := d.closeSession port 2

/-- SESSION_ALIVE is sent whenever nothing was sent for a quarter of TIMEOUT (10 R269). -/
def sessionAliveOp (port : Nat) (d : Dev) : Dev := d.raise (toPort port) { code := 0xE000, object := port }

/-- A packet that cannot be trusted is discarded and counted (10 R264). -/
def badPacketOp (port : Nat) (d : Dev) : Dev := (d.sesCount port 0).sesCount port 1

/-- An attempt lapses 2,000 ms after the reply to its SESSION_HELLO (10 R266). -/
def attemptLapseOp (port : Nat) (d : Dev) : Dev := d.modPrt port fun p => { p with attempt := none }

/-- A lockout ends (10 R268): the port answers SESSION_HELLO again; the count of failures stands. -/
def lockoutEndOp (port : Nat) (d : Dev) : Dev := d.modPrt port fun p => { p with locked := false }

/-- Command SESSION_HELLO. -/
def execSessionHello (port peer role : Nat) (hostNonce : Bytes) (s : State) : Host.Outcome State Fault Refusal :=
  onDev (portOk port) (helloOp port peer role hostNonce none) s

/-- Command AUTH_ATTEMPT_LAPSE. -/
def execAuthAttemptLapse (port : Nat) (s : State) : Host.Outcome State Fault Refusal := onDev (portOk port) (attemptLapseOp port) s

/-- Command AUTH_LOCKOUT_END. -/
def execAuthLockoutEnd (port : Nat) (s : State) : Host.Outcome State Fault Refusal := onDev (portOk port) (lockoutEndOp port) s

/-- Command SESSION_ALIVE. -/
def execSessionAlive (port : Nat) (s : State) : Host.Outcome State Fault Refusal := onDev (portOk port) (sessionAliveOp port) s

/-- Command BAD_PACKET. -/
def execBadPacket (port : Nat) (s : State) : Host.Outcome State Fault Refusal := onDev (portOk port) (badPacketOp port) s

/-- Command EVENTS_LOST: space has returned to the session's events. -/
def execEventsLost (port : Nat) (s : State) : Host.Outcome State Fault Refusal := onDev (portOk port) (fun d => d.eventSpaceBack port) s

end Sys2Proof.Machine
end

