-- ==== Sys2Proof/Machine/Time.lean ====
section
/-!
DEFINITION. The time unit (03): the device clock and its steps, the PTP state machine and servo, timestamp inputs and timed outputs.
-/

namespace Sys2Proof.Machine

/-! ### The device clock -/

/-- One PLL_TIM cycle (03 R68): NS.F advances by 2 ns + ADJ, and a full second carries into S. -/
def TimeU.tick (t : TimeU) : TimeU :=
  let nf := ((t.ns.toNat * 2 ^ 32 + t.f.toNat + 2 * 2 ^ 32 : Nat) : Int) + t.adj.toInt
  let nf := nf.toNat
  let ns := nf / 2 ^ 32
  { t with
    f := BitVec.ofNat 32 nf
    ns := BitVec.ofNat 30 (if 1000000000 ≤ ns then ns - 1000000000 else ns)
    s := if 1000000000 ≤ ns then t.s + 1 else t.s
    elapsed := t.elapsed + 2 }

/-- A cycle passes: the AO counter runs always (01 R12), the time unit once PLL_TIM has locked (01 R13). -/
def Dev.tick (d : Dev) : Dev :=
  { d with tim := if bit d.rst.pllGood 3 then d.tim.tick else d.tim, rst := { d.rst with aoTime := d.rst.aoTime + 2 } }

/-- The time after a step of signed size: the second borrows or carries, S wraps at 48 bits (03 R68). -/
def steppedTo (now : Ns) (size : Int) : Ns := (((now : Int) + size) % ((2 : Int) ^ 48 * 1000000000)).toNat

/-- A picture is marked epoch-expired when a stamp of it carries the reopened epoch (02 R45). -/
def Pic.markEpoch (e : Nat) (p : Pic) : Pic :=
  if p.stamp.epoch == e || p.slices.any (·.epoch == e) then { p with expired := true } else p

/-- The marks of an accepted picture on its way through decode. -/
def AccPic.markEpoch (e : Nat) (p : AccPic) : AccPic :=
  if p.slices.any (·.2.2.epoch == e) then { p with mark := true } else p

/-- The marks of a picture that a mirror gathers. -/
def MirrorPic.markEpoch (e : Nat) (p : MirrorPic) : MirrorPic :=
  if p.stamps.any (·.epoch == e) || p.whole.any (·.epoch == e) then { p with mark := true } else p

/-- The marks of a picture in the ingest buffer. -/
def PicBuf.markEpoch (e : Nat) (p : PicBuf) : PicBuf := if p.stamps.any (·.epoch == e) then { p with mark := true } else p

/-- Every picture held in an ingest, decode or image-pipeline buffer whose stamps carry epoch `e` is marked (02 R45). -/
def Dev.markEpoch (d : Dev) (e : Nat) : Dev :=
  { d with
    srcs := d.srcs.map fun (n, s) => (n, { s with pics := s.pics.map (·.markEpoch e) })
    decs := d.decs.map fun (n, x) =>
      (n, { x with
        queue := x.queue.map (·.markEpoch e)
        cur := x.cur.map fun p => if x.curStamps.any (·.epoch == e) then { p.markEpoch e with mark := true } else p.markEpoch e
        held := x.held.map (·.markEpoch e)
        pics := x.pics.map (·.markEpoch e)
        lastOut := x.lastOut.map (·.markEpoch e)
        mirror := x.mirror.map (·.markEpoch e) })
    pipes := d.pipes.map fun (n, x) => (n, { x with sets := x.sets.map fun c => if c.epoch == e then { c with mark := true } else c })
    layers := d.layers.map fun (n, x) => (n, { x with pic := x.pic.map (·.markEpoch e) }) }

/-- A time moved by a step. -/
def moved (size : Int) (t : Ns) : Ns := ((t : Int) + size).toNat

/-- The expiry time of a tile, in the time after a step (02 R62, R64). -/
def TileSt.moved (size : Int) (t : Nat × TileSt) : Nat × TileSt := (t.1, { t.2 with expiry := t.2.expiry.map (Machine.moved size) })

/-- Readings that wait for their stamp move with the clock (04 R95): packet times in the ingest buffers; so do the
expiry times of tiles, and each output has one more step to record (08 R214). -/
def Dev.moveReadings (d : Dev) (size : Int) : Dev :=
  { d with
    srcs := d.srcs.map fun (n, s) =>
      (n, { s with
        cand := s.cand.map fun (k, t) => (k, moved size t)
        pics := s.pics.map fun p =>
          { p with firstIng := moved size p.firstIng, pkts := p.pkts.map fun (e, k, t) => (e, k, moved size t) } })
    outs := d.outs.map fun (n, x) =>
      (n, { x with
        tiles := x.tiles.map (TileSt.moved size)
        witnessTiles := x.witnessTiles.map (TileSt.moved size)
        holdTiles := x.holdTiles.map (TileSt.moved size)
        stepsSeen := x.stepsSeen + 1 }) }

/-- `step_sum(e)` (02 R45): the steps taken since epoch `e` was opened. -/
def Dev.stepSum (d : Dev) (e : Nat) : Int :=
  ((d.tim.log.take ((d.epoch + 16 - e % 16) % 16)).map (·.size)).sum

/-! ### Timed outputs (03 R87, R88) -/

/-- The period of a timed output in 2⁻³² ns, where its mode has one. -/
def tsoPeriod (mode period : Nat) : Option Nat :=
  match mode with
  | 1 => some (1000000000 * 2 ^ 32)
  | 2 => some (bits period 63 32 * 2 ^ 32 + bits period 31 0)
  | _ => none

/-- The first leading edge after a time (03 R88). -/
def tsoNextEdge (mode period : Nat) (start now : Ns) : Option Ns :=
  match mode with
  | 1 => some ((now / 1000000000 + 1) * 1000000000)
  | 2 =>
    let p := bits period 63 32 * 2 ^ 32 + bits period 31 0
    if p = 0 then none
    else if now < start then some start
    else some (start + ((now - start) * 2 ^ 32 / p + 1) * p / 2 ^ 32)
  | 4 => if now < start then some start else none
  | _ => none

/-- The next edge of timed output `n` from its parameters and the clock. -/
def Dev.tsoSchedule (d : Dev) (n : Nat) : Dev :=
  let e := tsoNextEdge (d.fld .timTsoCfg n 31 29) (d.get .timTsoPeriod n) (ofFullTime (d.get .timTsoStart n)) d.now
  let rest := smErase d.tim.tsoNext n
  { d with tim := { d.tim with tsoNext := match e with
      | some t => smInsert rest n t
      | none => rest } }

/-- A timed output runs in every state but FREE_RUN, and in FREE_RUN when FREE is 1. -/
def Dev.tsoRuns (d : Dev) (n : Nat) : Bool :=
  d.fld .timTsoCfg n 31 29 != 0 && (d.tim.st != .freeRun || d.flag .timTsoCfg n 27)

/-- A leading edge falls due: the pulse starts and the next edge is computed. -/
def tsoEdgeOp (n : Nat) (d : Dev) : Dev :=
  if d.tsoRuns n then
    let d := { d with tim := { d.tim with tsoActive := if n ∈ d.tim.tsoActive then d.tim.tsoActive else n :: d.tim.tsoActive } }
    (d.send (.pulse n true)).tsoSchedule n
  else d.tsoSchedule n

/-- A pulse ends after its width, in elapsed time, whatever steps the clock has taken. -/
def tsoPulseEndOp (n : Nat) (d : Dev) : Dev :=
  if n ∈ d.tim.tsoActive then
    { d with tim := { d.tim with tsoActive := d.tim.tsoActive.filter (· != n) } }.send (.pulse n false)
  else d

/-- A write of TSO_CFG, TSO_START or TSO_PERIOD takes effect at once. -/
def tsoWritten (n : Nat) (d : Dev) : Dev :=
  let d := d.tsoSchedule n
  if d.fld .timTsoCfg n 31 29 = 0 then tsoPulseEndOp n d else d

/-! ### Steps (03 R78, R80, R81) -/

/-- A step in one cycle (03 R81, 02 R45, R62): the clock moves, the epoch advances, pictures that carry the reopened epoch are marked, the
step is logged, timed outputs take their next edges from the stepped clock, and TIME_STEPPED and an audit entry tell of it. -/
def Dev.stepClock (d : Dev) (size : Int) (auto : Bool) : Dev :=
  let after := steppedTo d.now size
  let e := (d.epoch + 1) % 16
  let d := (d.markEpoch e).moveReadings size
  let t := d.tim.setNow after
  let t := { t with epoch := BitVec.ofNat 4 e, log := ({ size, epoch := e, after, auto } :: t.log).take 15, lastStep := some t.elapsed }
  let d := { d with tim := t }
  let d := d.each [0, 1, 2, 3] fun d n => d.tsoSchedule n
  let d := d.audit 0x0009 (s64 size ++ u8 e ++ u8 auto.toNat)
  d.raise toPartners { code := 0xE802, object := 0, data := s64 size ++ u8 e ++ u8 auto.toNat }

/-- The least signed 64-bit step value and its range. -/
def inS64 (i : Int) : Bool := decide (-(2 : Int) ^ 63 ≤ i ∧ i < (2 : Int) ^ 63)

/-- A valid exchange was made in the last 1,000 ms (03 R80). -/
def Dev.recentExchange (d : Dev) : Bool := d.tim.lastValid.any fun t => decide (d.tim.elapsed - t ≤ 1000000000)

/-- A step was made within the last 100 ms (03 R80; one exactly 100 ms ago still counts, notes/assumptions/11.md). -/
def Dev.recentStep (d : Dev) : Bool := d.tim.lastStep.any fun t => decide (d.tim.elapsed - t ≤ 100000000)

/-- The reply of a step: the applied size and the new epoch. -/
def stepReply (size : Int) (e : Nat) : Bytes := s64 size ++ u8 e ++ zeros 3

/-- TIME_STEP (03 R80, 15 R412): on the acting Atlas the step waits for the first GO sent after it. -/
def timeStepOp (c : Ctx) (mode : Nat) (delta : Int) (d : Dev) : Answer :=
  let size := if mode = 0 then delta else -d.tim.offset
  let acting := d.chain.acting == some d.chain.position
  checked [(!c.partner, stNotPermitted), (d.chain.role != 0 && !acting, stNotPermitted),
    (decide (1 < mode) || !inS64 delta, stBadParam), (mode == 1 && !d.recentExchange, stBadParam), (size == 0, stBadParam),
    (d.recentStep, stBusyRetry), (d.chain.role != 0 && d.chain.stepPending.isSome, stBusyRetry)] d fun d =>
  if d.chain.role = 0 then
    let d := d.stepClock size false
    (some { st := stOk, ph := 3, body := stepReply size d.epoch }, d)
  else
    (none, { d with chain := { d.chain with stepPending := some (size, c.ses.port, c.ses.sid, c.seq) } })

/-! ### PTP (03 R72 to R79) -/

/-- A time port (03 R73): an Ethernet port of PORT_EN, or (8, 9) a Mindanko port in service on a device with a chain role. -/
def Dev.timePort (d : Dev) (p : Nat) : Bool :=
  if p < 8 then d.flag .timPtpCfg 0 (10 + p)
  else p < 10 && d.chain.role != 0 && d.chain.inService.contains (p - 8)

/-- 2⁻³² ns per cycle for a rate in parts per 10⁹. -/
def ppbToAdj (ppb : Nat) : Int := ((ppb * 2 ^ 33 / 1000000000 : Nat) : Int)

/-- An integer kept within ± a bound of another. -/
def clampAround (mid bound x : Int) : Int := max (mid - bound) (min (mid + bound) x)

/-- The servo's rate for an offset (03 R79): the PI law is open (`Config.servoRate`), its limits are not. -/
def servoAdj (maxSlewPpb : Nat) (offset integ : Int) : Int :=
  clampAround 0 (ppbToAdj 500000) (clampAround (Config.servoRate 0 integ) (ppbToAdj maxSlewPpb) (Config.servoRate offset integ))

/-- One evaluation of the servo, once per valid exchange (03 R79). -/
def Dev.servo (d : Dev) (offset : Int) : Dev :=
  let integ := d.tim.integ + offset
  let a := servoAdj (d.get .timMaxSlewPpb) offset integ
  { d with tim := { d.tim with integ, adj := BitVec.ofInt 32 a, rates := if d.tim.st == TimSt.locked then (a :: d.tim.rates).take 64 else d.tim.rates } }

/-- A state is entered: its counts start over (03 R77). -/
def TimeU.enter (t : TimeU) (st : TimSt) : TimeU := { t with st, valid := 0, inLock := 0, beyond := 0 }

/-- HOLDOVER is entered (03 R77, R79, 02 R60): ADJ freezes at the mean of the last 64 exchanges in LOCKED, and the trust period starts. -/
def Dev.enterHoldover (d : Dev) : Dev :=
  let t := d.tim
  let adj := if t.rates.length = 64 then BitVec.ofInt 32 (t.rates.sum / 64) else t.adj
  let d := { d with tim := { t.enter .holdover with adj, holdFromLocked := t.st == TimSt.locked, trustOver := d.get .datHoldoverTrustMs == 0 } }
  d.raise toPartners { code := 0xE801, object := 0, data := s64 d.tim.offset }

/-- LOCKED is entered. -/
def Dev.enterLocked (d : Dev) : Dev :=
  let d := { d with tim := { d.tim.enter .locked with rates := [] } }
  d.raise toPartners { code := 0xE800, object := 0, data := s64 d.tim.offset }

/-- STEP_NEEDED is set after the first lock while the offset lies beyond the step threshold, and clears at the first valid exchange within it
(02 R61). -/
def Dev.stepNeeded (d : Dev) (beyond : Bool) : Dev :=
  if beyond && d.tim.firstStepDone then
    if d.tim.stepNeeded then d
    else { d with tim := { d.tim with stepNeeded := true } }.raise toPartners { code := 0xE804, object := 0, data := s64 d.tim.offset }
  else { d with tim := { d.tim with stepNeeded := false } }

/-- The state machine at a valid exchange (03 Table 3.4). -/
def Dev.exchangeState (d : Dev) (offset : Int) : Dev :=
  let step := offset.natAbs > d.get .timStepThreshNs
  let lock := offset.natAbs ≤ d.get .timLockThreshNs
  match d.tim.st with
  | .freeRun =>
    if d.tim.valid + 1 < 4 then { d with tim := { d.tim with valid := d.tim.valid + 1 } }
    else
      let d :=
        if d.tim.firstStepDone then d
        else
          let d := d.stepClock (-offset) true
          { d with tim := { d.tim with firstStepDone := true } }
      { d with tim := d.tim.enter .acquiring }
  | .acquiring =>
    if step && d.tim.firstStepDone then { d with tim := d.tim.enter .slewing }
    else if lock then
      if d.tim.inLock + 1 < 16 then { d with tim := { d.tim with inLock := d.tim.inLock + 1 } } else d.enterLocked
    else { d with tim := { d.tim with inLock := 0 } }
  | .locked =>
    if step then { d with tim := d.tim.enter .slewing }
    else if lock then { d with tim := { d.tim with beyond := 0 } }
    else if d.tim.beyond + 1 < 16 then { d with tim := { d.tim with beyond := d.tim.beyond + 1 } }
    else { d with tim := d.tim.enter .acquiring }
  | .holdover => { d with tim := d.tim.enter (if step then .slewing else .acquiring) }
  | .slewing => if step then d else { d with tim := d.tim.enter .acquiring }

/-- A PTP message is processed (03 R69, R77 to R79). -/
def ptpOp (m : PtpMsg) (d : Dev) : Dev :=
  match m with
  | .exchange port offset =>
    if !d.timePort port then d
    else
      let first := d.tim.st == .freeRun && !d.tim.firstStepDone
      let d := { d with tim := { d.tim with offset, lastValid := some d.tim.elapsed, slavePort := port, gmValid := true } }
      let d := if first then d else d.stepNeeded (offset.natAbs > d.get .timStepThreshNs)
      (d.servo offset).exchangeState offset
  | .invalid => { d with tim := { d.tim with valid := 0, inLock := 0 } }
  | .grandmaster port identity =>
    if !d.timePort port then d
    else if d.tim.gmId = identity ∧ d.tim.gmValid then { d with tim := { d.tim with slavePort := port } }
    else
      let old := d.tim.gmId
      let d := { d with tim := { d.tim with gmId := identity, gmValid := true, slavePort := port, valid := 0, inLock := 0 } }
      d.when (old != identity) fun d => d.raise toPartners { code := 0xE803, object := port, data := u64 old ++ u64 identity }
  | .announce utc smpte => { d with tim := { d.tim with utcOffset := utc % 65536, smpte := smpte.getD d.tim.smpte } }

/-- No valid exchange for announceReceiptTimeout Announce intervals: a loss (03 Table 3.4). -/
def announceTimeoutOp (d : Dev) : Dev :=
  let lost := fun (d : Dev) => { d with tim := { d.tim with gmValid := false, slavePort := 0xF, valid := 0, inLock := 0 } }
  match d.tim.st with
  | .locked | .acquiring | .slewing => lost d.enterHoldover
  | .freeRun | .holdover => lost d

/-- A write of TIM.PTP_CFG restarts the instance unless it is in FREE_RUN (03 R75). -/
def ptpRestart (d : Dev) : Dev :=
  let lost := fun (d : Dev) => { d with tim := { d.tim with gmValid := false, slavePort := 0xF } }
  match d.tim.st with
  | .freeRun => d
  | .locked => lost d.enterHoldover
  | .acquiring | .holdover | .slewing => lost { d with tim := d.tim.enter .freeRun }

/-- A port in MASTER state sends its Sync (15 R405, 03 R73): a Mindanko time port that is not the slave port, or an Ethernet time port of a
master-capable instance that has no grandmaster. -/
def ptpSyncOp (port : Nat) (d : Dev) : Dev :=
  let master := d.timePort port && d.tim.slavePort != port && (decide (8 ≤ port) || (!d.flag .timPtpCfg 0 18 && !d.tim.gmValid))
  d.when master fun d => if port < 8 then d.ethTx port 0 (.ptp port 0) else d.send (.ptp port 0)

/-- The trust period of a holdover ends (02 R60). -/
def trustExpireOp (d : Dev) : Dev := if d.tim.st = .holdover then { d with tim := { d.tim with trustOver := true } } else d

/-- `mapping_permitted()` (04 R94, 02 R61). -/
def Dev.mappingPermitted (d : Dev) : Bool :=
  !d.tim.stepNeeded && (d.tim.st == TimSt.locked || (d.tim.st == TimSt.holdover && d.tim.holdFromLocked && !d.tim.trustOver))

/-- Stamps carry HOLDOVER while STATE is 3 or 4 (03 R77), and while new stamps are treated as after the trust period (02 R61). -/
def Dev.holdoverFlag (d : Dev) : Bool := d.tim.st == TimSt.holdover || d.tim.st == .slewing || d.tim.stepNeeded

/-- The STATE code (03 Table 3.3). -/
def TimSt.code : TimSt → Nat
  | .freeRun => 0 | .acquiring => 1 | .locked => 2 | .holdover => 3 | .slewing => 4

/-- TIM.STATUS (03 Table 3.3). -/
def Dev.timStatus (d : Dev) : Nat :=
  let t := d.tim
  (t.st.code <<< 29) + (t.stepNeeded.toNat <<< 28) + (t.firstStepDone.toNat <<< 27) + (t.epoch.toNat <<< 23) + ((t.slavePort % 16) <<< 19)
    + (t.gmValid.toNat <<< 18)

/-- TIM.STEP_LOG[i] (03 Table 3.12); an entry no step has filled reads zero. -/
def Dev.stepLog (d : Dev) (i : Nat) : Nat :=
  match d.tim.log[i]? with
  | none => 0
  | some e => (fullTime e.after <<< 128) + (e.auto.toNat <<< 68) + ((e.epoch % 16) <<< 64) + ofSigned 64 e.size

/-! ### Timestamp inputs (03 R85, R86) -/

/-- The state of timestamp input `n`. -/
def Dev.tsi (d : Dev) (n : Nat) : TsiSt := smGet {} d.tim.tsi n

/-- Timestamp input `n` replaced. -/
def Dev.setTsi (d : Dev) (n : Nat) (x : TsiSt) : Dev := { d with tim := { d.tim with tsi := smSet {} d.tim.tsi n x } }

/-- TSI events go to every partner session and the session that enabled the input (03 R89). -/
def tsiTo (x : TsiSt) (s : Session) : Bool := s.role == 0 || x.session == some (s.port, s.sid)

/-- An edge that passed the glitch filter (03 R85, R86). -/
def tsiEdgeOp (n : Nat) (rise : Bool) (d : Dev) : Dev :=
  let edge := d.fld .timTsiCfg n 30 29
  if !(d.flag .timTsiCfg n 31 && bit edge (if rise then 0 else 1)) then d
  else
    let x := d.tsi n
    if x.lastEdge.any fun t => decide (d.tim.elapsed - t < 8) then d.count .timTsiMissed n
    else
      let count := (x.count + 1) % 2 ^ 32
      let x := { x with count, lastEdge := some d.tim.elapsed }
      if 16 ≤ x.fifo.length then
        let d' := d.setTsi n { x with ovfPending := true }
        d'.when (!x.ovfPending) fun d => d.raise (tsiTo x) { code := 0xE806, object := n, data := u32 count }
      else
        let rec_ := (datumTime d.now <<< 64) + (d.epoch <<< 60) + (rise.toNat <<< 59) + (x.ovfPending.toNat <<< 58) + (1 <<< 57) + count
        let x := { x with fifo := x.fifo ++ [rec_], ovfPending := false }
        let d := d.setTsi n x
        let th := d.fld .timTsiCfg n 15 12
        d.when (th != 0 && x.fifo.length == th) fun d => d.raise (tsiTo x) { code := 0xE805, object := n, data := u8 x.fifo.length }

/-- A read removes the oldest record (03 R86). -/
def Dev.tsiPop (d : Dev) (n : Nat) : Dev := d.setTsi n { d.tsi n with fifo := (d.tsi n).fifo.drop 1 }

/-- A write of TIM.TSI_CFG that enables an input names the session and starts its count (03 R89, Table 3.8). -/
def tsiWritten (c : Ctx) (n old : Nat) (d : Dev) : Dev :=
  if d.flag .timTsiCfg n 31 && !bit old 31 then d.setTsi n { session := some (c.ses.port, c.ses.sid) } else d

/-! ### Commands -/

/-- Command PTP_MESSAGE_RX. -/
def execPtpMessageRx (m : PtpMsg) (s : State) : Host.Outcome State Fault Refusal := onDev (Instr.wellFormed (.ptpMessageRx m)) (ptpOp m) s

/-- Command ANNOUNCE_TIMEOUT. -/
def execAnnounceTimeout (s : State) : Host.Outcome State Fault Refusal := onDev (Instr.wellFormed .announceTimeout) announceTimeoutOp s

/-- Command PTP_SYNC_SEND. -/
def execPtpSyncSend (port : Nat) (s : State) : Host.Outcome State Fault Refusal :=
  onDev (Instr.wellFormed (.ptpSyncSend port)) (ptpSyncOp port) s

/-- Command TSI_EDGE. -/
def execTsiEdge (n : Nat) (rise : Bool) (s : State) : Host.Outcome State Fault Refusal :=
  onDev (Instr.wellFormed (.tsiEdge n rise)) (tsiEdgeOp n rise) s

/-- Command TSO_EDGE. -/
def execTsoEdge (n : Nat) (s : State) : Host.Outcome State Fault Refusal := onDev (Instr.wellFormed (.tsoEdge n)) (tsoEdgeOp n) s

/-- Command TSO_PULSE_END. -/
def execTsoPulseEnd (n : Nat) (s : State) : Host.Outcome State Fault Refusal :=
  onDev (Instr.wellFormed (.tsoPulseEnd n)) (tsoPulseEndOp n) s

/-- Command HOLDOVER_TRUST_EXPIRE. -/
def execHoldoverTrustExpire (s : State) : Host.Outcome State Fault Refusal :=
  onDev (Instr.wellFormed .holdoverTrustExpire) trustExpireOp s

end Sys2Proof.Machine
end

