-- ==== Sys2Proof/Machine/Sources.lean ====
section
/-!
DEFINITION. Source entries below ingest and decode (04, 05, 02): the entry's fields and events, its states, its reassignment, the proof
tests, the decode queue, and the pools in which the P9 reserves memory.
-/

namespace Sys2Proof.Machine

/-! ### The entry (04 Table 4.2) -/

/-- EN of an entry. -/
def Dev.srcEn (d : Dev) (n : Nat) : Bool := d.flag .srcCfg n 63
/-- KIND of an entry. -/
def Dev.srcKind (d : Dev) (n : Nat) : Nat := d.fld .srcCfg n 62 60
/-- CLOCK of an entry. -/
def Dev.srcClock (d : Dev) (n : Nat) : Nat := d.fld .srcCfg n 59 58
/-- PORT of an entry. -/
def Dev.srcPort (d : Dev) (n : Nat) : Nat := d.fld .srcCfg n 57 55
/-- GEN of an entry (04 R92). -/
def Dev.srcGen (d : Dev) (n : Nat) : Nat := d.fld .srcCfg n 15 8
/-- OWNER of an entry (04 R92). -/
def Dev.srcOwner (d : Dev) (n : Nat) : Nat := d.fld .srcCfg n 7 4

/-- The numbers of the entries. -/
def sourceNumbers : List Nat := List.range 192

/-- The entry is a mirror, for which ingest takes nothing (15 R416). -/
def Dev.isMirror (d : Dev) (n : Nat) : Bool := d.flag .mdkMirror n 15

/-- The enabled entry of a kind on a port (04 R105: an input or a pipe has one). -/
def Dev.srcOn (d : Dev) (kind port : Nat) : Option Nat :=
  sourceNumbers.find? fun n => d.srcEn n && !d.isMirror n && d.srcKind n == kind && d.srcPort n == port

/-- An event of a source goes to its owner and every mediator session, with its GEN (04 R113, 05 R142, 02 R67). -/
def Dev.srcEvent (d : Dev) (n code : Nat) (data : Bytes) (on : Bool := false) (gen : Option Nat := none) : Dev :=
  let o := d.srcOwner n
  d.raise (toOwnerMed o) { code, object := n, gen := gen.getD (d.srcGen n), tenancy := o, data, on }

/-- A counter SRC.STAT[n][k] (04 Table 4.8) advances. -/
def Dev.srcCount (d : Dev) (n k : Nat) (by_ : Nat := 1) : Dev := d.count2 .srcStat n k by_

/-- A counter DEC.STAT[n][k] (05 Table 5.6) advances. -/
def Dev.decCount (d : Dev) (n k : Nat) (by_ : Nat := 1) : Dev := d.count2 .decStat n k by_

/-- SRC.DETECT (04 Table 4.3): the format of the last accepted picture and the mean of at most 16 intervals. -/
def Dev.detect (d : Dev) (n : Nat) : Nat :=
  let s := d.src n
  let iv := if s.ivals.isEmpty then 0 else s.ivals.sum / s.ivals.length / 1000
  match s.fmt with
  | none => iv % 2 ^ 20
  | some f => ((f.width % 65536) <<< 48) + ((f.height % 65536) <<< 32) + ((f.sampling % 16) <<< 28) + ((f.depth % 16) <<< 24)
      + ((f.color % 16) <<< 20) + iv % 2 ^ 20

/-- The code of a source state (04 Table 4.6). -/
def SrcSt.code : SrcSt → Nat
  | .off => 0 | .seeking => 1 | .running => 2 | .lost => 3 | .format => 4

/-- SRC.STATUS (04 Table 4.7). -/
def Dev.srcStatus (d : Dev) (n : Nat) : Nat :=
  let s := d.src n
  (s.st.code <<< 29) + (s.outOfRange.toNat <<< 28) + (s.hbSeen.toNat <<< 27) + ((s.lastCapsrc % 4) <<< 25)
    + (d.mappingPermitted.toNat <<< 24) + ((s.lastTaint % 4096) <<< 12)

/-- A layer's source is lost while its entry is in LOST or OFF (04 R110). -/
def Dev.sourceLost (d : Dev) (n : Nat) : Bool := (d.src n).st == .lost || (d.src n).st == .off

/-! ### States (04 R110 to R113) -/

/-- SOURCE_FORMAT is raised (04 Table 4.9). -/
def Dev.formatEvent (d : Dev) (n : Nat) (on : Bool) : Dev :=
  d.srcEvent n 0xE202 (u64 (d.detect n) ++ u8 (d.src n).outOfRange.toNat) on

/-- SOURCE_RESUMED with the loss duration (04 Table 4.9). -/
def Dev.resumedEvent (d : Dev) (n : Nat) : Dev :=
  let s := d.src n
  d.srcEvent n 0xE201 (tm (s.lastIng.getD 0) ++ u32 ((d.tim.elapsed - s.lostAt) / 1000000))

/-- The entry enters LOST, from RUNNING or FORMAT (04 R110, R112). -/
def Dev.enterLost (d : Dev) (n : Nat) : Dev :=
  let was := (d.src n).st
  match was with
  | .running | .format =>
    let d := d.modSrc n fun s => { s with st := .lost, lostAt := d.tim.elapsed, newFmt := none, fmtRun := 0 }
    let d := d.when (was == .format) fun d => d.formatEvent n false
    d.srcEvent n 0xE200 (tm ((d.src n).lastIng.getD 0))
  | .off | .seeking | .lost => d

/-- The entry enters FORMAT (04 R111); the wait of LOSS_MS starts over (R110). A move out of LOST raises SOURCE_RESUMED. -/
def Dev.enterFormat (d : Dev) (n : Nat) (oor : Bool) (f : Option Format) : Dev :=
  let was := (d.src n).st
  let d := d.modSrc n fun s =>
    { s with st := .format, outOfRange := oor, newFmt := f, fmtRun := 0, waitMs := d.get .srcLossMs n }
  let d := d.when (was == .lost) fun d => d.resumedEvent n
  d.when (was != .format) fun d => d.formatEvent n true

/-- A stream whose format lies outside the limits: no picture is accepted (04 R104, R111, 05 R116). -/
def Dev.outOfRange (d : Dev) (n : Nat) : Dev :=
  if (d.src n).st == .format && (d.src n).outOfRange then d.modSrc n fun s => { s with newFmt := none, fmtRun := 0 }
  else if (d.src n).st == .off then d
  else d.enterFormat n true none

/-- A picture of format `f` is about to be accepted: the entry's state follows (04 R110 to R112), and the answer says whether the picture
carries FORMAT. -/
def Dev.formatOf (d : Dev) (n : Nat) (f : Format) : Bool × Dev :=
  let s := d.src n
  match s.st with
  | .off => (false, d)
  | .seeking => (false, d.modSrc n fun s => { s with st := .running, fmt := some f, outOfRange := false })
  | .running =>
    if s.fmt = none ∨ s.fmt = some f then (false, d.modSrc n fun s => { s with fmt := some f })
    else
      let d := d.modSrc n fun s => { s with fmt := some f }
      let d := d.enterFormat n false (some f)
      (true, d.modSrc n fun s => { s with fmtRun := 1 })
  | .lost =>
    if s.fmt = some f then
      let d := d.modSrc n fun s => { s with st := .running, outOfRange := false }
      (false, d.resumedEvent n)
    else
      let d := d.modSrc n fun s => { s with fmt := some f }
      let d := d.enterFormat n false (some f)
      (true, d.modSrc n fun s => { s with fmtRun := 1 })
  | .format =>
    if s.newFmt = some f ∧ 1 ≤ s.fmtRun then
      let d := d.modSrc n fun s => { s with st := .running, fmt := some f, newFmt := none, fmtRun := 0, outOfRange := false }
      (true, d.formatEvent n false)
    else (true, d.modSrc n fun s => { s with fmt := some f, newFmt := some f, fmtRun := 1, outOfRange := false })

/-- A picture is accepted: SEQ advances, the interval is measured, the wait starts over (04 R100, R110). -/
def Dev.accepted (d : Dev) (n : Nat) (ing : Ns) : Nat × Dev :=
  let s := d.src n
  let seq := s.nextSeq
  let iv := match s.lastPicIng with
    | none => s.ivals
    | some t => ((d.tim.elapsed - t) :: s.ivals).take 16
  let d := d.modSrc n fun s =>
    { s with nextSeq := (seq + 1) % 2 ^ 32, lastIng := some ing, waitMs := d.get .srcLossMs n, ivals := iv,
             lastPicIng := some d.tim.elapsed }
  (seq, d.srcCount n 1)

/-! ### The DisplayPort input's HPD (04 R105) -/

/-- Input `m` deasserts HPD for 10 ms, if an enabled entry uses it. -/
def Dev.hpdPulse (d : Dev) (m : Nat) : Dev :=
  match d.srcOn 3 m with
  | none => d
  | some n => (d.modSrc n fun s => { s with hpdLow := true }).send (.hpd m false)

/-- The pulse ends. -/
def hpdPulseEndOp (m : Nat) (d : Dev) : Dev :=
  match d.srcOn 3 m with
  | none => d
  | some n => if (d.src n).hpdLow then (d.modSrc n fun s => { s with hpdLow := false }).send (.hpd m true) else d

/-! ### Multicast (04 R97) -/

/-- A destination is a multicast address: 224.0.0.0/4, or ff00::/8 with IPV6. -/
def isMulticast (v6 : Bool) (a : Nat) : Bool := if v6 then bits a 127 120 == 0xFF else bits a 31 28 == 0xE

/-- The entry uses a multicast group on an Ethernet port: the port and the group. -/
def Dev.groupOf (d : Dev) (n : Nat) : Option (Nat × Nat) :=
  if d.srcEn n && !d.isMirror n && decide (d.srcKind n ≤ 2) && isMulticast (d.flag .srcCfg n 54) (d.get .srcDst n) then
    some (d.srcPort n, d.get .srcDst n)
  else none

/-- An enabled entry uses a group on a port. -/
def Dev.groupUsed (d : Dev) (port group : Nat) : Bool := sourceNumbers.any fun n => d.groupOf n == some (port, group)

/-- The membership of a port follows the enabled entries: a first user joins, with a report now and one 1 s later; the last to go
leaves. -/
def Dev.membership (d : Dev) (port group : Nat) : Dev :=
  let e := d.eth port
  let used := d.groupUsed port group
  let is := e.groups.contains group
  if used && !is then
    (d.setEth port { e with groups := group :: e.groups, groupRepeat := group :: e.groupRepeat.filter (· != group) }).groupTx port group true
  else if !used && is then
    (d.setEth port { e with groups := e.groups.filter (· != group), groupRepeat := e.groupRepeat.filter (· != group) }).groupTx port group false
  else if used then
    (d.setEth port { e with groupRepeat := group :: e.groupRepeat.filter (· != group) }).groupTx port group true
  else d

/-- The second unsolicited report, 1 s after the first. -/
def igmpRepeatOp (port group : Nat) (d : Dev) : Dev :=
  let e := d.eth port
  if e.groupRepeat.contains group then
    (d.setEth port { e with groupRepeat := e.groupRepeat.filter (· != group) }).groupTx port group true
  else d

/-- A query is answered for a group the port belongs to; a general query (group 0) for every group. -/
def igmpQueryOp (port group : Nat) (d : Dev) : Dev :=
  d.each ((d.eth port).groups.filter fun g => group == 0 || g == group) fun d g => d.groupTx port g true

/-! ### Memory pools (11 R293, 13 R359) -/

/-- The bytes of an owner's pool: POOL_MIB of a tenancy's grant (11 Table 11.2, offset 20), MEM.PARTNER_MIB for the partner sessions. -/
def Dev.poolSize (d : Dev) (owner : Nat) : Nat :=
  if owner = 0 then d.get .memPartnerMib * 2 ^ 20 else leVal (((d.ten owner).grant.drop 20).take 4) * 2 ^ 20

/-- What an owner's pool holds; entry 0 of the tenancies stands for the partner pool. -/
def Dev.poolUsed (d : Dev) (owner : Nat) : Nat := ((d.ten owner).pool.map (·.2)).sum

/-- An object is reserved in its owner's pool where it fits; an object of that number is replaced. -/
def Dev.poolTake (d : Dev) (owner obj bytes : Nat) : Option Dev :=
  let rest := (d.ten owner).pool.filter (·.1 != obj)
  if (rest.map (·.2)).sum + bytes ≤ d.poolSize owner then some (d.modTen owner fun t => { t with pool := (obj, bytes) :: rest })
  else none

/-- An object leaves its owner's pool. -/
def Dev.poolFree (d : Dev) (owner obj : Nat) : Dev := d.modTen owner fun t => { t with pool := t.pool.filter (·.1 != obj) }

/-! ### Decode load and placement (05 R117 to R123) -/

/-- An engine can take sources: present, and neither quarantined nor in block reset. -/
def Dev.engUsable (d : Dev) (e : Nat) : Bool := d.present (9 + e) && !d.quarantined (5 + e) && !d.inReset (5 + e)

/-- The committed load of an engine in px/s. -/
def Dev.committed (d : Dev) (e : Nat) : Nat :=
  (sourceNumbers.map fun n => if (d.dec n).engine = some e then (d.dec n).load else 0).sum

/-- What one engine sustains, in px/s (05 R119). -/
def engineRate : Nat := 1500000000

/-- OVERCOMMIT of every engine follows its load; DECODE_OVERCOMMIT is raised on every partner session where a bit changes. -/
def Dev.overcommit (d : Dev) : Dev :=
  d.each [0, 1, 2, 3] fun d e =>
    let ovr := decide (engineRate < d.committed e)
    if (d.eng e).overcommit == ovr then d
    else (d.modEng e fun x => { x with overcommit := ovr }).raise toPartners
      { code := 0xE20A, object := e, data := u16 (min 4095 (d.committed e / 1000000)), on := ovr }

/-- The engine of a source, by its pin or by R120: the lowest committed load with room, else the lowest committed load, the lowest index on a
tie. Pins to a quarantined engine count as none (05 R135). -/
def Dev.engineFor (d : Dev) (n load : Nat) : Option Nat :=
  let pin := d.fld .decCfg n 30 29
  if d.flag .decCfg n 31 && d.engUsable pin then some pin
  else
    let load' := fun e => d.committed e - (if (d.dec n).engine = some e then (d.dec n).load else 0)
    let es := [0, 1, 2, 3].filter d.engUsable
    match argMin load' (es.filter fun e => load' e + load ≤ engineRate) with
    | some e => some e
    | none => argMin load' es

/-- A source's picture rate in mHz (05 R119): VUI timing, the measured interval from 16 pictures on, else 60 Hz. -/
def Dev.picRate (d : Dev) (n : Nat) (s : Sps) : Nat :=
  let iv := d.src n |>.ivals
  if 0 < s.rate then s.rate
  else if 15 ≤ iv.length ∧ 0 < iv.sum / iv.length then 1000000000000 / (iv.sum / iv.length) else 60000

/-- The decode load of a source in px/s (05 R119): an uncompressed source uses none (04 R108). -/
def Dev.loadOf (d : Dev) (n : Nat) : Nat :=
  match (d.dec n).sps with
  | none => 0
  | some s =>
    let px := s.fmt.width * s.fmt.height * d.picRate n s / 1000
    let br := (((d.dec n).bitWindow.filter fun w => decide (d.tim.elapsed ≤ w.1 + 1000000000)).map (·.2)).sum
    max px (br * 3 / 2)

/-- A source moves to another engine (05 R121), or is placed on its first. Causes (05 Table 5.7, in its order): 0 load, 1 quarantine, 2 return
from quarantine, 3 a write to DEC.CFG. -/
def Dev.place (d : Dev) (n cause : Nat) : Dev :=
  let load := d.loadOf n
  let old := (d.dec n).engine
  let new := d.engineFor n load
  let d := d.modDec n fun x => { x with engine := new, load, movePending := none }
  let d := match old, new with
    | some a, some b =>
      if a = b then d
      else (d.decCount n 16).srcEvent n 0xE20B (u8 a ++ u8 b ++ u8 cause)
    | _, _ => d
  d.overcommit

/-- A placement is due at a picture boundary (05 R118, R120, R121, R135): a cause that waits, an engine out of service, a pin that has
changed, or a load changed by more than 10 %. -/
def Dev.placement (d : Dev) (n : Nat) : Dev :=
  let x := d.dec n
  let load := d.loadOf n
  let pin := d.flag .decCfg n 31 && d.engUsable (d.fld .decCfg n 30 29)
  match x.engine with
  | none => d.place n 0
  | some e =>
    match x.movePending with
    | some (c, _) => d.place n c
    | none =>
      if !d.engUsable e then d.place n 1
      else if pin then if d.fld .decCfg n 30 29 = e then d.modDec n fun x => { x with load } else d.place n 3
      else if x.load * 11 < load * 10 ∨ load * 10 < x.load * 9 then d.place n 0
      else d

/-- The DPB of an SPS in bytes (05 R123). -/
def dpbBytes (s : Sps) : Nat :=
  let px := s.fmt.width * s.fmt.height
  let pic := if s.fmt.depth ≤ 8 then px * 3 / 2 else px * 3
  (s.dpb + 3) * (ceilDiv pic 4096 * 4096)

/-- A reservation of the DPB is tried (05 R123): without room the source is not decoded and DECODE_NO_MEMORY is raised. -/
def Dev.reserveDpb (d : Dev) (n : Nat) (s : Sps) : Dev :=
  match d.poolTake (d.srcOwner n) n (dpbBytes s) with
  | some d => d.modDec n fun x => { x with reserved := some (dpbBytes s) }
  | none =>
    let d := (d.poolFree (d.srcOwner n) n).modDec n fun x => { x with reserved := none }
    d.srcEvent n 0xE20C (u64 (dpbBytes s))

/-- An SPS becomes active (05 R120, R123). -/
def Dev.activate (d : Dev) (n : Nat) (s : Sps) : Dev :=
  let old := (d.dec n).sps
  let d := d.modDec n fun x => { x with sps := some s }
  let d := if (d.dec n).reserved.isNone ∨ old.map dpbBytes ≠ some (dpbBytes s) then d.reserveDpb n s else d
  d.placement n

/-- A compressed source (kinds 0 and 1). -/
def Dev.compressed (d : Dev) (n : Nat) : Bool := decide (d.srcKind n ≤ 1)

/-- The active SPS lies within the limits of 05 Table 5.1 and R116. -/
def spsInRange (kind rate : Nat) (s : Sps) : Bool :=
  let h265 := kind == 1
  (if h265 then s.profile == 4 || s.profile == 5 else decide (1 ≤ s.profile ∧ s.profile ≤ 3))
    && decide (64 ≤ s.fmt.width ∧ 64 ≤ s.fmt.height)
    && (if h265 then decide (s.fmt.width ≤ 8192 ∧ s.fmt.height ≤ 4320) else decide (s.fmt.width ≤ 4096 ∧ s.fmt.height ≤ 2304))
    && s.fmt.sampling == 0 && (s.fmt.depth == 8 || (s.profile == 5 && s.fmt.depth == 10))
    && decide (1 ≤ s.slices ∧ s.slices ≤ 255)
    && decide (s.fmt.width * s.fmt.height * rate ≤ engineRate * 1000)

/-! ### The decode queue (05 R134) -/

/-- An accepted picture enters its source's queue. Where the queue is full, pictures leave it undecoded: each is counted, and DECODE_OVERRUN names
their number. A suspended source's pictures are discarded undecoded (09 R240). -/
def Dev.queueAccept (d : Dev) (n : Nat) (p : AccPic) : Dev :=
  let cap := d.fld .decCfg n 26 24
  let q := (d.dec n).queue
  if (d.dec n).suspended then d
  else if q.length < cap then d.modDec n fun x => { x with queue := q ++ [p] }
  else
    let kept := q.filter fun x => !x.disc
    let kept := if kept.length < cap then kept else []
    let lost := q.length - kept.length
    let d := d.modDec n fun x => { x with queue := kept ++ [p], overrun := x.overrun || (q.any fun y => !y.disc && !kept.contains y) }
    let d := (d.decCount n 12).decCount n 13 lost
    d.srcEvent n 0xE209 (u32 lost)

/-- What ingest learns of an accepted picture reaches the picture, in the queue or in decode. -/
def Dev.modAcc (d : Dev) (n seq : Nat) (f : AccPic → AccPic) : Dev :=
  let g := fun (p : AccPic) => if p.seq == seq then f p else p
  d.modDec n fun x => { x with queue := x.queue.map g, cur := x.cur.map g }

/-! ### Reassignment (04 R92, 05 R132) -/

/-- The decode state at a reassignment: PENDING with no cycle, waiting unless START_ANY; the DPB is reserved afresh at the next SPS. A picture in
an engine finishes with its old GEN; the pictures that no engine has started go (notes/assumptions/12.md). -/
def Dev.resetDecode (d : Dev) (n : Nat) : Dev :=
  let x := d.dec n
  let comp := d.compressed n
  let d := d.poolFree (d.srcOwner n) n
  let d := d.setDec n
    { engine := none, cur := x.cur, curHead := x.curHead, curStamps := x.curStamps, curCause := x.curCause, pics := x.pics, held := [],
      lastOut := x.lastOut, hidden := x.hidden, pending := comp, waiting := comp && !d.flag .decCfg n 28 }
  let d : Dev := { d with bsh := { d.bsh with suspended := d.bsh.suspended.filter (· != n) } }
  d.overcommit

/-- Every counter of an entry clears, and for a camera those of its pipe (04 R114, 05 R141, 06 R162). -/
def Dev.clearSrcCounters (d : Dev) (n : Nat) : Dev :=
  let d := d.each (List.range 14) fun d k => d.put .srcStat (Par.srcStat.info.elem n k) 0
  let d := d.each (List.range 18) fun d k => d.put .decStat (Par.decStat.info.elem n k) 0
  d.when (d.srcKind n == 4) fun d => d.each (List.range 11) fun d k => d.put .ipuStat (Par.ipuStat.info.elem (d.srcPort n) k) 0

/-- The entry is reassigned: GEN advances, everything of the old generation is discarded, the state is SEEKING (04 R92). -/
def Dev.reassign (d : Dev) (n : Nat) : Dev :=
  let d := d.put .srcCfg n (setBits (d.get .srcCfg n) 15 8 (d.srcGen n + 1))
  let d := (d.resetDecode n).clearSrcCounters n
  let d := d.setSrc n { st := .seeking }
  d.when (d.srcKind n == 3) fun d => d.hpdPulse (d.srcPort n)

/-- The entry is disabled. -/
def Dev.disableSrc (d : Dev) (n : Nat) : Dev :=
  let d := d.put .srcCfg n (setBits (d.get .srcCfg n) 63 63 0)
  let d := d.resetDecode n
  let d := d.modDec n fun x => { x with pending := false, waiting := false }
  d.setSrc n {}

/-- The taint state starts over as at a reassignment: a source that resumes, and a wake from NIGHT (09 R240, R245). -/
def Dev.taintReset (d : Dev) (n : Nat) : Dev :=
  if d.compressed n then
    d.modDec n fun x => { x with pending := true, cycle := .none, waiting := !d.flag .decCfg n 28, craSeen := false, dropRasl := false }
  else d

/-! ### Proof tests (02 R35 to R40) -/

/-- The thresholds of the noise test at a component depth: at most 4 codes at 8-bit scale (02 R38). -/
def noiseMax (depth : Nat) : Nat := if depth < 8 then 1 else 4 * 2 ^ (depth - 8)

/-- The noise test between two sampling grids (02 R38). -/
def noiseTest (min depth : Nat) (a b : List Nat) : Bool :=
  if a.length = 256 ∧ b.length = 256 then
    let ds := (a.zip b).map fun (x, y) => (x : Int) - (y : Int)
    let pos := (ds.filter fun v => decide (0 < v ∧ v ≤ (noiseMax depth : Int))).length
    let neg := (ds.filter fun v => decide (v < 0 ∧ -(noiseMax depth : Int) ≤ v)).length
    decide (min ≤ pos + neg ∧ min ≤ 4 * pos ∧ min ≤ 4 * neg)
  else false

/-- The sentinel test over the last `period` pairs, newest first (02 R37); a pair from both sides of a write to the rectangle does not count. -/
def sentinelTest (period : Nat) (h : List (List (Option (Nat × Nat)))) : Bool :=
  ((h.zip (h.drop 1)).take period).any fun (a, b) =>
    (a.zip b).any fun (x, y) => match x, y with
      | some u, some v => u.1 == v.1 && u.2 != v.2
      | _, _ => false

/-- What the proof tests of a picture that ingest accepts now go by (02 R37, R41): DAT.PROOF_CFG and the writes to the rectangles. -/
def Dev.proofNow (d : Dev) (n : Nat) : Nat × Nat × Nat := (d.get .datProofCfg n, (d.src n).rectWrites)

/-- The heartbeat test for a picture of this ingest time under a proof configuration (02 R40). -/
def Dev.hbTest (d : Dev) (n cfg : Nat) (ing : Ns) : Bool :=
  let s := d.src n
  bit cfg 0 && d.compressed n && s.hbNeed == 0 && s.hbAdvance.any fun t => decide (ing ≤ t + bits cfg 31 16 * 1000000)

/-- The sentinel CRCs of a picture beside the numbers of the writes that set the rectangles it was measured under. -/
def sentWith (w : Nat × Nat) (l : List (Option Nat)) : List (Option (Nat × Nat)) :=
  (l.zip [w.1, w.2]).map fun (c, g) => c.map fun c => (g, c)

/-- The proof level and EVID of a picture (02 R35, R42), from the transport counter, the sentinel CRCs and sampling grid that were measured
(none for a picture left undecoded), with the state the tests keep; `pc` is the configuration it was accepted under. -/
def Dev.prove (d : Dev) (n : Nat) (pc : Nat × Nat × Nat) (ing : Ns) (transport : Nat) (measured : Option (List (Option Nat) × List Nat)) (depth : Nat) :
    Nat × Nat × Dev :=
  let s := d.src n
  let l1 := s.prevTransport.any fun p => serialGt 32 transport p
  let hist := match measured with
    | some (sent, _) => (sentWith pc.2 sent :: s.sentHist).take 64
    | none => s.sentHist
  let sentinel := measured.isSome && sentinelTest (bits pc.1 7 2) hist
  let passed := match measured with
    | some (_, g) => bit pc.1 1 && noiseTest (bits pc.1 15 8) depth g s.gridPrev
    | none => false
  let noise := measured.isSome && bit pc.1 1 && (passed || s.noiseHeld)
  let hb := d.hbTest n pc.1 ing
  let level := if l1 && hb then 3 else if l1 && (sentinel || noise) then 2 else if l1 then 1 else 0
  let evid := hb.toNat * 8 + noise.toNat * 4 + sentinel.toNat * 2 + l1.toNat
  let d := d.modSrc n fun s =>
    { s with
      prevTransport := some transport, sentHist := hist, hbPassed := hb,
      gridPrev := match measured with
        | some (_, g) => g
        | none => s.gridPrev
      noiseHeld := if measured.isSome then passed else s.noiseHeld }
  let lost := s.hbPassed && !hb && bit pc.1 0
  let d := d.when lost fun d => d.srcEvent n 0xE205 (u64 (s.hbLast.getD 0) ++ tm (s.hbAdvance.getD 0))
  (level, evid, d)

/-- The freeze run after a decoded picture (02 R44): it starts over where CHECK differs. -/
def Dev.freezeRun (d : Dev) (n check : Nat) (cap : Ns) : Dev :=
  d.modSrc n fun s =>
    if s.runCheck = some check then s else { s with runCheck := some check, runStart := some cap, runRaised := false }

/-- A run of equal CHECK values has lasted longer than DAT.FREEZE_EVENT_MS: SOURCE_FROZEN, once per run (02 R44). -/
def frozenOp (n : Nat) (d : Dev) : Dev :=
  let s := d.src n
  match s.runStart with
  | none => d
  | some t =>
    if s.runRaised then d
    else (d.modSrc n fun s => { s with runRaised := true }).srcEvent n 0xE204 (tm t ++ u32 ((d.now - t) / 1000000))

/-- The summary of the last whole-picture stamp in SRC.STATUS. -/
def Dev.lastStamp (d : Dev) (n : Nat) (st : Stamp) : Dev := d.modSrc n fun s => { s with lastCapsrc := st.capsrc, lastTaint := st.taint }

/-- The LOSS_MS wait ends (04 R110). -/
def lossTimeoutOp (n : Nat) (d : Dev) : Dev := d.enterLost n

/-- The OR of taint words. -/
def orTaint (l : List Nat) : Nat := l.foldl (· ||| ·) 0

/-- The whole-picture stamp of the slice stamps, in order (02 R30, 04 R95): times from slice 0, ING_TIME from the last. -/
def wholeStamp (l : List Stamp) : Option Stamp :=
  match l, l.getLast? with
  | a :: _, some z => some { a with slice := 0xFF, ing := z.ing, taint := orTaint (l.map (·.taint)) }
  | _, _ => none

/-- Taint flags (02 Table 2.3). -/
abbrev tConcealed : Nat := 1
/-- REF_TAINT. -/
abbrev tRef : Nat := 2
/-- LOSS. -/
abbrev tLoss : Nat := 4
/-- LATE. -/
abbrev tLate : Nat := 8
/-- CROP_PAD. -/
abbrev tCropPad : Nat := 16
/-- POISON. -/
abbrev tPoison : Nat := 32
/-- FORWARDED. -/
abbrev tForwarded : Nat := 64
/-- HOLDOVER. -/
abbrev tHoldover : Nat := 128
/-- TIME_SUSPECT. -/
abbrev tTimeSuspect : Nat := 256
/-- FORMAT. -/
abbrev tFormat : Nat := 512

/-- A taint flag where a condition holds. -/
def taintIf (c : Bool) (t : Nat) : Nat := if c then t else 0

/-- A picture becomes available to the plates with its final stamp (05 R124). -/
def Dev.publish (d : Dev) (n : Nat) (p : Pic) : Dev :=
  (d.modDec n fun x => { x with pics := (p :: x.pics).take 4, lastOut := some p }).lastStamp n p.stamp

/-- A picture that needs no decode is finished (04 R108, 06 R157): CHECK, PROOF, EVID and HB_CTR are written, the freeze run follows, and the
picture is published with one slice. -/
def Dev.finishUncompressed (d : Dev) (n : Nat) (st : Stamp) (transport check : Nat) (sentinels : List (Option Nat)) (grid : List Nat)
    (fmt : Format) (mark : Bool) : Dev :=
  let (proof, evid, d) := d.prove n (d.proofNow n) st.ing transport (some (sentinels, grid)) fmt.depth
  let st := { st with check, proof, evid, hbCtr := 0 }
  let d := d.freezeRun n check st.cap
  let d := d.decCount n 0
  d.publish n { stamp := { st with slice := 0xFF }, slices := [st], runStart := (d.src n).runStart, expired := mark, width := fmt.width,
                height := fmt.height }

/-! ### Commands -/

/-- Command DPI_HPD_PULSE_END. -/
def execDpiHpdPulseEnd (input : Nat) (s : State) : Host.Outcome State Fault Refusal :=
  onDev (Instr.wellFormed (.dpiHpdPulseEnd input)) (hpdPulseEndOp input) s

/-- Command IGMP_REPORT_REPEAT. -/
def execIgmpReportRepeat (port group : Nat) (s : State) : Host.Outcome State Fault Refusal :=
  onDev (Instr.wellFormed (.igmpReportRepeat port group)) (igmpRepeatOp port group) s

/-- Command IGMP_QUERY_RX. -/
def execIgmpQueryRx (port group : Nat) (s : State) : Host.Outcome State Fault Refusal :=
  onDev (Instr.wellFormed (.igmpQueryRx port group)) (igmpQueryOp port group) s

/-- Command SOURCE_LOSS_TIMEOUT. -/
def execSourceLossTimeout (src : Nat) (s : State) : Host.Outcome State Fault Refusal :=
  onDev (Instr.wellFormed (.sourceLossTimeout src)) (lossTimeoutOp src) s

/-- Command SOURCE_FROZEN. -/
def execSourceFrozen (src : Nat) (s : State) : Host.Outcome State Fault Refusal :=
  onDev (Instr.wellFormed (.sourceFrozen src)) (frozenOp src) s

end Sys2Proof.Machine
end

