-- ==== Sys2Proof/Machine/Ingest.lean ====
section
/-!
DEFINITION. Ingest (04): RTP packets and their pictures, heartbeats (02 R39, R40), capture times and stamps, and DisplayPort input frames.
-/

namespace Sys2Proof.Machine

/-! ### Heartbeats -/

/-- A heartbeat payload that ends with packet `p` is checked and accepted (02 R39, R40): the device, and CAP_TIME (none without CAP_VALID)
where the message was accepted. -/
def Dev.heartbeat (d : Dev) (n : Nat) (ing : Ns) (pay : Bytes) : Option (Option Ns) × Dev :=
  if !d.flag .datProofCfg n 0 then (none, d)
  else if pay.length ≠ 24 ∨ leVal (pay.take 1) ≠ 1 ∨ leVal (pay.drop 20) ≠ crc32c (pay.take 20) then (none, d.decCount n 14)
  else
    let period := leVal ((pay.drop 2).take 2)
    let c := leVal ((pay.drop 4).take 8)
    let cap := leVal ((pay.drop 12).take 8)
    let valid := leVal ((pay.drop 1).take 1) % 2 == 1
    let cfg := d.fld .datProofCfg n 31 16
    let s := d.src n
    let s := { s with hbSeen := true }
    let s := match s.hbLast with
      | none => { s with hbLast := some c }
      | some l =>
        if l < c then { s with hbLast := some c, hbAdvance := some ing, hbNeed := s.hbNeed - 1 }
        else if c < l then { s with hbLast := some c, hbNeed := 2 }
        else s
    let differs := period != cfg
    let d := d.setSrc n { s with hbPeriodRun := differs }
    let d := d.when (differs && !s.hbPeriodRun) fun d => d.srcEvent n 0xE206 (u16 period ++ u16 cfg)
    (some (if valid then some (bits cap 63 30 * 1000000000 + bits cap 29 0) else none), d)

/-! ### Capture time (03 R83, 04 R94, 02 R32) -/

/-- `map(ts, t_ing)`: none where the sender's time lies later than the ingest time. -/
def mapRtp (off ts : Nat) (ing : Ns) : Option Ns :=
  let m := ing * 90000 / 1000000000
  let dd := (((m : Int) - ((ts : Int) - (off : Int))) % (2 : Int) ^ 32).toNat
  if 2 ^ 31 ≤ dd then none else some (ceilDiv ((m - dd) * 1000000000) 90000)

/-- The capture time of a slice, its CAPSRC, and whether TIME_SUSPECT is set. -/
def Dev.captureTime (d : Dev) (n ts : Nat) (ing : Ns) (allow : Nat) (hb : Option (Option Ns)) : Ns × Nat × Bool :=
  let a := ing - allow * 100000
  if !d.mappingPermitted then (a, 1, false)
  else
    let c1 := match hb with
      | some (some t) => [some t]
      | _ => []
    let c2 := if d.srcClock n = 1 then [mapRtp (d.get .srcMediaOff n) ts ing] else []
    let cands := c1 ++ c2
    if cands.isEmpty then (a, 1, false)
    else if cands.any fun c => c.isNone || c.any fun t => decide (ing < t) then (a, 1, true)
    else (((cands.filterMap id).min?).getD a, 0, false)

/-! ### Pictures in the buffer (04 R100) -/

/-- The packets with consecutive numbers from `k` on. -/
def contiguous {α : Type} : Nat → List (Nat × α) → List (Nat × α)
  | _, [] => []
  | k, (e, x) :: r => if e = k then (e, x) :: contiguous (k + 1) r else []

/-- Where the range of the oldest picture starts. -/
def rangeStart (prevHigh : Option Nat) (p : PicBuf) : Nat :=
  match prevHigh with
  | some h => h + 1
  | none => (p.pkts.head?.map (·.1)).getD 0

/-- The last number of a picture's range, once it has closed other than by JB_MS. -/
def PicBuf.rangeEnd (p : PicBuf) : Option Nat :=
  match p.marker with
  | some m => some m
  | none => p.closedLater.map (· - 1)

/-- The picture is complete. -/
def PicBuf.complete (p : PicBuf) (start : Nat) : Bool :=
  match p.rangeEnd with
  | none => false
  | some e => decide (start ≤ e + 1) && (contiguous start p.pkts).length == e + 1 - start

/-- The slices whose last packet lies in a run of packets, in order. -/
def slicesIn (run : List (Nat × RtpPkt × Ns)) : List Nat := ((run.filter (·.2.1.sliceEnd)).map (·.2.1.slice)).eraseDups

/-- A slice has arrived whole: its packets run without a gap from one that starts it to one that ends it. -/
def sliceWhole (pkts : List (Nat × RtpPkt × Ns)) (i : Nat) : Bool :=
  let ps := pkts.filter (·.2.1.slice == i)
  match ps.head?, ps.getLast? with
  | some a, some z => a.2.1.sliceStart && z.2.1.sliceEnd && (contiguous a.1 ps).length == ps.length
  | _, _ => false

/-- ING_TIME of a slice: the last packet that ingest accepted for it (04 R93). -/
def sliceIng (pkts : List (Nat × RtpPkt × Ns)) (i : Nat) : Option Ns :=
  (((pkts.filter (·.2.1.slice == i)).map (·.2.2)).max?)

/-- The slices a picture is divided into: 64-line groups of SRC.FMT (kind 2), the slices of the active SPS, or those seen. -/
def Dev.sliceTotal (d : Dev) (n : Nat) (p : PicBuf) : Nat :=
  let seen := ((p.pkts.map (·.2.1.slice + 1)).max?).getD 0
  if d.srcKind n = 2 then ceilDiv (d.fld .srcFmt n 47 32) 64
  else
    match (d.src n).sps with
    | some s => max seen s.slices
    | none => seen

/-- The picture buffer of source `n` with its oldest picture changed. -/
def Dev.modHead (d : Dev) (n : Nat) (f : PicBuf → PicBuf) : Dev :=
  d.modSrc n fun s => { s with pics := match s.pics with
    | p :: r => f p :: r
    | [] => [] }

/-- The stamp that ingest writes for a slice as it leaves (02 R31, 04 R94, R95, R102). -/
def Dev.sliceStamp (d : Dev) (n : Nat) (p : PicBuf) (seq i : Nat) (ing : Ns) (loss : Bool) : Stamp × Bool :=
  let (cap, capsrc, suspect) := d.captureTime n p.ts ing p.allow p.hbCap
  let late := decide (cap + p.lateMs * 1000000 < d.now)
  ({ epoch := d.epoch, gen := d.srcGen n, ing, cap, capsrc, slice := i, src := n, seq,
     taint := taintIf d.holdoverFlag tHoldover + taintIf suspect tTimeSuspect + taintIf late tLate + taintIf p.format tFormat
       + taintIf loss tLoss }, suspect)

/-- The oldest picture is accepted as its first slice leaves (04 R100, R110 to R112), or found outside the limits and marked. -/
def Dev.acceptRtp (d : Dev) (n : Nat) (p : PicBuf) : Dev :=
  let sps := p.pkts.findSome? fun x => x.2.1.sps
  let comp := d.compressed n
  let d := d.modSrc n fun s => { s with sps := sps.or s.sps }
  let cur := (d.src n).sps
  let bad := comp && cur.any fun s => !spsInRange (d.srcKind n) (d.picRate n s) s
  if bad then (d.outOfRange n).modHead n fun p => { p with bad := true }
  else
    let fmt := if comp then cur.map (·.fmt) else
      some { width := d.fld .srcFmt n 63 48, height := d.fld .srcFmt n 47 32, sampling := d.fld .srcFmt n 31 28,
             depth := d.fld .srcFmt n 27 24, color := d.fld .srcFmt n 23 20 }
    let (carries, d) := match fmt with
      | none => (false, d.modSrc n fun s => if s.st = SrcSt.seeking then { s with st := .running } else s)
      | some f =>
        if comp then d.formatOf n f
        else
          let was := (d.src n).st
          let d := d.modSrc n fun s => { s with st := .running, fmt := some f, outOfRange := false, newFmt := none, fmtRun := 0 }
          let d := d.when (was == SrcSt.lost) fun d => d.resumedEvent n
          (false, d.when (was == SrcSt.format) fun d => d.formatEvent n false)
    let (seq, d) := d.accepted n ((p.pkts.map (·.2.2)).max?.getD d.now)
    let d := d.modHead n fun p => { p with seq := some seq, format := carries }
    let d := d.queueAccept n { seq, gen := d.srcGen n, sps, disc := p.pkts.any (·.2.1.disc), proof := d.proofNow n }
    if comp then d else d.placement n

/-- One slice of the oldest picture leaves, whole or as a gap (04 R100, R101). A gap carries no times of its own. -/
def Dev.releaseSlice (d : Dev) (n i : Nat) : Dev :=
  match (d.src n).pics with
  | [] => d
  | p :: _ =>
    let d := if p.seq.isNone && !p.bad then d.acceptRtp n p else d
    match (d.src n).pics with
    | [] => d
    | p :: _ =>
      match p.seq with
      | none => d
      | some seq =>
        let ok := sliceWhole p.pkts i
        let gap := d.compressed n && !ok
        let ing := (sliceIng p.pkts i).getD ((p.pkts.map (·.2.2)).max?.getD d.now)
        let (st, suspect) := d.sliceStamp n p seq i ing (!ok && !d.compressed n)
        let d := d.when (suspect && !gap) fun d => d.srcCount n 13
        let d := d.modHead n fun p => { p with left := i + 1, stamps := p.stamps ++ [st] }
        d.modAcc n seq fun a => { a with slices := a.slices ++ [(i, gap, st)], mark := a.mark || p.mark }

/-- The numbers missing from a picture's range at its release, and the end of what it holds (04 R114). -/
def missingAt (start : Nat) (p : PicBuf) : Nat :=
  match p.pkts.getLast? with
  | none => 0
  | some z => (z.1 + 1 - start) - (p.pkts.filter fun x => decide (start ≤ x.1)).length

/-- The oldest picture leaves with whatever packets it has (04 R100, R101, R114). -/
def Dev.leaveHead (d : Dev) (n : Nat) : Dev :=
  match (d.src n).pics with
  | [] => d
  | p :: _ =>
    let d := if p.bad then d
      else d.each ((List.range (d.sliceTotal n p)).filter fun i => decide (p.left ≤ i)) fun d i => d.releaseSlice n i
    match (d.src n).pics with
    | [] => d
    | p :: rest =>
      let start := rangeStart (d.src n).prevHigh p
      let last := (p.pkts.getLast?.map (·.1)).getD start
      let d := d.srcCount n 2 (missingAt start p)
      let d := d.when (p.seq.isNone && p.bad) fun d => d.srcCount n 12
      let bitsN := 8 * (p.pkts.map (·.2.1.bytes)).sum
      let d := d.modDec n fun x =>
        { x with bitWindow := (d.tim.elapsed, bitsN) :: x.bitWindow.filter fun w => decide (d.tim.elapsed ≤ w.1 + 1000000000) }
      let d := match p.seq with
        | some q => d.modAcc n q fun a => { a with whole := true, transport := last % 2 ^ 32, bits := bitsN }
        | none => d
      d.modSrc n fun s => { s with pics := rest, prevHigh := some last, lastTs := some p.ts, firstIng := some p.firstIng }

/-- Pictures and slices leave as far as the rules let them (04 R100); `fuel` bounds the pictures. -/
def Dev.drainRtp : Nat → Nat → Dev → Dev
  | 0, _, d => d
  | fuel + 1, n, d =>
    match (d.src n).pics with
    | [] => d
    | p :: _ =>
      let start := rangeStart (d.src n).prevHigh p
      if p.expired || p.complete start then Dev.drainRtp fuel n (d.leaveHead n)
      else if p.bad then d
      else d.each ((slicesIn (contiguous start p.pkts)).filter fun i => decide (p.left ≤ i)) fun d i => d.releaseSlice n i

/-- Everything that can leave leaves. -/
def Dev.drain (d : Dev) (n : Nat) : Dev := Dev.drainRtp ((d.src n).pics.length + 1) n d

/-- JB_MS passes for the picture of timestamp `ts`: every earlier picture leaves first, then it does (04 R100). -/
def jbExpireOp (n ts : Nat) (d : Dev) : Dev :=
  if ((d.src n).pics.any (·.ts == ts)) then
    let d := d.modSrc n fun s =>
      { s with pics := s.pics.map fun (p : PicBuf) => if p.ts == ts || serialGt 32 ts p.ts then { p with expired := true } else p }
    d.drain n
  else d

/-! ### Packets (04 R96, R99, R103) -/

/-- A packet is inserted in the order of the extended numbers. -/
def insertPkt (e : Nat) (x : RtpPkt × Ns) : List (Nat × RtpPkt × Ns) → List (Nat × RtpPkt × Ns)
  | [] => [(e, x)]
  | (e', y) :: r => if e < e' then (e, x) :: (e', y) :: r else (e', y) :: insertPkt e x r

/-- A picture is inserted in timestamp order. -/
def insertPic (p : PicBuf) : List PicBuf → List PicBuf
  | [] => [p]
  | q :: r => if serialGt 32 q.ts p.ts then p :: q :: r else q :: insertPic p r

/-- Bytes that a source's packet buffer holds: the packets of slices that have not left. -/
def Dev.bufBytes (d : Dev) (n : Nat) : Nat :=
  ((d.src n).pics.map fun p => ((p.pkts.filter fun x => decide (p.left ≤ x.2.1.slice)).map (·.2.1.bytes)).sum).sum

/-- An ST 2110-20 packet shows that the stream does not match SRC.FMT (04 R111): outside the picture, or its end before HEIGHT lines. -/
def Dev.stMismatch (d : Dev) (n : Nat) (k : RtpPkt) : Bool :=
  d.srcKind n == 2 && (!k.inFmt || (k.marker && decide (k.slice + 1 < ceilDiv (d.fld .srcFmt n 47 32) 64)))

/-- A packet is filed in its picture, a new one where none is open for its timestamp. -/
def Dev.filePkt (d : Dev) (n e : Nat) (k : RtpPkt) (ing : Ns) : Dev :=
  let d := d.modSrc n fun s =>
    let p := (s.pics.find? (·.ts == k.ts)).getD
      { ts := k.ts, firstIng := ing, jbMs := d.get .srcJbMs n, lateMs := d.get .srcLateMs n, allow := d.get .srcAllow n }
    let p := { p with pkts := insertPkt e (k, ing) p.pkts, marker := if k.marker then some e else p.marker }
    let pics := insertPic p (s.pics.filter (·.ts != k.ts))
    -- a packet of a later timestamp closes the pictures before it
    let pics := pics.map fun q =>
      if serialGt 32 k.ts q.ts then { q with closedLater := some (min e (q.closedLater.getD e)) }
      else if q.ts == k.ts && q.closedLater.isNone then
        { q with closedLater := ((pics.filter fun r => serialGt 32 r.ts q.ts).filterMap fun r => r.pkts.head?.map (·.1)).min? }
      else q
    { s with pics, seen := e :: s.seen.filter fun x => decide ((s.highest.getD e) ≤ x + 16384) }
  let d := match k.heartbeat with
    | none => d
    | some pay =>
      if !d.compressed n then d
      else
        let (acc, d) := d.heartbeat n ing pay
        match acc with
        | none => d
        | some c => d.modSrc n fun s => { s with pics := s.pics.map fun (q : PicBuf) => if q.ts == k.ts then { q with hbCap := some c } else q }
  if d.stMismatch n k then
    let d := d.modSrc n fun s => { s with pics := s.pics.map fun (q : PicBuf) => if q.ts == k.ts then { q with bad := true } else q }
    if (d.src n).st == SrcSt.format then d else d.enterFormat n false none
  else d

/-- A packet that finds the buffer full forces out the oldest picture; one picture larger than the buffer is discarded whole
(04 R103). -/
def Dev.makeRoom (d : Dev) (n : Nat) (k : RtpPkt) : Dev × Bool :=
  if d.bufBytes n + k.bytes ≤ d.get .srcBufKib n * 1024 then (d, true)
  else
    match (d.src n).pics with
    | [] => (d.srcCount n 11, false)
    | p :: _ =>
      if p.ts == k.ts then
        if p.seq.isSome then ((d.leaveHead n).srcCount n 10, false)
        else ((d.modSrc n fun s => { s with pics := s.pics.drop 1, lastTs := some p.ts }).srcCount n 11, false)
      else
        let d := (d.leaveHead n).srcCount n 10
        (d, decide (d.bufBytes n + k.bytes ≤ d.get .srcBufKib n * 1024))

/-- The packet's picture has left already. -/
def Src.left (s : Src) (ts : Nat) : Bool := s.lastTs.any fun t => t == ts || serialGt 32 t ts

/-- A numbered packet: new, filed in its place, late or a duplicate (04 R99). -/
def Dev.numbered (d : Dev) (n e : Nat) (delta : Int) (k : RtpPkt) (ing : Ns) : Dev :=
  if (d.src n).seen.contains e then d.srcCount n 4
  else if (d.src n).left k.ts then d.srcCount n 3
  else
    let (d, room) := d.makeRoom n k
    let d := if 0 < delta then d.modSrc n fun s => { s with highest := some e, rawHigh := k.seq, ssrc := some k.ssrc } else d
    if room && !(d.src n).left k.ts then
      let d := d.when (decide (delta ≤ 0)) fun d => d.srcCount n 5
      (d.filePkt n e k ing).drain n
    else d

/-- A restart is confirmed (04 R99): pictures of which a slice has left go at once, the others are discarded, the numbering continues. -/
def Dev.restart (d : Dev) (n : Nat) (held : List (RtpPkt × Ns)) : Dev :=
  let d := d.each (d.src n).pics fun d _ =>
    match (d.src n).pics with
    | p :: rest => if p.seq.isSome then d.leaveHead n else d.modSrc n fun s => { s with pics := rest }
    | [] => d
  let d := d.srcCount n 6
  let base := (d.src n).highest.getD 0
  let d := d.modSrc n fun s => { s with cand := [], prevHigh := none, lastTs := none, seen := [] }
  let ssrc := ((held.getLast?.map (·.1.ssrc)).getD 0)
  let d := d.srcEvent n 0xE203 (tm ((d.src n).lastIng.getD 0) ++ u32 ssrc)
  let first := ((held.head?.map (·.1.seq)).getD 0)
  d.each held fun d x => d.numbered n (base + 1 + (x.1.seq + 65536 - first) % 65536) 1 x.1 x.2

/-- Held packets of a restart that is not confirmed are dropped as stray. -/
def Dev.dropStray (d : Dev) (n : Nat) : Dev :=
  (d.srcCount n 7 (d.src n).cand.length).modSrc n fun s => { s with cand := [] }

/-- An RTP packet of a source entry is sequenced (04 R99). -/
def Dev.rtpPacket (d : Dev) (n : Nat) (k : RtpPkt) (ing : Ns) : Dev :=
  let d := d.srcCount n 0
  if !k.supported then d.srcCount n 9
  else
    match (d.src n).highest with
    | none => d.numbered n k.seq 1 k ing
    | some h =>
      if !d.flag .srcCfg n 52 && (d.src n).ssrc != some k.ssrc then
        let d := d.dropStray n
        (d.restart n [(k, ing)])
      else
        let delta := serialDiff 16 k.seq (d.src n).rawHigh
        if -16384 ≤ delta ∧ delta ≤ 16384 then
          let d := d.dropStray n
          d.numbered n ((h : Int) + delta).toNat delta k ing
        else
          let cand := (d.src n).cand
          let follows := match cand.getLast? with
            | some x => x.1.seq % 65536 + 1 == k.seq || (x.1.seq == 65535 && k.seq == 0)
            | none => false
          if follows then
            if 2 ≤ cand.length then d.restart n (cand ++ [(k, ing)])
            else d.modSrc n fun s => { s with cand := cand ++ [(k, ing)] }
          else (d.dropStray n).modSrc n fun s => { s with cand := [(k, ing)] }

/-- A frame matches the port, the VLAN and the destination address of an entry (04 R96). -/
def Dev.addressed (d : Dev) (n port : Nat) (vlan : Option Nat) (ipv6 : Bool) (dst : Nat) : Bool :=
  d.srcEn n && decide (d.srcKind n ≤ 2) && d.srcPort n == port
    && (if d.flag .srcCfg n 51 then vlan == some (d.fld .srcCfg n 50 39) else vlan.isNone)
    && d.flag .srcCfg n 54 == ipv6 && d.get .srcDst n == dst

/-- Ingest accepts a frame for an entry (04 R96). -/
def Dev.acceptsRtp (d : Dev) (n port : Nat) (vlan : Option Nat) (ipv6 : Bool) (dst sender udp : Nat) (k : RtpPkt) : Bool :=
  !d.isMirror n && d.addressed n port vlan ipv6 dst && d.fld .srcCfg n 31 16 == udp
    && (!d.flag .srcCfg n 53 || d.get .srcFilter n == sender)
    && k.version == 2 && k.pt == d.fld .srcCfg n 38 32
    && (!d.flag .srcCfg n 52 || d.get .srcSsrc n == k.ssrc)

/-- ING_TIME of a packet: its start of frame less TIM.PORT_LAT_RX (03 R74, 04 R93). -/
def Dev.rxTime (d : Dev) (port : Nat) : Ns := ((d.now : Int) - toSigned 32 (d.get .timPortLatRx port)).toNat

/-- A received RTP frame goes to exactly one entry: SSRC_EN before none, then SSM before none (04 R96). -/
def Dev.rtpFrame (d : Dev) (port : Nat) (vlan : Option Nat) (ipv6 fragment : Bool) (dst sender udp : Nat) (k : RtpPkt) : Dev :=
  if fragment then
    match sourceNumbers.find? fun n => d.addressed n port vlan ipv6 dst with
    | some n => d.srcCount n 8
    | none => d
  else
    let ok := sourceNumbers.filter fun n => d.acceptsRtp n port vlan ipv6 dst sender udp k
    match argMin (fun n => (!d.flag .srcCfg n 52).toNat * 2 + (!d.flag .srcCfg n 53).toNat) ok with
    | some n => d.rtpPacket n k (d.rxTime port)
    | none => d

/-! ### DisplayPort inputs (04 R104 to R106) -/

/-- A frame of a DisplayPort input has been written whole, or was cut short. A suspended source publishes none (09 R240). -/
def dpiFrameOp (m : Nat) (f : DpiFrame) (d : Dev) : Dev :=
  match d.srcOn 3 m with
  | none => d
  | some n =>
    if !(f.msaValid && f.complete) || !d.inService (0x1C + m) || d.inNight then d
    else
      let d := d.srcCount n 0
      let d := d.modSrc n fun s => { s with dpiCount := (s.dpiCount + 1) % 2 ^ 32 }
      if !f.inRange then d.outOfRange n
      else
        let (carries, d) := d.formatOf n f.fmt
        let (seq, d) := d.accepted n d.now
        let late := decide (f.edge + d.get .srcLateMs n * 1000000 < d.now)
        let st : Stamp :=
          { epoch := d.epoch, gen := d.srcGen n, ing := d.now, cap := f.edge, capsrc := 2, slice := 0, src := n, seq,
            taint := taintIf d.holdoverFlag tHoldover + taintIf late tLate + taintIf carries tFormat }
        let d := d.placement n
        if (d.dec n).suspended then d else d.finishUncompressed n st (d.src n).dpiCount f.check f.sentinels f.grid f.fmt false

/-! ### Commands -/

/-- Command JITTER_BUFFER_EXPIRE. -/
def execJitterBufferExpire (src ts : Nat) (s : State) : Host.Outcome State Fault Refusal :=
  onDev (Instr.wellFormed (.jitterBufferExpire src ts)) (jbExpireOp src ts) s

end Sys2Proof.Machine
end

