-- ==== Sys2Proof/Machine/Decoder.lean ====
section
/-!
DEFINITION. Decode engines (05): slices, concealment, the taint state, the output process, hidden sources, and what a quarantined engine leaves.
-/

namespace Sys2Proof.Machine

/-! ### The taint state (05 R131) -/

/-- PENDING becomes true: DECODE_TAINTED with the cause (05 Table 5.7; 02 Table 10.12: 0 gap, 1 parse error, 2 missing reference, 3 overrun,
4 poison, 5 engine fault). -/
def Dev.tainted (d : Dev) (n gen seq cause : Nat) : Dev :=
  d.srcEvent n 0xE207 (u32 seq ++ u8 cause) (gen := some gen)

/-- The cycle that starts at a picture decoded without concealment, if any (05 Table 5.3). An intra picture needs none. -/
def cycleStart (h : PicHead) (h264Mod assume : Nat) : Cycle :=
  match h.recovery with
  | some c => .recovery h.order c h264Mod
  | none => if 0 < assume then .assumed assume else .none

/-- A decoded picture counts towards an assumed cycle. -/
def Cycle.advance : Cycle → Cycle
  | .assumed k => .assumed (k - 1)
  | c => c

/-- The cycle completes at this picture (05 Table 5.3). -/
def Cycle.reached (c : Cycle) (h : PicHead) : Bool :=
  match c with
  | .none => false
  | .recovery start count 0 => decide (start + (count : Int) ≤ h.order)
  | .recovery start count m => count == 0 || (h.isRef && decide ((count : Int) ≤ (h.order - start) % (m : Int)))
  | .assumed k => k == 0

/-- The kind of a refresh (05 Table 5.3): 0 intra picture, 1 recovery point, 2 assumed. -/
def Cycle.kind : Cycle → Nat
  | .assumed _ => 2
  | _ => 1

/-- `taint_update(p)` after a picture is decoded: the device, and whether the picture carries REF_TAINT. -/
def Dev.taintUpdate (d : Dev) (n gen seq : Nat) (h : PicHead) (concealed : Bool) (cause : Nat) : Bool × Dev :=
  let x := d.dec n
  let cycle := x.cycle.advance
  if concealed then
    if h.isRef then
      let d := d.modDec n fun x => { x with pending := true, cycle := .none }
      (false, d.when (!x.pending) fun d => d.tainted n gen seq cause)
    else (false, d.modDec n fun x => { x with cycle })
  else if !x.pending then (false, d)
  else
    let mod := ((x.sps.map (·.maxFrameNum)).getD 0)
    let cycle := if cycle = .none ∧ !h.irap then (cycleStart h mod (d.fld .decCfg n 23 15)).advance else cycle
    let clean := fun (kind : Nat) =>
      let d := d.modDec n fun x => { x with pending := false, cycle := .none }
      (false, (d.decCount n (9 + kind)).srcEvent n 0xE208 (u32 seq ++ u8 kind) (gen := some gen))
    if h.irap then clean 0
    else if cycle.reached h then clean cycle.kind
    else (true, d.modDec n fun x => { x with cycle })

/-! ### Starting a picture -/

/-- The source's head of queue begins, or is left undecoded (05 R132, R133, R136, R137). -/
inductive Start where
  | decode | waiting | rasl | hidden
  deriving DecidableEq, Repr

/-- What an engine does with the picture whose header it has parsed. -/
def Dev.startKind (d : Dev) (n : Nat) (h : PicHead) : Start :=
  let x := d.dec n
  if !d.compressed n then .decode
  else if x.waiting && !(h.irap || h.recovery.isSome) then .waiting
  else if x.dropRasl && h.rasl then .rasl
  else if x.hidden && h.discardable && !d.flag .decCfg n 27 then .hidden
  else .decode

/-- A picture held in the output process, or one given out: the least picture order count first. -/
def leastPoc (l : List Pic) : Option Pic := argMin (fun p => ((p.poc + 2 ^ 62).toNat)) l

/-- Pictures leave the output process while more than `depth` are held (05 R124); `fuel` bounds them. -/
def Dev.outputProcess : Nat → Nat → Nat → Dev → Dev
  | 0, _, _, d => d
  | fuel + 1, depth, n, d =>
    let held := (d.dec n).held
    if held.length ≤ depth then d
    else
      match leastPoc held with
      | none => d
      | some p =>
        let d := d.modDec n fun x => { x with held := x.held.erase p }
        let d := if p.full then d.publish n p else (d.modDec n fun x => { x with lastOut := some p }).lastStamp n p.stamp
        Dev.outputProcess fuel depth n d

/-- A final picture enters the output process; an intra picture that starts a sequence first empties it. -/
def Dev.emit (d : Dev) (n : Nat) (p : Pic) (flush : Bool) : Dev :=
  let all := (d.dec n).held.length + 1
  let d := if flush then Dev.outputProcess all 0 n d else d
  let d := d.modDec n fun x => { x with held := x.held ++ [p] }
  Dev.outputProcess all (((d.dec n).sps.map (·.reorder)).getD 0) n d

/-- The picture that has left the queue: undecoded (counted, its transport still counts, 02 R36) or with a stamp of its own while hidden. -/
def Dev.leaveUndecoded (d : Dev) (n : Nat) (p : AccPic) (h : PicHead) (k : Start) : Dev :=
  match k with
  | .hidden =>
    let d := d.decCount n 1
    match wholeStamp (p.slices.map (·.2.2)) with
    | none => d
    | some w =>
      let (proof, evid, d) := d.prove n p.proof w.ing p.transport none 8
      let w := { w with check := 0, proof, evid, hbCtr := (d.src n).hbLast.getD 0 % 65536 }
      d.emit n { stamp := w, full := false, expired := p.mark, poc := h.poc } (h.irap && !h.cra)
  | .waiting | .rasl | .decode =>
    let (_, _, d) := d.prove n p.proof (((p.slices.map fun x => x.2.2.ing).max?).getD d.now) p.transport none 8
    d.decCount n (if k = .rasl then 3 else 2)

/-- The engine takes the source's next picture: the SPS it carries becomes active, the source is placed (05 R120, R121), and the picture is
decoded or left. -/
def Dev.startPicture (d : Dev) (n : Nat) (h : PicHead) : Dev :=
  match (d.dec n).queue with
  | [] => d
  | p :: rest =>
    let d := match p.sps with
      | some s => d.activate n s
      | none => d.placement n
    let x := d.dec n
    let usable := x.engine.any d.engUsable && (x.reserved.isSome || !d.compressed n)
    if !usable then d.modDec n fun x => { x with queue := rest }
    else
      let k := d.startKind n h
      if k = .decode then
        d.modDec n fun x =>
          { x with queue := rest, cur := some p, curHead := some h, curStamps := [], curCause := none, waiting := false }
      else (d.modDec n fun x => { x with queue := rest }).leaveUndecoded n p h k

/-! ### Slices -/

/-- The stamp of a gap (05 R128): from the nearest received slice before it, or after it if the gap opens the picture; ING_TIME from the
nearest after it, or before. -/
def gapStamp (slices : List (Nat × Bool × Stamp)) (i : Nat) (own : Stamp) : Stamp :=
  let got := (slices.filter fun s => !s.2.1).map (·.2.2)
  let before := (got.filter fun s => decide (s.slice < i)).getLast?
  let after := (got.filter fun s => decide (i < s.slice)).head?
  match before.or after, after.or before with
  | some b, some a => { b with slice := i, ing := a.ing, taint := tConcealed, check := 0 }
  | _, _ => { own with taint := own.taint ||| tConcealed }

/-- A taint flag set in the stamp of one slice. -/
def taintSlice (l : List Stamp) (i t : Nat) : List Stamp := l.map fun s => if s.slice = i then { s with taint := s.taint ||| t } else s

/-- A slice of the picture in decode is done (05 R124 to R130): its stamp, its marks and its counters. -/
def Dev.oneSlice (d : Dev) (n : Nat) (p : AccPic) (r : SliceDec) : Dev :=
  match p.slices.find? (·.1 == r.slice) with
  | none => d
  | some (i, gap, own) =>
    let outcome := if gap then SliceOutcome.gap else r.outcome
    let (st, cause) : Stamp × Option Nat :=
      match outcome with
      | .gap => (gapStamp p.slices i own, some 0)
      | .parseError => ({ own with taint := own.taint ||| tConcealed }, some 1)
      | .ok | .redundant =>
        if r.substituted then ({ own with taint := own.taint ||| tConcealed }, some (if (d.dec n).overrun then 3 else 2)) else (own, none)
    let concealed := cause.isSome
    let poison := r.poison
    let st := { st with check := r.check, taint := st.taint ||| taintIf poison tPoison }
    let d := match outcome with
      | .gap => d.decCount n 4
      | .parseError => d.decCount n 5
      | .ok | .redundant => d
    let d := d.decCount n 6 r.missing
    d.modDec n fun x =>
      let up := if concealed && r.crossFilter && decide (0 < i) then taintSlice x.curStamps (i - 1) tConcealed else x.curStamps
      { x with
        curStamps := up ++ [st]
        curCause := x.curCause.or (cause.or (if poison then some 4 else none))
        overrun := x.overrun && !r.substituted
        cur := some { p with done := p.done ++ [i] } }

/-- The last slice is done: the picture stamp becomes final (02 R31), the taint state, proof state and freeze run follow, and the picture enters
the output process. -/
def Dev.finishPicture (d : Dev) (n : Nat) (check : Nat) (sentinels : List (Option Nat)) (grid : List Nat) : Dev :=
  let x := d.dec n
  match x.cur, x.curHead, wholeStamp x.curStamps with
  | some p, some h, some w =>
    let live := p.gen == d.srcGen n
    let concealed := bit w.taint 0 || (bit w.taint 5 && h.isRef)
    let d := d.modDec n fun x => { x with cur := none, curHead := none, curStamps := [], curCause := none, lastOrder := h.order }
    let (refTaint, d) :=
      if live && d.compressed n then d.taintUpdate n p.gen p.seq h concealed (x.curCause.getD 4) else (false, d)
    let pendingNow := x.pending
    let d := d.modDec n fun y =>
      if h.irap then { y with craSeen := y.craSeen || h.cra, dropRasl := h.cra && (!y.craSeen || (pendingNow && !concealed)) } else y
    let depth := (((d.src n).fmt.map Format.depth).getD 8)
    let (proof, evid, d) := if live then d.prove n p.proof w.ing p.transport (some (sentinels, grid)) depth else (0, 0, d)
    let hb := if live && d.compressed n then (d.src n).hbLast.getD 0 % 65536 else 0
    let fin := fun (s : Stamp) => { s with proof, evid, hbCtr := hb, taint := s.taint ||| taintIf refTaint tRef }
    let w := { fin w with check }
    let slices := (x.curStamps.map fin).map fun s => if x.curStamps.length = 1 then { s with check } else s
    let d := if live then d.freezeRun n check w.cap else d
    let d := if live then
        ((d.decCount n 0).decCount n 7 (bit w.taint 0).toNat).decCount n 8 refTaint.toNat
      else d
    let size := match (d.dec n).sps with
      | some s => (s.fmt.width, s.fmt.height)
      | none => (((d.src n).fmt.map Format.width).getD 0, ((d.src n).fmt.map Format.height).getD 0)
    d.emit n { stamp := w, slices, runStart := (d.src n).runStart, expired := p.mark, poc := h.poc, width := size.1, height := size.2 }
      (h.irap && !h.cra)
  | _, _, _ => d.modDec n fun x => { x with cur := none, curHead := none, curStamps := [], curCause := none }

/-- The engine's time on a job, kept for BUSY over the last 1,000 ms (05 R140). -/
def Dev.busy (d : Dev) (e ns : Nat) : Dev :=
  d.modEng e fun x => { x with window := (d.tim.elapsed, ns) :: x.window.filter fun w => decide (d.tim.elapsed ≤ w.1 + 1000000000) }

/-- A decode engine finishes a slice (05 R124). A slice that no released picture of the source holds, or of a source that no engine decodes, is
not there to finish. -/
def sliceDecodedOp (r : SliceDec) (d : Dev) : Dev :=
  let n := r.src
  if r.outcome = .redundant then d.decCount n 15
  else
    let d := match (d.dec n).cur with
      | some _ => d
      | none => if ((d.dec n).queue.head?.any fun (p : AccPic) => p.seq == r.seq) then d.startPicture n r.head else d
    match (d.dec n).cur with
    | none => d
    | some p =>
      if p.seq ≠ r.seq ∨ !((d.dec n).engine.any d.engUsable) then d
      else
        let d := match (d.dec n).engine with
          | some e => d.busy e r.busyNs
          | none => d
        let d := d.oneSlice n p r
        if r.last then d.finishPicture n r.wholeCheck r.sentinels r.grid else d

/-! ### A quarantined engine (05 R135) -/

/-- The picture in decode on a quarantined engine is concealed from the slice in flight on, and finished. -/
def Dev.concealRest (d : Dev) (n : Nat) : Dev :=
  match (d.dec n).cur with
  | none => d
  | some p =>
    let rest := p.slices.filter fun s => !p.done.contains s.1
    let stamps := rest.map fun (i, gap, own) =>
      if gap then gapStamp p.slices i own else { own with taint := own.taint ||| tConcealed }
    let (v, d) := d.fresh
    let d := d.decCount n 17 rest.length
    let d := d.modDec n fun x => { x with curStamps := x.curStamps ++ stamps, curCause := some 5 }
    d.finishPicture n (v % 2 ^ 32) [] []

/-- Engine `e` leaves service: its pictures are concealed, its sources move at their next picture. -/
def Dev.engineOut (d : Dev) (e : Nat) : Dev :=
  d.each (sourceNumbers.filter fun n => (d.dec n).engine == some e) fun d n =>
    (d.concealRest n).place n 1

/-- Engine `e` returns from quarantine: its pinned sources return at their next picture. -/
def Dev.engineBack (d : Dev) (e : Nat) : Dev :=
  d.each (sourceNumbers.filter fun n => (d.dec n).engine.isSome && d.flag .decCfg n 31 && d.fld .decCfg n 30 29 == e) fun d n =>
    d.modDec n fun x => if x.engine = some e then x else { x with movePending := some (2, e) }

/-! ### Status (05 R139, R140) -/

/-- CYCLE and CYCLE_LEFT. -/
def cycleStatus (x : Dec) : Nat × Nat :=
  match x.cycle with
  | .none => (0, 0)
  | .recovery start count 0 => (1, min 511 (start + (count : Int) - x.lastOrder).toNat)
  | .recovery start count m => (1, min 511 (count - ((x.lastOrder - start) % (m : Int)).toNat))
  | .assumed k => (2, min 511 k)

/-- The source is eligible for slice-synchronous composition (05 R127); a mirror is when its origin is (15 R417), which its own device is not told. -/
def Dev.sliceOk (d : Dev) (n : Nat) : Bool :=
  if d.isMirror n then Config.mirrorEligible (d.fld .mdkMirror n 14 0) (d.srcGen n)
  else d.srcClock n == 1 && (d.srcKind n == 2 || (d.compressed n && (d.dec n).sps.any fun s => s.reorder == 0 && decide (4 ≤ s.slices)))

/-- DEC.STATUS. -/
def Dev.decStatus (d : Dev) (n : Nat) : Nat :=
  let x := d.dec n
  let (c, left) := cycleStatus x
  let s := x.sps
  ((x.engine.getD 0 % 4) <<< 30) + ((x.engine.isSome && (x.reserved.isSome || !d.compressed n)).toNat <<< 29)
    + ((x.hidden && d.srcEn n).toNat <<< 28) + (x.pending.toNat <<< 27) + (c <<< 25) + (left <<< 16)
    + ((((s.map (·.profile)).getD 0) % 16) <<< 12) + ((((s.map (·.level)).getD 0) % 256) <<< 4) + ((d.sliceOk n).toNat <<< 3)
    + ((s.any fun s => decide (0 < s.reorder)).toNat <<< 2) + (x.waiting.toNat <<< 1)

/-- DEC.ENG_STATUS. -/
def Dev.engStatus (d : Dev) (e : Nat) : Nat :=
  let n := (sourceNumbers.filter fun n => (d.dec n).engine == some e).length
  let busyNs := (((d.eng e).window.filter fun w => decide (d.tim.elapsed ≤ w.1 + 1000000000)).map (·.2)).sum
  (min 4095 (d.committed e / 1000000) <<< 20) + (n <<< 12) + (min 100 (busyNs / 10000000) <<< 4) + ((d.eng e).overcommit.toNat <<< 3)
    + ((d.quarantined (5 + e)).toNat <<< 2)

end Sys2Proof.Machine
end

