-- ==== Sys2Proof/Machine/MemBase.lean ====
section
/-!
DEFINITION. Memory as bytes (01 Table 1.7, 13): where an address lies, the installed DRAM, reads and writes of bytes below the boundary units,
and the colour of a page.
-/

namespace Sys2Proof.Machine

/-! ### The address map (01 Table 1.7) -/

/-- The capacity of an organisation in GiB, where it lies within 16 to 128 and uses no reserved encoding (13 R335, Table 13.1). -/
def dramGibOf (cfg : Nat) : Option Nat :=
  let c := 8 * (bits cfg 57 57 + 1) * (if bit cfg 58 then 2 else 4) * (bits cfg 60 59 + 1)
  if bits cfg 63 61 ≤ 3 ∧ 16 ≤ c ∧ c ≤ 128 then some c else none

/-- Bytes of installed and trained DRAM. -/
def Dev.dramBytes (d : Dev) : Nat := if d.mem.trained then ((dramGibOf (d.get .memDramCfg)).getD 0) * 2 ^ 30 else 0

/-- The target of an address (01 Table 1.6, Table 1.7, R19): 11 is the default target. -/
def Dev.targetOf (d : Dev) (a : Nat) : Nat :=
  if a < 0x10000 then 0
  else if 0x01000000 ≤ a ∧ a < 0x01020000 then 0
  else if chartBase ≤ a ∧ a < 0x13000000 then 1
  else if cartBase ≤ a ∧ a < 0x20400000 then 2
  else if mramBase ≤ a ∧ a < 0x30400000 then 3
  else if 0x40000000 ≤ a ∧ a < 0x50000000 then 4
  else if dramBase ≤ a ∧ a < dramBase + d.dramBytes then 5 + (a - dramBase) / 2048 % 4
  else if 0x800000000000 ≤ a ∧ a < 0xC00000000000 then 9
  else if 0xC00000000000 ≤ a ∧ a < 0x1000000000000 then 10
  else 11

/-- Where the bytes of an address are kept: the boot ROM and the core SRAM are reached by their aliases, and at address 0 by the one that remap
chooses for masters 0 and 1 (13 R357). -/
def Dev.homeOf (d : Dev) (master a : Nat) : Nat :=
  if a < 0x10000 then (if d.mem.remap && decide (master < 2) then 0x01010000 + a else 0x01000000 + a) else a

/-! ### Ranges -/

/-- The cells of `[a, a + n)` unlisted, and their poison cleared: a range of DRAM filled with zeros. -/
def Dev.zeroFill (d : Dev) (a n : Nat) : Dev :=
  { d with mem := { d.mem with cells := d.mem.cells.filter fun c => !(decide (a ≤ c.1 ∧ c.1 < a + n)),
                               poison := d.mem.poison.filter fun c => !(decide (a ≤ c.1 ∧ c.1 < a + n)) } }

/-! ### Colours (13 R359, Table 13.7) -/

/-- The colour of a chart-memory page, the parts of 13 Table 13.3 lying in the table's order (notes/assumptions/14.md). -/
def chartTag (off : Nat) : Nat :=
  let m := off / 2 ^ 19
  if m < 42 then 3 else if m < 48 then 2 else if m < 60 then 3 else if m < 64 then 2 else 0

/-- Bytes of the Bursol reserve (13 R359). -/
abbrev reserveBytes : Nat := 256 * 2 ^ 20

/-- The colour a page has unless the tag engine has given it another. -/
def Dev.defaultTag (d : Dev) (page : Nat) : Nat :=
  let a := page * 4096
  match d.targetOf a with
  | 1 => chartTag (a - chartBase)
  | 2 => 1
  | 9 | 10 => 4
  | 0 | 3 | 4 => 0
  | _ =>
    if a < dramBase then 0
    else
      let top := dramBase + d.dramBytes - reserveBytes
      if top ≤ a then 0 else if top - d.get .memPartnerMib * 2 ^ 20 ≤ a then 5 else 15

/-- The colour of a page: of DRAM and chart memory what the tag engine set last, elsewhere a fixed one (13 R359). -/
def Dev.tagOf (d : Dev) (page : Nat) : Nat :=
  let k := d.targetOf (page * 4096)
  if k = 1 ∨ (5 ≤ k ∧ k ≤ 8) then
    match d.mem.tags.find? fun t => decide (t.1 ≤ page ∧ page ≤ t.2.1) with
    | some t => t.2.2
    | none => d.defaultTag page
  else d.defaultTag page

/-- The pages `[first, last]` take a colour (13 R360). -/
def Dev.retag (d : Dev) (first last tag : Nat) : Dev :=
  { d with mem := { d.mem with
    tags := (first, last, tag) :: d.mem.tags.filter fun t => !(decide (first ≤ t.1 ∧ t.2.1 ≤ last)) } }

/-- Every page of `[a, a + n)` has a colour. -/
def Dev.allTagged (d : Dev) (a n tag : Nat) : Bool :=
  decide (0 < n) && (List.range (ceilDiv (a % 4096 + n) 4096)).all fun i => d.tagOf (a / 4096 + i) == tag

/-- The colour of an owner's memory: its COLOUR, or 5 for the partner sessions (11 Table 11.2, 13 Table 13.7). -/
def Dev.ownerColour (d : Dev) (owner : Nat) : Nat := if owner = 0 then 5 else ((d.ten owner).grant.getD 2 0).toNat

end Sys2Proof.Machine
end

