-- ==== Sys2Proof/Machine/Plates.lean ====
section
/-!
DEFINITION. What the plates work from (07): the grants of tenancies, the timing of an output, its layers and cartouche, culling, hidden sources,
who composes for a plate, and failover.
-/

namespace Sys2Proof.Machine

/-! ### Grants (11 Table 11.2) -/

/-- Byte `k` of a tenancy's grant. -/
def Dev.gByte (d : Dev) (n k : Nat) : Nat := ((d.ten n).grant.getD k 0).toNat
/-- A little-endian field of a tenancy's grant. -/
def Dev.gLe (d : Dev) (n k len : Nat) : Nat := leVal (((d.ten n).grant.drop k).take len)
/-- The tenancy exists (11 R290). -/
def Dev.tenExists (d : Dev) (n : Nat) : Bool := (d.ten n).st != TenSt.absent
/-- The numbers of tenancies. -/
def tenNumbers : List Nat := [1, 2, 3, 4, 5, 6, 7, 8]
/-- OUT_GRANT: the tenancy may place layers on output `o`. -/
def Dev.outGranted (d : Dev) (n o : Nat) : Bool := d.tenExists n && bit (d.gByte n 24) o
/-- ZWIN of output `o`. -/
def Dev.zwin (d : Dev) (n o : Nat) : Nat × Nat := (d.gByte n (36 + 2 * o), d.gByte n (37 + 2 * o))
/-- SRC_GRANT: the tenancy may show source `s`. -/
def Dev.srcGranted (d : Dev) (n s : Nat) : Bool := d.tenExists n && bit (d.gByte n (52 + s / 8)) (s % 8)
/-- A REGULATED tenancy exists. -/
def Dev.regulated (d : Dev) : Bool := tenNumbers.any fun n => d.tenExists n && (d.ten n).cls == 0

/-! ### Outputs (07 Table 7.1, 14 Table 14.10, Table 14.11) -/

/-- The numbers of outputs. -/
def outputNumbers : List Nat := [0, 1, 2, 3, 4, 5, 6, 7]

/-- PCLK_HZ of a timing word. -/
def tmPclk (w : Nat) : Nat := bits w 191 160
/-- HTOTAL. -/
def tmHtotal (w : Nat) : Nat := bits w 159 144
/-- HACTIVE. -/
def tmHactive (w : Nat) : Nat := bits w 143 128
/-- VTOTAL. -/
def tmVtotal (w : Nat) : Nat := bits w 95 80
/-- VACTIVE. -/
def tmVactive (w : Nat) : Nat := bits w 79 64
/-- The frame period in ns, rounded down (14 R392): HTOTAL × VTOTAL / PCLK_HZ. -/
def tmFrameNs (w : Nat) : Nat := tmHtotal w * tmVtotal w * 1000000000 / tmPclk w
/-- The band period in ns: 64 lines. -/
def tmBandNs (w : Nat) : Nat := tmHtotal w * 64 * 1000000000 / tmPclk w
/-- The bits per component of a link word. -/
def dpDepth (w : Nat) : Nat := 6 + 2 * bits w 57 56

/-- The timing in force of an output. -/
def Dev.timing (d : Dev) (o : Nat) : Nat := d.getF .lnkDpTiming o
/-- The component depth in force. -/
def Dev.depth (d : Dev) (o : Nat) : Nat := dpDepth (d.getF .lnkDpCfg o)
/-- The bands of an output's active area. -/
def Dev.bands (d : Dev) (o : Nat) : Nat := ceilDiv (tmVactive (d.timing o)) 64
/-- The tile columns of an output. -/
def Dev.cols (d : Dev) (o : Nat) : Nat := ceilDiv (tmHactive (d.timing o)) 256
/-- Composition of the output is enabled and its raster runs. -/
def Dev.composes (d : Dev) (o : Nat) : Bool := d.flagF .pltOutCfg o 31 && (d.out o).raster
/-- OWNER of an output in force. -/
def Dev.outOwner (d : Dev) (o : Nat) : Nat := d.fldF .pltOutCfg o 17 14
/-- The key of a tile. -/
def tileKey (band col : Nat) : Nat := band * 32 + col

/-- An output counter PLT.OUT_STAT[o][k] (07 Table 7.13). -/
def Dev.outCount (d : Dev) (o k : Nat) (by_ : Nat := 1) : Dev := d.count2 .pltOutStat o k by_

/-! ### Sparse copies of the lookup tables -/

/-- The listed entries of `n` slots of a parameter from slot `lo`, in one of its copies. -/
def Dev.listed (d : Dev) (p : Par) (inForce : Bool) (lo n : Nat) : List (Nat × Nat) :=
  d.regs.filterMap fun (k, v) =>
    let s := k / 2
    let b := p.ctorIdx * 2 ^ 24 + lo
    if k % 2 = inForce.toNat ∧ b ≤ s ∧ s < b + n then some (s - b, v) else none

/-- `n` slots in force from slot `lo` take the entries of a list, and their reset values elsewhere. -/
def Dev.putList (d : Dev) (p : Par) (lo n : Nat) (l : List (Nat × Nat)) : Dev :=
  let b := (p.ctorIdx * 2 ^ 24 + lo) * 2
  let d := { d with regs := d.regs.filter fun e => !(e.1 % 2 == 1 && decide (b ≤ e.1 ∧ e.1 < b + 2 * n)) }
  d.each l fun d e => d.putF p (lo + e.1) e.2

/-! ### Layers (07 Table 7.4, Table 7.5) -/

/-- The numbers of layers. -/
def layerNumbers : List Nat := List.range 256

/-- The values of a layer in its shadow copy. -/
def Dev.layerSh (d : Dev) (n : Nat) : LayerVals :=
  { cfg := d.get .pltLayerCfg n, dst := d.get .pltLayerDst n, crop := d.get .pltLayerCrop n, buf := d.get .pltLayerBuf n,
    fill := d.get .pltLayerFill n, live := d.get .pltLayerLive n, lut := d.listed .pltPreLut false (3072 * n) 3072 }

/-- The values of a layer in force. -/
def Dev.layerF (d : Dev) (n : Nat) : LayerVals :=
  { cfg := d.getF .pltLayerCfg n, dst := d.getF .pltLayerDst n, crop := d.getF .pltLayerCrop n, buf := d.getF .pltLayerBuf n,
    fill := d.getF .pltLayerFill n, live := d.getF .pltLayerLive n, lut := d.listed .pltPreLut true (3072 * n) 3072 }

/-- The values of a layer put in force. -/
def Dev.putLayer (d : Dev) (n : Nat) (v : LayerVals) : Dev :=
  ((((((d.putF .pltLayerCfg n v.cfg).putF .pltLayerDst n v.dst).putF .pltLayerCrop n v.crop).putF .pltLayerBuf n v.buf).putF
    .pltLayerFill n v.fill).putF .pltLayerLive n v.live).putList .pltPreLut (3072 * n) 3072 v.lut

/-- EN. -/
def LayerVals.en (v : LayerVals) : Bool := bit v.cfg 63
/-- OUT. -/
def LayerVals.out (v : LayerVals) : Nat := bits v.cfg 62 60
/-- Z. -/
def LayerVals.z (v : LayerVals) : Nat := bits v.cfg 59 54
/-- CONTENT: 0 source, 1 buffer, 2 fill. -/
def LayerVals.content (v : LayerVals) : Nat := bits v.cfg 53 52
/-- SRC. -/
def LayerVals.src (v : LayerVals) : Nat := bits v.cfg 51 44
/-- BLEND. -/
def LayerVals.blend (v : LayerVals) : Nat := bits v.cfg 43 42
/-- GALPHA. -/
def LayerVals.galpha (v : LayerVals) : Nat := bits v.cfg 41 34
/-- FIT: 0 stretch, 1 fit, 2 fixed scale. -/
def LayerVals.fit (v : LayerVals) : Nat := bits v.cfg 32 31
/-- SLICE. -/
def LayerVals.slice (v : LayerVals) : Bool := bit v.cfg 30
/-- OWNER. -/
def LayerVals.owner (v : LayerVals) : Nat := bits v.cfg 7 4
/-- The layer is opaque (07 R178). -/
def LayerVals.opaque_ (v : LayerVals) : Bool := v.blend == 0
/-- CLAIM = LIVE. -/
def LayerVals.isLive (v : LayerVals) : Bool := bit v.live 31
/-- The age limit in ns. -/
def LayerVals.limitNs (v : LayerVals) : Nat := bits v.live 12 0 * 1000000
/-- MIN_PROOF. -/
def LayerVals.minProof (v : LayerVals) : Nat := bits v.live 25 24
/-- The layer shows a source. -/
def LayerVals.showsSource (v : LayerVals) : Bool := v.content == 0

/-- The values by which output `o` composes layer `n`. -/
def Dev.layerOn (d : Dev) (o n : Nat) : LayerVals :=
  match (d.out o).over_.find? (·.1 == n) with
  | some e => e.2
  | none => d.layerF n

/-- The layers that output `o` composes, by rising Z. -/
def Dev.layersOn (d : Dev) (o : Nat) : List (Nat × LayerVals) :=
  sortOn (·.2.z) ((layerNumbers.map fun n => (n, d.layerOn o n)).filter fun e => e.2.en && e.2.out == o)

/-- An event of a layer goes to its owner and every mediator session (07 R200, 02 R67). -/
def Dev.layerEvent (d : Dev) (o n code : Nat) (data : Bytes) (on : Bool := false) : Dev :=
  let v := d.layerOn o n
  let gen := if v.showsSource then d.srcGen v.src else 0
  d.raise (toOwnerMed v.owner) { code, object := n, tenancy := v.owner, out := o, gen, data, on }

/-! ### Rectangles -/

/-- A rectangle of output pixels: left and top edges, right and bottom edges (exclusive). -/
structure Rect where
  x0 : Int
  y0 : Int
  x1 : Int
  y1 : Int
  deriving DecidableEq, Repr

/-- A point lies in a rectangle. -/
def Rect.has (r : Rect) (x y : Int) : Bool := decide (r.x0 ≤ x ∧ x < r.x1 ∧ r.y0 ≤ y ∧ y < r.y1)

/-- Two rectangles meet. -/
def Rect.meets (a b : Rect) : Bool := decide (max a.x0 b.x0 < min a.x1 b.x1 ∧ max a.y0 b.y0 < min a.y1 b.y1)

/-- The common part. -/
def Rect.inter (a b : Rect) : Rect := ⟨max a.x0 b.x0, max a.y0 b.y0, min a.x1 b.x1, min a.y1 b.y1⟩

/-- A rectangle holds a pixel. -/
def Rect.nonempty (r : Rect) : Bool := decide (r.x0 < r.x1 ∧ r.y0 < r.y1)

/-- A rectangle lies inside another. -/
def Rect.inside (a b : Rect) : Bool := decide (b.x0 ≤ a.x0 ∧ b.y0 ≤ a.y0 ∧ a.x1 ≤ b.x1 ∧ a.y1 ≤ b.y1)

/-- The footprint of a layer (07 Table 7.4 LAYER_DST). -/
def LayerVals.rect (v : LayerVals) : Rect :=
  let x := toSigned 16 (bits v.dst 63 48)
  let y := toSigned 16 (bits v.dst 47 32)
  ⟨x, y, x + (bits v.dst 31 16 : Nat), y + (bits v.dst 15 0 : Nat)⟩

/-- The active area of a timing word. -/
def activeRect (w : Nat) : Rect := ⟨0, 0, (tmHactive w : Nat), (tmVactive w : Nat)⟩

/-- Part of `r` is outside every rectangle of `l`: some corner of the arrangement lies in `r` and in none of them. -/
def Rect.sticksOut (r : Rect) (l : List Rect) : Bool :=
  r.nonempty && (r.x0 :: l.map (·.x1)).any fun x => (r.y0 :: l.map (·.y1)).any fun y => r.has x y && !(l.any fun q => q.has x y)

/-- The layers at a point from the top down, culled at the first opaque one (07 R177, R178). -/
def depthAt (x y : Int) : List LayerVals → Nat
  | [] => 0
  | v :: r => if v.rect.has x y then (if v.opaque_ then 1 else 1 + depthAt x y r) else depthAt x y r

/-- The greatest number of layers at any pixel of the active area, the layers given from the top down (07 R177). -/
def maxDepth (area : Rect) (l : List LayerVals) : Nat :=
  let xs := (l.map fun v => max v.rect.x0 area.x0).filter fun x => decide (x < area.x1)
  let ys := (l.map fun v => max v.rect.y0 area.y0).filter fun y => decide (y < area.y1)
  ((xs.flatMap fun x => ys.map fun y => depthAt x y l).max?).getD 0

/-! ### The cartouche (07 R187 to R190) -/

/-- OWNER of the cartouche of an output: 0 the mediator sessions, else the REGULATED tenancy (19 Table 19.3). -/
def Dev.cartOwner (d : Dev) (o : Nat) : Nat := d.fld .carState o 31 28

/-- The slot of an output in cartouche memory (07 R188). -/
def cartSlot (o : Nat) : Nat := cartBase + o * 0x80000

/-- The control word of a descriptor bank. -/
def Dev.cartCtl (d : Dev) (o bank : Nat) : Nat := d.peekLe (cartSlot o + 0x77100 + bank * 128) 8

/-- The rectangles of a descriptor (07 Table 7.10): X, Y, W, H and the offset of each in the pixel store. -/
def descRects (words : List Nat) : List (Nat × Nat × Nat × Nat × Nat) :=
  words.map fun w => (8 * bits w 63 52, 8 * bits w 51 40, 8 * bits w 39 30, 8 * bits w 29 20, bits w 19 0)

/-- The rectangles in use of a descriptor bank. -/
def Dev.cartRects (d : Dev) (o bank : Nat) : List (Nat × Nat × Nat × Nat × Nat) :=
  descRects ((List.range (min 8 (bits (d.cartCtl o bank) 3 0))).map fun i => d.peekLe (cartSlot o + 0x77108 + bank * 128 + 8 * i) 8)

/-- A cartouche rectangle as output pixels. -/
def cartRect (r : Nat × Nat × Nat × Nat × Nat) : Rect :=
  ⟨(r.1 : Nat), (r.2.1 : Nat), ((r.1 + r.2.2.1 : Nat) : Int), ((r.2.1 + r.2.2.2.1 : Nat) : Int)⟩

/-- The glyph cell of a control word. -/
def glyphRect (ctl : Nat) : Rect :=
  let x := bits ctl 63 48
  let y := bits ctl 47 32
  ⟨(x : Nat), (y : Nat), ((x + 32 : Nat) : Int), ((y + 32 : Nat) : Int)⟩

/-- The SERVICE notice (17 R471). -/
def noticeRect : Rect := ⟨0, 0, 256, 32⟩

/-- Everything that the cartouche pair covers on an output in the frame: its rectangles, the glyph cell, the SERVICE notice. -/
def Dev.cartCover (d : Dev) (o : Nat) : List Rect :=
  let bank := (d.out o).cartBank
  let l := glyphRect (d.cartCtl o bank) :: (d.cartRects o bank).map cartRect
  if (d.out o).noticeDrawn then noticeRect :: l else l

/-! ### Culling and hidden sources (07 R178, R179, 05 R137) -/

/-- The layers of an output that keep a visible footprint after culling. -/
def Dev.visibleOn (d : Dev) (o : Nat) : List Nat :=
  let area := activeRect (d.timing o)
  let ls := d.layersOn o
  let cover := d.cartCover o
  (ls.filter fun e =>
    (e.2.rect.inter area).sticksOut (cover ++ ((ls.filter fun f => decide (e.2.z < f.2.z) && f.2.opaque_).map (·.2.rect)))).map (·.1)

/-- A route of the layout in force forwards slices of source `n` from this device (15 R417): [ROUTE, ORIGIN, DEST, source, mirror, X0, Y0,
X1, Y1]. -/
def Dev.routesOf (d : Dev) (n : Nat) : List (List Nat) :=
  match d.chain.inForce with
  | none => []
  | some l => if d.chain.role = 0 then [] else l.routes.filter fun r => r.getD 1 0 == d.chain.position && r.getD 3 0 == n

/-- A source is hidden (05 R137): no layer of it is visible on a composing output, and it forwards no slices. -/
def Dev.hiddenNow (d : Dev) (n : Nat) : Bool :=
  (d.routesOf n).isEmpty && !outputNumbers.any fun o => d.composes o &&
    (d.layersOn o).any fun e => e.2.showsSource && e.2.src == n && (d.layer e.1).visible

/-- The class that a layer gives its source (09 R234): 1 C, 2 L, 3 A. -/
def Dev.layerCls (d : Dev) (v : LayerVals) : Nat :=
  if v.owner ≠ 0 ∧ (d.ten v.owner).cls = 0 then 1
  else if v.isLive && (v.owner == 0 || (d.ten v.owner).cls == 1) then 2
  else 3

/-- The class of a source (09 R234): the highest among its visible layers, at least L where it forwards slices, A where it is hidden. The layers on
other devices of a chain are not known here (notes/assumptions/86.md). -/
def Dev.srcClass (d : Dev) (n : Nat) : Nat :=
  let here := outputNumbers.flatMap fun o => if d.composes o then
    ((d.layersOn o).filter fun e => e.2.showsSource && e.2.src == n && (d.layer e.1).visible).map fun e => d.layerCls e.2 else []
  let c := (here.min?).getD 3
  if (d.routesOf n).isEmpty then c else min c 2

/-- Pictures of a class A source that the scheduler leaves undecoded (05 R122, 09 R237): from LEVEL 1 on, discardable ones that a later picture of
the queue overtakes. Each is an A job skipped. -/
def Dev.shedAhead (d : Dev) (n seq : Nat) : Dev :=
  let x := d.dec n
  let ahead := x.queue.takeWhile (·.seq != seq)
  if x.cur.isNone ∧ ahead ≠ [] ∧ ahead.length < x.queue.length ∧ ahead.all (·.disc) ∧ 0 < d.bsh.level ∧ d.srcClass n = 3 then
    (d.modDec n fun x => { x with queue := x.queue.drop ahead.length }).count .bshStat 5 ahead.length
  else d

/-- Hidden is decided again for every source (05 R137, R138). -/
def Dev.hideSources (d : Dev) : Dev :=
  d.each sourceNumbers fun d n => let h := d.hiddenNow n; if (d.dec n).hidden == h then d else d.modDec n fun x => { x with hidden := h }

/-! ### Who composes (07 R163, R195 to R197) -/

/-- A plate can compose: present, neither quarantined nor in block reset. -/
def Dev.plateUsable (d : Dev) (p : Nat) : Bool := d.present (4 + p) && !d.quarantined p && !d.inReset p

/-- PLS is present, not quarantined and not in reset. -/
def Dev.spareOk (d : Dev) : Bool := d.present 8 && !d.quarantined 4 && !d.inReset 4

/-- A plate composes the bands of an output now: its own plate, or PLS from 0.5 ms after the quarantine (07 R195); none in
SAFE (16 R447) or MAINTENANCE (16 R438). -/
def Dev.plateComposes (d : Dev) (o : Nat) : Bool :=
  let p := plateOf o
  !d.flt.safe && !d.rst.maintenance &&
    (if (d.plate p).failover then
      d.bench.standIn == some p && d.spareOk && decide (d.bench.standFrom ≤ d.tim.elapsed)
    else d.plateUsable p)

/-- The unit code of the plate that drives an output: PLS is 4. -/
def Dev.driver (d : Dev) (o : Nat) : Nat := if (d.plate (plateOf o)).failover then 4 else plateOf o

/-- PLS stands in for a plate (07 R195): it abandons its compare and composes from 0.5 ms after now. -/
def Dev.standIn (d : Dev) (p : Nat) : Dev :=
  { d with bench := { d.bench with stage := 0, standIn := some p, standFrom := d.tim.elapsed + 500000, waiting := d.bench.waiting.filter (· != p) } }

/-- PLS, being free, takes the first plate that waits for it (07 R197). -/
def Dev.spareFree (d : Dev) : Dev :=
  match d.bench.waiting with
  | p :: _ => if d.spareOk && d.bench.standIn.isNone then d.standIn p else d
  | [] => d

/-- A plate fails over (07 R195): causes (in R195's order) 0 a lasting fault, 1 two glyph failures, 2 the verdict of R193. Its quarantine is the
caller's. -/
def Dev.failover (d : Dev) (p cause : Nat) : Dev :=
  if (d.plate p).failover then d
  else
    let o := 2 * p
    let d := d.setPlate p { quarantined := true, failover := true }
    let d := { d with bench := { d.bench with waiting := d.bench.waiting ++ [p] } }
    let d := d.spareFree
    let band := ((d.out o).bandsDone.length) % 256
    d.raise toPartners { code := 0xE307, object := p, out := o, data := u64 (d.out o).frame ++ u8 band ++ u8 cause }

/-- PLS is quarantined (07 R193, R197): the plate for which it stands in takes its outputs back as soon as its reset has completed. -/
def Dev.spareLost (d : Dev) : Dev :=
  let d := match d.bench.standIn with
    | some p => d.modPlate p fun x => { x with backAtFrame := true }
    | none => d
  let d := { d with bench := { d.bench with standIn := none, stage := 0 } }
  d.raise toPartners { code := 0xE309, object := 4, data := u8 0 }

/-- A plate takes its outputs back at a frame start (07 R196, R197): it leaves quarantine, PLS returns to its compare or to a plate that waits. -/
def Dev.failback (d : Dev) (p : Nat) : Dev :=
  let was := d.quarantined p
  let d := d.setPlate p {}
  let d := { d with flt := { d.flt with quar := d.flt.quar.filter (· != (p, 0)) },
                    bench := { d.bench with standIn := if d.bench.standIn = some p then none else d.bench.standIn,
                                            waiting := d.bench.waiting.filter (· != p) } }
  let d := d.when was fun d => d.raise toPartners { code := 0xEE02, object := p, data := u8 0, on := false }
  let d := d.raise toPartners { code := 0xE308, object := p, data := u64 (d.out (2 * p)).frame }
  d.spareFree

/-- The run of a recovering plate is compared with PLT.FAILBACK_N (07 R196). -/
def Dev.failbackDue (d : Dev) (p : Nat) : Dev :=
  let x := d.plate p
  if x.failover && x.resetDone && decide (d.get .pltFailbackN ≤ x.run) then d.modPlate p fun x => { x with backAtFrame := true } else d

/-- PLT.BM_STATUS (07 Table 7.12). -/
def Dev.bmStatus (d : Dev) : Nat :=
  let b := d.bench
  let run := ((([0, 1, 2, 3].filter fun p => (d.plate p).failover).map fun p => (d.plate p).run).max?).getD 0
  ((b.compares % 2 ^ 24) <<< 40) + (min 4095 b.mismatches <<< 28) + (min 8191 run <<< 15) + (((b.standIn.getD 0) % 4) <<< 12)
    + (b.standIn.isSome.toNat <<< 11) + ((d.present 8 && !d.quarantined 4).toNat <<< 10)
    + (([0, 1, 2, 3].map fun p => (d.quarantined p).toNat * 2 ^ (6 + p)).sum) + ((d.quarantined 4).toNat <<< 5)

/-! ### Ages (02 R43) -/

/-- Age of a picture's stamp for a layer at a reference time: none is infinite. -/
def Dev.age (d : Dev) (v : LayerVals) (st : Stamp) (runStart : Option Ns) (expired : Bool) (tRef : Ns) : Option Nat :=
  let cap := if bit v.live 30 && st.proof == 1 then runStart.getD st.cap else st.cap
  if expired then none else some ((tRef : Int) - ((cap : Int) + d.stepSum st.epoch)).toNat

/-! ### Commands -/

/-- A recovering plate's run reaches PLT.FAILBACK_N (07 R196). -/
def failbackRunOp (p : Nat) (d : Dev) : Dev := d.failbackDue p

/-- Command FAILBACK_RUN_REACHED. -/
def execFailbackRunReached (plate : Nat) (s : State) : Host.Outcome State Fault Refusal :=
  onDev (Instr.wellFormed (.failbackRunReached plate)) (failbackRunOp plate) s

end Sys2Proof.Machine
end

