-- ==== Sys2Proof/Machine/Compose.lean ====
section
/-!
DEFINITION. Band composition (07 R163 to R171, R183, R185, R189; 02 R43 to R52): the decision of each tile, hachure and labels, the pixel path
and what a composed band leaves behind.
-/

namespace Sys2Proof.Machine

/-! ### The decision (02 R46) -/

/-- Reasons for hachure, in the order of REASONS (02 Table 2.8): A, P, T, X, N, H, B, S. -/
inductive Why where
  | a | p | t | x | n | h | b | s
  deriving DecidableEq, Repr

/-- The bit of a reason in REASONS [19:12]. -/
def Why.bitOf : Why → Nat
  | .a => 1 | .p => 2 | .t => 4 | .x => 8 | .n => 16 | .h => 32 | .b => 64 | .s => 128

/-- The capital letter of a reason. -/
def Why.letter : Why → Nat
  | .a => 0x41 | .p => 0x50 | .t => 0x54 | .x => 0x58 | .n => 0x4E | .h => 0x48 | .b => 0x42 | .s => 0x53

/-- The taint flags of the Degraded class (02 Table 2.3). -/
abbrev degradedMask : Nat := tFormat + tCropPad + tLoss + tRef + tConcealed

/-- A stamp as the decision uses it, with the start of the freeze run and the epoch-expired mark of its picture. -/
structure Shown where
  st : Stamp
  run : Option Ns
  expired : Bool
  deriving DecidableEq, Repr

/-- The stamp of a slice in a picture by its SEQ: of a published picture, or of the one in decode, whose PROOF is not known before its last slice
and is left open (notes/assumptions/15.md), or of the one that a mirror gathers. -/
def Dev.sliceShown (d : Dev) (src slice seq : Nat) : Option Shown × Dev :=
  let x := d.dec src
  match (x.pics ++ x.held).find? fun (p : Pic) => p.stamp.seq == seq with
  | some p => ((p.slices.find? fun (s : Stamp) => s.slice == slice).map fun s => ⟨s, p.runStart, p.expired⟩, d)
  | none =>
    match x.cur with
    | some p =>
      if p.seq = seq then
        let (v, d) := d.fresh
        ((x.curStamps.find? fun (s : Stamp) => s.slice == slice).map fun s => ⟨{ s with proof := v % 4 }, (d.src src).runStart, p.mark⟩, d)
      else (none, d)
    | none =>
      (((x.mirror.filter (·.seq == seq)).bind fun m => (m.stamps.find? fun (s : Stamp) => s.slice == slice).map fun s =>
        ⟨s, (d.src src).runStart, m.mark⟩), d)

/-- The composite of slice stamps (02 R46): the oldest CAP_TIME with its EPOCH, the lowest PROOF, the OR of TAINT; expired where any is. -/
def composite : List Shown → Option Shown
  | [] => none
  | s :: r =>
    match composite r with
    | none => some s
    | some c =>
      let old := if s.st.cap ≤ c.st.cap then s else c
      some { old with st := { old.st with proof := min s.st.proof c.st.proof, taint := s.st.taint ||| c.st.taint },
                      expired := s.expired || c.expired }

/-- `stamp_for(l, tile)`: the picture current at the commit point, or in slice-synchronous mode the composite of the rows sampled. -/
def Dev.stampFor (d : Dev) (n : Nat) (v : LayerVals) (t : TileIn) : Option Shown × Dev :=
  if v.slice then
    let (l, d) := (t.rows.filter (·.1 == n)).foldl (fun (l, d) r => let (s, d) := d.sliceShown v.src r.2.1 r.2.2; (l ++ s.toList, d)) (([] : List Shown), d)
    (composite l, d)
  else ((d.layer n).pic.map fun p => ⟨p.stamp, p.runStart, p.expired⟩, d)

/-- How a layer comes out in a tile: shown, or hachured for a reason; with what the decision saw. -/
structure Verdict where
  layer : Nat
  vals : LayerVals
  shown : Option Shown
  age : Option Nat
  why : Option Why
  striped : Bool
  deriving DecidableEq, Repr

/-- The decision of a LIVE layer (02 R46), in the order of its checks; a failed fetch counts as no content, poison as POISON (07 R183). -/
def Dev.decideLive (d : Dev) (o n : Nat) (v : LayerVals) (sh : Option Shown) (fail : Option FetchFail) (tRef : Ns) : Option Why :=
  if (d.out o).noticeDrawn then some .s
  else if (d.out o).barrierOut then some .b
  else
    match sh with
    | none => some .n
    | some s =>
      let cropGone := (d.layer n).pic.any fun p => decide (0 < bits v.crop 31 16) && decide (0 < p.width) &&
        decide (p.width ≤ bits v.crop 63 48 ∨ p.height ≤ bits v.crop 47 32)
      if s.st.gen ≠ d.srcGen v.src ∨ d.sourceLost v.src ∨ cropGone ∨ (fail.isSome ∧ fail ≠ some .poison) then some .n
      else if bit s.st.taint 5 ∨ fail = some .poison then some .x
      else if s.st.taint &&& degradedMask ≠ 0 ∧ !bit v.live 29 then some .t
      else if s.st.proof < v.minProof then some .p
      else
        match d.age v s.st s.run s.expired tRef with
        | none => some .a
        | some a => if v.limitNs < a then some .a else none

/-- The decision of one layer in one tile: a STILL layer is stopped only by a failed fetch (07 R183). -/
def Dev.verdict (d : Dev) (o : Nat) (tRef : Ns) (t : TileIn) (n : Nat) : Verdict × Dev :=
  let v := d.layerOn o n
  let fail := (t.failed.find? (·.1 == n)).map (·.2)
  if v.isLive then
    let (sh, d) := d.stampFor n v t
    let why := d.decideLive o n v sh fail tRef
    let age := sh.bind fun s => d.age v s.st s.run s.expired tRef
    (⟨n, v, sh, age, why, why.isSome⟩, d)
  else (⟨n, v, none, none, none, fail.isSome⟩, d)

/-! ### The tile summary (02 R48, R64) -/

/-- AGE of a verdict in 0.1 ms, saturating at 0xFFFE; an infinite age saturates. -/
def ageField (v : Verdict) : Nat :=
  match v.age with
  | some a => min 0xFFFE (a / 100000)
  | none => 0xFFFE

/-- Age for the choice of the oldest layer: an infinite one is above every other. -/
def ageRank (v : Verdict) : Nat :=
  match v.age with
  | some a => a
  | none => 2 ^ 80

/-- The summary of a tile from its verdicts, top to bottom (02 Table 2.8). With no content in any LIVE layer, AGE reads 0xFFFF, and SRC and LAYER
name the topmost LIVE layer (notes/assumptions/16.md). -/
def summaryOf (vs : List Verdict) (cart glyph : Bool) (epoch : Nat) : Nat :=
  let live := vs.filter (·.vals.isLive)
  let withContent := live.filter (·.shown.isSome)
  let lead := match argMax ageRank withContent with
    | some v => some v
    | none => live.head?
  let ageV := match argMax ageRank withContent with
    | some v => ageField v
    | none => 0xFFFF
  let shown := live.filter fun v => v.why.isNone
  let proof := ((shown.filterMap fun v => v.shown.map (·.st.proof)).min?).getD 0
  let reasons := (live.filterMap fun v => v.why.map Why.bitOf).foldl (· ||| ·) 0
  let degraded := shown.any fun v => v.shown.any fun s => s.st.taint &&& degradedMask != 0
  (ageV <<< 48) + ((((lead.map (·.vals.src)).getD 0) % 256) <<< 40) + ((((lead.map (·.layer)).getD 0) % 256) <<< 32)
    + ((live.length % 32) <<< 27) + (((live.filter (·.why.isSome)).length % 32) <<< 22) + ((proof % 4) <<< 20) + (reasons <<< 12)
    + (cart.toNat <<< 11) + (glyph.toNat <<< 9) + (degraded.toNat <<< 8) + ((epoch % 16) <<< 4)

/-- The expiry time of a tile for a hold (02 R64): the earliest corrected capture time plus limit of the LIVE layers it shows. -/
def Dev.expiryOf (d : Dev) (vs : List Verdict) : Option Ns :=
  ((vs.filter fun v => v.vals.isLive && v.why.isNone).filterMap fun v => v.shown.map fun s =>
    let cap := if bit v.vals.live 30 && s.st.proof == 1 then s.run.getD s.st.cap else s.st.cap
    (((cap : Int) + d.stepSum s.st.epoch).toNat + v.vals.limitNs)).min?

/-! ### Labels (02 R51, R52) -/

/-- The decimal digits of a number in ASCII. -/
def digits (n : Nat) : List Nat := (Nat.toDigits 10 n).map Char.toNat

/-- Two decimal digits. -/
def digits2 (n : Nat) : List Nat := [0x30 + n / 10 % 10, 0x30 + n % 10]

/-- An age as a label shows it (02 Table 2.10): without a stamp "--", infinite ">999 s". -/
def ageText (stamped : Bool) (age : Option Nat) : List Nat :=
  if !stamped then [0x2D, 0x2D]
  else
    match age with
    | none => [0x3E, 0x39, 0x39, 0x39, 0x20, 0x73]
    | some a =>
      let ms := a / 1000000
      if ms < 1000 then digits ms ++ [0x20, 0x6D, 0x73]
      else if ms < 10000 then digits (ms / 1000) ++ [0x2E] ++ digits2 (ms % 1000 / 10) ++ [0x20, 0x73]
      else if ms < 100000 then digits (ms / 1000) ++ [0x2E] ++ [0x30 + ms % 1000 / 100] ++ [0x20, 0x73]
      else if ms < 1000000 then digits (ms / 1000) ++ [0x20, 0x73]
      else [0x3E, 0x39, 0x39, 0x39, 0x20, 0x73]

/-- The short name of a source, up to 12 characters; what the font lacks is drawn as "?". -/
def Dev.shortName (d : Dev) (n : Nat) : List Nat :=
  ((leBytes 12 (d.get .srcName n)).map (·.toNat)).takeWhile (· != 0) |>.map fun c => if 0x20 ≤ c ∧ c ≤ 0x7E then c else 0x3F

/-- A label that a band has placed: its box, scale and text. -/
structure Label where
  layer : Nat
  x : Nat
  y : Nat
  scale : Nat
  text : List Nat
  deriving DecidableEq, Repr

/-- Width of a label's box. -/
def Label.w (l : Label) : Nat := 8 * l.scale * l.text.length + 8
/-- Height of a label's box. -/
def Label.h (l : Label) : Nat := 16 * l.scale + 8

/-- The box of a label holds a pixel. -/
def Label.has (l : Label) (x y : Nat) : Bool := decide (l.x ≤ x ∧ x < l.x + l.w ∧ l.y ≤ y ∧ y < l.y + l.h)

/-- A pixel of a label's box is drawn in the text colour. -/
def Label.ink (l : Label) (x y : Nat) : Bool :=
  let u := x - l.x
  let v := y - l.y
  if 4 ≤ u ∧ u < l.w - 4 ∧ 4 ≤ v ∧ v < l.h - 4 then
    let cx := (u - 4) / l.scale
    let c := l.text.getD (cx / 8) 0x20
    bit (Config.fontByte (16 * (c - 0x20) + (v - 4) / l.scale)) (7 - cx % 8)
  else false

/-- The leftmost, then topmost place at which a box lies inside an area of pixels (02 R51; notes/assumptions/16.md). -/
def placeBox (area : List (Nat × Nat)) (w h : Nat) : Option (Nat × Nat) :=
  let fits := area.filter fun (x, y) => (List.range w).all fun i => (List.range h).all fun j => area.contains (x + i, y + j)
  argMin (fun p => p.1 * 65536 + p.2) fits

/-- The label of a hachured layer, placed in this band if it fits at scale 2 or else at scale 1. -/
def Dev.labelFor (d : Dev) (area : List (Nat × Nat)) (v : Verdict) (why : Why) : Option Label :=
  let text := d.shortName v.vals.src ++ [0x20] ++ ageText v.shown.isSome v.age ++ [0x20] ++ [why.letter]
  let at_ := fun (k : Nat) => (placeBox area (8 * k * text.length + 8) (16 * k + 8)).map fun p => (⟨v.layer, p.1, p.2, k, text⟩ : Label)
  (at_ 2).or (at_ 1)

/-! ### The pixel path (07 Table 7.3) -/

/-- Three component codes. -/
structure Rgb where
  r : Nat
  g : Nat
  b : Nat
  deriving DecidableEq, Repr

/-- The same operation on each component, numbered 0 to 2. -/
def Rgb.map (f : Nat → Nat → Nat) (c : Rgb) : Rgb := ⟨f 0 c.r, f 1 c.g, f 2 c.b⟩

/-- Linear interpolation in a table of `n` entries with `k` low bits (07 R169): the division truncates toward zero. -/
def lutAt (e : Nat → Nat) (n k v : Nat) : Nat :=
  let i := v / 2 ^ k
  let f := v % 2 ^ k
  let next := if i + 1 < n then e (i + 1) else 65536
  ((e i : Int) + (((next : Int) - (e i : Int)) * (f : Int)).tdiv ((2 : Int) ^ k)).toNat

/-- Stage 3: the pre-blend table, or its bypass. -/
def preBlend (v : LayerVals) (c code : Nat) : Nat :=
  if bit v.cfg 33 then
    lutAt (fun i => match v.lut.find? (·.1 == c * 1024 + i) with
      | some e => e.2
      | none => Par.pltPreLut.resetVal i) 1024 2 code
  else code * 65535 / 4095

/-- Stage 4: the blend of the layers over black, bottom to top; the result is clamped (07 R168). -/
def blendPx (l : List (LayerVals × LayerPx)) : Rgb :=
  (l.foldl (fun (acc : Rgb) (v, px) =>
    let a := (px.alpha * v.galpha + 127) / 255
    let one := fun c code old =>
      let s := preBlend v c code
      if v.blend = 0 then s
      else if v.blend = 1 then (s * a + old * (255 - a) + 127) / 255
      else (s * v.galpha + 127) / 255 + (old * (255 - a) + 127) / 255
    (⟨one 0 px.r acc.r, one 1 px.g acc.g, one 2 px.b acc.b⟩ : Rgb)) (⟨0, 0, 0⟩ : Rgb)).map fun _ c => min 65535 c

/-- Stage 5: the post-blend table of the output owner. -/
def Dev.postBlend (d : Dev) (o : Nat) (p : Rgb) : Rgb :=
  if d.flagF .pltOutCfg o 27 then p.map fun c v => min 65535 (lutAt (fun i => d.getF .pltPostLut (12288 * o + 4096 * c + i)) 4096 4 v) else p

/-- Stage 8: dither to depth `dep` (07 R170); the sum is kept within the code range. -/
def ditherPx (mode dep frame x y : Nat) (p : Rgb) : Rgb :=
  let step := 2 ^ (16 - dep)
  let thr := match mode with
    | 0 => step / 2
    | 1 => Config.ditherOffset (x % 4) (y % 4) 0 % 16 * step / 16
    | _ => Config.ditherOffset ((x + frame) % 4) ((y + frame) % 4) 0 % 16 * step / 16
  p.map fun _ v => min (2 ^ dep - 1) ((v + thr) / step)

/-- A hachure stripe colour at a depth (02 R50, Table 2.9). -/
def stripe (dep x y : Nat) : Rgb :=
  let k := 2 ^ (dep - 6)
  if (x + y) % 16 < 8 then ⟨2 ^ dep - 1, 0x2C * k, 0⟩ else ⟨8 * k, 8 * k, 8 * k⟩

/-- `round(num / den)`, half away from zero. -/
def roundDiv (num den : Nat) : Nat := (2 * num + den) / (2 * den)

/-- Stage 9 (07 R171): BT.709 limited-range YCbCr at depth `dep`. A coefficient's k is a fraction n / m. -/
def toYcc (dep : Nat) (p : Rgb) : Rgb :=
  let full := 2 ^ dep - 1
  let coef := fun (n m gain : Nat) => ((roundDiv (n * gain * 2 ^ dep * 256) (m * full) : Nat) : Int)
  let yr := coef 2126 10000 219
  let yg := coef 7152 10000 219
  let yb := coef 722 10000 219
  let cbr := -coef 2126 18556 224
  let cbg := -coef 7152 18556 224
  let crg := -coef 7152 15748 224
  let crb := -coef 722 15748 224
  let one := fun (off : Nat) (a b c : Int) =>
    let v := (off : Int) + (a * (p.r : Int) + b * (p.g : Int) + c * (p.b : Int) + 32768) / 65536
    (max 0 (min (full : Int) v)).toNat
  ⟨one (2 ^ dep / 16) yr yg yb, one (2 ^ dep / 2) cbr cbg (-(cbr + cbg)), one (2 ^ dep / 2) (-(crg + crb)) crg crb⟩

/-! ### The cartouche (stage 7) -/

/-- The pixel-store or glyph address that a cartouche pixel reads, if the cartouche covers the pixel: the glyph cell lies above the notice, the
notice above every rectangle (07 R190, 17 R471). -/
def Dev.cartAddr (d : Dev) (o frame x y : Nat) : Option Nat :=
  let out := d.out o
  let ctl := d.cartCtl o out.cartBank
  let g := glyphRect ctl
  if g.has x y then
    some (cartSlot o + 0x6E000 + (bits ctl 30 30) * 0x4000 + frame % 16 * 0x400 + (y - bits ctl 47 32) * 32 + (x - bits ctl 63 48))
  else if out.noticeDrawn && noticeRect.has x y then some (cartSlot o + 0x77200 + y * 256 + x)
  else ((d.cartRects o out.cartBank).find? fun r => (cartRect r).has x y).map fun r => cartSlot o + r.2.2.2.2 + (y - r.2.1) * r.2.2.1 + (x - r.1)

/-- A 64-bit word of cartouche memory is uncorrectable (13 R350). -/
def Dev.cartWordBad (d : Dev) (a : Nat) : Bool := d.mem.cartBad.contains (a / 8 * 8)

/-- The codes of a cartouche pixel at depth `dep` (07 R189); an uncorrectable word is drawn in stripe colours. -/
def Dev.cartPx (d : Dev) (o dep a x y : Nat) : Rgb :=
  let lutA := cartSlot o + 0x76000 + (bits (d.cartCtl o (d.out o).cartBank) 31 31) * 0x800 + 8 * (d.peek a).toNat
  if d.cartWordBad a || d.cartWordBad lutA then stripe dep x y
  else
    let e := d.peekLe lutA 8
    ⟨bits e 35 24 / 2 ^ (12 - dep), bits e 23 12 / 2 ^ (12 - dep), bits e 11 0 / 2 ^ (12 - dep)⟩

/-! ### What each pixel and tile is composed of (07 R174, R175, R178, R179) -/

/-- The layers at a pixel from the top down, culled below the first opaque one. -/
def uncovered (x y : Nat) : List (Nat × LayerVals) → List (Nat × LayerVals)
  | [] => []
  | e :: r => if e.2.rect.has (x : Int) (y : Int) then (if e.2.opaque_ then [e] else e :: uncovered x y r) else uncovered x y r

/-- The pixels of a band, line by line. -/
def Dev.bandPoints (d : Dev) (o band : Nat) : List (Nat × Nat) :=
  let w := d.timing o
  (List.range (min 64 (tmVactive w - 64 * band))).flatMap fun j => (List.range (tmHactive w)).map fun i => (i, 64 * band + j)

/-- A layer's part of a pixel: its fill colour, its picture's code as fetched, or a bar where no picture pixel covers it. Sources, fills and YCbCr
buffers have no alpha of their own. -/
def Dev.layerPx (d : Dev) (n : Nat) (v : LayerVals) (p : Option BandPx) : LayerPx :=
  let bar : LayerPx := ⟨n, 0, 0, 0, if v.opaque_ then 255 else 0⟩
  if v.content = 2 then ⟨n, bits v.fill 35 24, bits v.fill 23 12, bits v.fill 11 0, 255⟩
  else if v.content = 0 ∧ !v.slice ∧ (d.layer n).pic.isNone then bar
  else
    match p.bind fun q => q.layers.find? (·.layer == n) with
    | none => bar
    | some q => if v.content = 1 ∧ bits v.buf 103 100 ≤ 1 then q else { q with alpha := 255 }

/-- A tile covers output pixels of a rectangle. -/
def tileRect (w band col : Nat) : Rect :=
  (⟨(256 * col : Nat), (64 * band : Nat), ((256 * col + 256 : Nat) : Int), ((64 * band + 64 : Nat) : Int)⟩ : Rect).inter (activeRect w)

/-- The layers that contribute pixels to a tile after culling, from top to bottom (07 R179, 02 R46). -/
def Dev.tileLayers (d : Dev) (o band col : Nat) : List Nat :=
  let ls := d.layersOn o
  let r := tileRect (d.timing o) band col
  let cover := d.cartCover o
  ((ls.filter fun e => (e.2.rect.inter r).sticksOut
    (cover ++ ((ls.filter fun f => decide (e.2.z < f.2.z) && f.2.opaque_).map (·.2.rect)))).map (·.1)).reverse

/-- A pixel as it is sent: cartouche, label, hachure, or the blend dithered; then the conversion of an output with YCC. `here` are the layers that
contribute to it, bottom to top. -/
def Dev.pixel (d : Dev) (o frame : Nat) (vs : List (Nat × List Verdict)) (labels : List Label) (x y : Nat) (here : List (LayerVals × LayerPx)) : Rgb :=
  let dep := d.depth o
  let tile := ((vs.find? (·.1 == x / 256)).map (·.2)).getD []
  let failing := tile.filter fun v => v.striped && here.any (·.2.layer == v.layer)
  let c :=
    match d.cartAddr o frame x y with
    | some a => d.cartPx o dep a x y
    | none =>
      match labels.find? fun l => l.has x y && failing.any (·.layer == l.layer) with
      | some l => if l.ink x y then ⟨2 ^ dep - 1, 2 ^ dep - 1, 2 ^ dep - 1⟩ else ⟨0, 0, 0⟩
      | none =>
        if !failing.isEmpty then stripe dep x y
        else ditherPx (d.fldF .pltOutCfg o 29 28) dep frame x y (d.postBlend o (blendPx here))
  if d.flagF .lnkDpCfg o 55 then toYcc dep c else c

/-- The bytes by which a pixel enters a check value (02 R54). -/
def Rgb.bytes (c : Rgb) : Bytes := u16 c.r ++ u16 c.g ++ u16 c.b

/-! ### Stale and fresh layers, late and failed fetches (02 R67, 07 R183) -/

/-- A layer begins to show hachure on an output. -/
def Dev.becomeStale (d : Dev) (o : Nat) (v : Verdict) (why : Why) : Dev :=
  if (d.layer v.layer).stale.any (·.1 == o) then d
  else
    let age := match v.age with
      | some a => min 0xFFFFFFFF (a / 100000)
      | none => 0xFFFFFFFF
    (d.modLayer v.layer fun l => { l with stale := (o, d.tim.elapsed) :: l.stale }).layerEvent o v.layer 0xE301
      (u8 why.letter ++ u8 v.vals.src ++ zeros 2 ++ u32 age) true

/-- A layer's hachure on an output ends. -/
def Dev.becomeFresh (d : Dev) (o n src : Nat) : Dev :=
  match (d.layer n).stale.find? (·.1 == o) with
  | none => d
  | some e =>
    (d.modLayer n fun l => { l with stale := l.stale.filter (·.1 != o) }).layerEvent o n 0xE302
      (u8 src ++ zeros 3 ++ u32 ((d.tim.elapsed - e.2) / 100000))

/-- The runs of late and of failed tiles of a layer (07 R183): an event at the first tile of each. -/
def Dev.fetchRuns (d : Dev) (o band : Nat) (t : TileIn) (n : Nat) : Dev :=
  let fail := (t.failed.find? (·.1 == n)).map (·.2)
  let late := fail = some .late
  let err := fail.isSome && fail ≠ some .late
  let l := d.layer n
  let data := u64 (d.out o).cp ++ u8 band
  let d := d.modLayer n fun l => { l with lateRun := late, errRun := err }
  let d := d.when (late && !l.lateRun) fun d => d.layerEvent o n 0xE304 data
  d.when (err && !l.errRun) fun d =>
    d.layerEvent o n 0xE305 (data ++ u8 (match fail with
      | some .defaultTarget => 1
      | some .poison => 2
      | _ => 0))

/-- The verdicts of a tile, from the top layer down. -/
def Dev.decideTile (d : Dev) (o band : Nat) (tRef : Ns) (t : TileIn) : List Verdict × Dev :=
  (d.tileLayers o band t.col).foldl (fun (l, d) n => let (v, d) := d.verdict o tRef t n; (l ++ [v], d)) (([] : List Verdict), d)

/-! ### The band -/

/-- A composed band (07 R163): decisions, summaries, labels, pixels, and the band check value formed over them (02 R54), which waits for
scan-out. -/
def Dev.composeBand (d : Dev) (o band : Nat) (tRef : Ns) (tiles : List TileIn) (px : List BandPx) : Dev :=
  let tiles := (List.range (d.cols o)).map fun c => (tiles.find? (·.col == c)).getD { col := c }
  let (vs, d) := tiles.foldl (fun (l, d) t => let (v, d) := d.decideTile o band tRef t; (l ++ [(t, v)], d)) (([] : List (TileIn × List Verdict)), d)
  let byCol := vs.map fun e => (e.1.col, e.2)
  -- runs of late and failed tiles, and their counters
  let d := d.each vs fun d e => d.each e.2 fun d v => d.fetchRuns o band e.1 v.layer
  let hit := fun (f : FetchFail → Bool) => (vs.filter fun e => e.1.failed.any fun x => f x.2 && e.2.any (·.layer == x.1)).length
  let d := (d.outCount o 3 (hit (· == .late))).outCount o 4 (hit (· != .late))
  -- stale and fresh layers
  let all := (vs.flatMap (·.2)).filter (·.vals.isLive)
  let names := (all.map (·.layer)).eraseDups
  let d := d.each names fun d n =>
    let mine := all.filter (·.layer == n)
    match mine.find? (·.why.isSome) with
    | some v => match v.why with
      | some y => d.becomeStale o v y
      | none => d
    | none => d.becomeFresh o n ((mine.head?.map (·.vals.src)).getD 0)
  -- labels: one for each hachured layer of the frame, in the first band that holds it
  let ls := (d.layersOn o).reverse
  let points := (d.bandPoints o band).map fun p => (p.1, p.2, (uncovered p.1 p.2 ls).reverse)
  let area := fun (n : Nat) => (points.filter fun p => p.2.2.any (·.1 == n) && (d.cartAddr o (d.out o).cp p.1 p.2.1).isNone &&
    ((byCol.find? (·.1 == p.1 / 256)).any fun e => e.2.any fun v => v.layer == n && v.why.isSome)).map fun p => (p.1, p.2.1)
  let labels := names.filterMap fun n =>
    if (d.out o).labelled.contains n then none
    else
      match all.find? fun v => v.layer == n && v.why.isSome with
      | some v => v.why.bind fun y => d.labelFor (area n) v y
      | none => none
  -- summaries
  let w := d.timing o
  let glyph := glyphRect (d.cartCtl o (d.out o).cartBank)
  let cover := d.cartCover o
  let newTiles := vs.map fun e =>
    let r := tileRect w band e.1.col
    (tileKey band e.1.col, ({ summary := summaryOf e.2 (cover.any r.meets) (glyph.meets r) d.epoch, expiry := d.expiryOf e.2 } : TileSt))
  -- pixels
  let codes : List (Nat × Nat × Rgb) := points.map fun p =>
    let q := px.find? fun q => q.x == p.1 && q.y == p.2.1
    (p.1, p.2.1, d.pixel o (d.out o).cp byCol labels p.1 p.2.1 (p.2.2.map fun e => (e.2, d.layerPx e.1 e.2 q)))
  let gl := (codes.filter fun e => glyph.has (e.1 : Int) (e.2.1 : Int)).flatMap fun e => e.2.2.bytes
  let expd := (List.range 16).map fun i => d.peekLe (cartSlot o + 0x77000 + 4 * i) 4
  d.modOut o fun x =>
    { x with
      tiles := newTiles.foldl (fun m e => smInsert m e.1 e.2) x.tiles
      labelled := labels.map (·.layer) ++ x.labelled
      bandsDone := band :: x.bandsDone.filter (· != band)
      bandCheck := smInsert x.bandCheck band (crc32c (codes.flatMap fun e => e.2.2.bytes))
      bandPx := smInsert x.bandPx band (codes.map fun e => ⟨e.1, e.2.1, e.2.2.r, e.2.2.g, e.2.2.b, (d.cartAddr o x.cp e.1 e.2.1).isSome⟩)
      glyphBytes := if gl.isEmpty then x.glyphBytes else smInsert x.glyphBytes band gl
      glyphExp := if gl.isEmpty then x.glyphExp else expd }

/-- BAND_COMPOSE: a band that no plate composes (a held or missed frame, SAFE, an output without composition), or that missed its deadline, is
left to the hold reader. -/
def bandComposeOp (o band : Nat) (tRef : Ns) (tiles : List TileIn) (px : List BandPx) (d : Dev) : Dev :=
  if d.composes o && d.plateComposes o && !(d.out o).barrierHold && !(d.out o).heldBands.contains band && decide (band < d.bands o) then d.composeBand o band tRef tiles px else d

/-! ### Commands -/

/-- Command BAND_COMPOSE. -/
def execBandCompose (out band : Nat) (tRef : Ns) (tiles : List TileIn) (px : List BandPx) (s : State) :
    Host.Outcome State Fault Refusal :=
  onDev (Instr.wellFormed (.bandCompose out band tRef tiles px)) (bandComposeOp out band tRef tiles px) s

end Sys2Proof.Machine
end

