-- ==== Sys2Proof/Machine/Encode.lean ====
section
/-!
DEFINITION. Encode engines and the witness recorder (08): placement, rate control, the records of an output and their chain, checkpoints,
acknowledgements and gaps.
-/

namespace Sys2Proof.Machine

/-! ### Streams and placement (08 R205) -/

/-- EN of a monitoring stream. -/
def Dev.monEn (d : Dev) (m : Nat) : Bool := d.flag .encMonCfg m 63

/-- A field of a rate-control set (08 Table 8.2): the set of a witness stream (`mon` false) or of a monitoring stream. -/
def Dev.rcField (d : Dev) (mon : Bool) (i k : Nat) : Nat := d.get (if mon then .encRc else .witRc) (6 * i + k)

/-- The size of an output's witness picture (08 R211): the largest of its aspect ratio within 1920 × 1080, in units of 16 × 8. -/
def witSize (w : Nat) : Nat × Nat :=
  let (h, v) := (tmHactive w, tmVactive w)
  if h = 0 ∨ v = 0 then (0, 0)
  else if h * 1080 ≤ v * 1920 then (min 1920 (h * 1080 / v) / 16 * 16, 1080)
  else (1920, min 1080 (v * 1920 / h) / 8 * 8)

/-- D of an output (08 R211): its frame rate over the witness rate, rounded up. -/
def Dev.witD (d : Dev) (o : Nat) : Nat :=
  let w := d.timing o
  let rate := if d.flag .witCfg o 60 then 30 else 60
  max 1 (ceilDiv (tmPclk w) (tmHtotal w * tmVtotal w * rate))

/-- The picture rate of a stream, in pictures per second. -/
def Dev.picFps (d : Dev) (mon : Bool) (i : Nat) : Rat :=
  if mon then (d.fld .encMonCfg i 29 23 : Nat)
  else
    let w := d.timing i
    ((tmPclk w : Nat) : Rat) / ((tmHtotal w * tmVtotal w * d.witD i : Nat) : Rat)

/-- The load of a stream in px/s. -/
def Dev.streamLoad (d : Dev) (mon : Bool) (i : Nat) : Nat :=
  if mon then d.fld .encMonCfg i 51 41 * 16 * (d.fld .encMonCfg i 40 30 * 8) * d.fld .encMonCfg i 29 23
  else
    let (w, h) := witSize (d.timing i)
    let t := d.timing i
    w * h * tmPclk t / (tmHtotal t * tmVtotal t * d.witD i)

/-- What one encode engine codes, in px/s (08 R201). -/
def encRate : Nat := 1000000000

/-- An encode engine can take streams. -/
def Dev.encUsable (d : Dev) (e : Nat) : Bool := d.present (13 + e) && !d.quarantined (9 + e) && !d.inReset (9 + e)

/-- A witness stream runs: the output composes and WIT.CFG has EN. -/
def Dev.witRuns (d : Dev) (o : Nat) : Bool := d.composes o && d.flag .witCfg o 63

/-- The owner of a monitoring stream, taken when its EN was set (08 R205, 10 R513). -/
def Dev.monOwner (d : Dev) (m : Nat) : Nat := (d.mon m).owner

/-- The engine for a stream of this load, given what the two engines carry: EN0 while it fits, then EN1. -/
def Dev.encFit (d : Dev) (used : Nat × Nat) (load : Nat) : Option Nat :=
  if d.encUsable 0 && decide (used.1 + load ≤ encRate) then some 0
  else if d.encUsable 1 && decide (used.2 + load ≤ encRate) then some 1
  else none

/-- A load added to an engine. -/
def addLoad (used : Nat × Nat) (e : Option Nat) (load : Nat) : Nat × Nat :=
  match e with
  | some 0 => (used.1 + load, used.2)
  | some _ => (used.1, used.2 + load)
  | none => used

/-- An event of a stream (08 R225): a witness stream is numbered by its output, a monitoring stream from 8 (notes/assumptions/17.md). -/
def Dev.streamEvent (d : Dev) (mon : Bool) (i code : Nat) (data : Bytes) : Dev :=
  if mon then d.raise (toOwnerMed (d.monOwner i)) { code, object := 8 + i, tenancy := d.monOwner i, data }
  else d.raise toPartners { code, object := i, out := i, data }

/-- A stream's engine after a placement, with ENC_PLACEMENT: moved, stopped or (for a stream that wants to start) not started. -/
def Dev.placeOne (d : Dev) (mon : Bool) (i : Nat) (want : Bool) (e : Option Nat) : Dev :=
  let rc := if mon then d.mon i else (d.wit i).rc
  let set := fun (d : Dev) (f : RcSt → RcSt) => if mon then d.modMon i f else d.modWit i fun w => { w with rc := f w.rc }
  if !want then (if rc.engine.isSome || rc.running then set d fun r => { r with engine := none, running := false } else d)
  else
    let d' := set d fun r =>
      if r.running && e.isSome then { r with engine := e }
      else { r with engine := e, running := e.isSome, started := false, idrDue := true, cyclePos := 0, sizes := [] }
    match rc.engine, e with
    | some a, some b => if a = b then d' else d'.streamEvent mon i 0xE501 (u8 b ++ u8 0)
    | some a, none => if mon then d'.streamEvent mon i 0xE501 (u8 a ++ u8 1) else d'
    | none, none => if mon && !rc.running then d'.streamEvent mon i 0xE501 (u8 0xFF ++ u8 2) else d'
    | none, some _ => d'

/-- Streams are placed: witness streams first in output order, then monitoring streams in index order on what remains; a witness stream that
fits no engine takes none only where no engine is usable. -/
def Dev.placeStreams (d : Dev) : Dev :=
  let (used, d) := outputNumbers.foldl (fun (used, d) o =>
    let want := d.witRuns o
    let load := d.streamLoad false o
    let e := if !want then none else (d.encFit used load).or (if d.encUsable 1 then some 1 else if d.encUsable 0 then some 0 else none)
    (addLoad used e load, d.placeOne false o want e)) ((0, 0), d)
  (outputNumbers.foldl (fun (used, d) m =>
    let want := d.monEn m
    let load := d.streamLoad true m
    let e := if want then d.encFit used load else none
    (addLoad used e load, d.placeOne true m want e)) (used, d)).2

/-! ### Rate control (08 R207 to R210) -/

/-- A rational truncated toward zero (08 R208: divisions truncate). -/
def trunc (q : Rat) : Int := q.num.tdiv q.den

/-- A configuration that R207 accepts: N coding blocks, N_r rows, at a picture rate. -/
def rcFits (mode rate cpb init n nr : Nat) (fps : Rat) : Bool :=
  mode == 2 ||
    (let r : Rat := ((rate * 1000 : Nat) : Rat) / fps
     let c : Rat := ((cpb * rate : Nat) : Rat)
     let i : Rat := ((init * rate : Nat) : Rat)
     decide (((2 * (32 * n + 256 * nr) : Nat) : Rat) ≤ r) && decide (4 * r ≤ c) && decide (r ≤ i) && decide (i ≤ c - r))

/-- What coding a picture yields: bits used, whether it is coarse, and whether a scheduled intra block was lost (08 R204). -/
structure Coding where
  used : Nat
  coarse : Bool
  lostIntra : Bool
  deriving DecidableEq, Repr

/-- The modes of R210. -/
inductive CodeMode where
  | normal | maxqp | skip
  deriving DecidableEq, Repr

/-- The blocks of a row (08 R210): bits so far, the mode, whether a scheduled intra block was coded as skip. `later` is the reserve of the rows
after it. -/
def codeBlocks (k cap later : Nat) : List (Nat × Nat × Nat × Bool) → CodeMode → Nat → Bool → CodeMode × Nat × Bool
  | [], m, used, lost => (m, used, lost)
  | (rc, qp51, skip, intra) :: bs, m, used, lost =>
    let trial := if m = .maxqp then qp51 else rc
    let m := if m ≠ .skip ∧ cap < used + trial + k * bs.length + later then .skip else m
    if m = .skip then codeBlocks k cap later bs m (used + skip) (lost || intra)
    else codeBlocks k cap later bs m (used + trial) lost

/-- The reserve of rows none of which is coded. -/
def rowsReserve (k : Nat) (rows : List CodedRow) : Nat := (rows.map fun r => k * r.blocks.length + 256).sum

/-- The rows of a picture against its cap (08 R210); `share` is the target share of a row. -/
def codeRows (k cap : Nat) (share : Int) : List CodedRow → CodeMode → Nat → Bool → CodeMode × Nat × Bool
  | [], m, used, lost => (m, used, lost)
  | r :: rows, m, used, lost =>
    let avail : Int := (cap : Int) - (used : Int) - (rowsReserve k (r :: rows) : Nat)
    let m := if m = .normal ∧ avail < ((rows.length + 1 : Nat) : Int) * share then .maxqp else m
    let (m, used, lost) := codeBlocks k cap (rowsReserve k rows) r.blocks m (used + r.header) lost
    codeRows k cap share rows m used lost

/-- A picture coded at this cap and target (08 R210): K is 32 bits in an IDR picture, 16 in a P picture. -/
def codePicture (idr : Bool) (cap : Nat) (target : Rat) (rows : List CodedRow) : Coding :=
  let share := trunc (target / ((max 1 rows.length : Nat) : Rat))
  let (m, used, lost) := codeRows (if idr then 32 else 16) cap share rows .normal 0 false
  { used, coarse := m ≠ .normal, lostIntra := lost && !idr }

/-- The rate-control state before a picture: started at INIT (08 R208). -/
def Dev.rcStart (d : Dev) (mon : Bool) (i : Nat) (r : RcSt) : RcSt :=
  if r.started then r
  else { r with started := true, full := ((d.rcField mon i 3 * d.rcField mon i 1 : Nat) : Rat), idrDue := true, cyclePos := 0, sizes := [] }

/-- A picture is coded against its cap, and the state follows (08 R208 to R210). The target of CQ mode is not stated: it is left open. -/
def Dev.codeStream (d : Dev) (mon : Bool) (i : Nat) (rows : List CodedRow) : Coding × RcSt × Dev :=
  let rc := d.rcStart mon i (if mon then d.mon i else (d.wit i).rc)
  let rate := d.rcField mon i 1
  let fps := d.picFps mon i
  let r : Rat := ((rate * 1000 : Nat) : Rat) / fps
  let cpb : Rat := ((d.rcField mon i 2 * rate : Nat) : Rat)
  let init : Rat := ((d.rcField mon i 3 * rate : Nat) : Rat)
  let n := (rows.map (·.blocks.length)).sum
  let (open_, d) := d.fresh
  let cq := d.rcField mon i 0 = 2
  let cap : Rat :=
    if cq then
      let p := d.fld .encMonCfg i 29 23
      let w := (rc.sizes.take (p - 1)).sum
      let c := min ((rate * 1000 : Nat) : Int) ((4 * rate * 1000 / max 1 p : Nat) : Int)
      let c := min ((rate * 1000 : Nat) - (w : Int)) c
      ((max c ((32 * n + 256 * rows.length : Nat) : Int) : Int) : Rat)
    else rc.full
  let target : Rat :=
    if cq then ((open_ : Nat) : Rat)
    else
      let t := r + ((trunc ((rc.full - init) / 8) : Int) : Rat)
      max ((trunc (cap / 8) : Int) : Rat) (min ((trunc (cap / 2) : Int) : Rat) t)
  let c := codePicture rc.idrDue cap.floor.toNat target rows
  let full := rc.full - ((c.used : Nat) : Rat)
  let filler : Nat :=
    if d.rcField mon i 0 = 0 ∧ cpb < full + r then ((((full + r - cpb) / 8).ceil.toNat) * 8) else 0
  let full := min cpb (full - ((filler : Nat) : Rat) + r)
  let pics := max 1 (d.rcField mon i 5)
  let rc := { rc with
    full := if cq then rc.full else full
    sizes := ((c.used + filler) :: rc.sizes).take 60
    cyclePos := if rc.idrDue then 0 else if c.lostIntra then 0 else (rc.cyclePos + 1) % pics
    idrDue := false, coarseRun := c.coarse }
  ({ c with used := c.used + filler }, rc, d)

/-! ### Sending (08 R218, 14 R373) -/

/-- A packet of an output's video or metadata stream goes to its recorder, where there is one. -/
def Dev.witTx (d : Dev) (o : Nat) (video : Bool) (x : Out) : Dev :=
  d.when (d.get .witDst o != 0) fun d => d.ipTx (d.fld .witCfg o 59 57) (d.flag .witCfg o 56) (d.get .witDst o) (if video then 3 else 2) x

/-- A picture of a monitoring stream goes to its destination; ENC.MON_CFG has no IPV6 bit, so the address's size tells. -/
def Dev.monTx (d : Dev) (m : Nat) (x : Out) : Dev :=
  d.when (d.get .encDst m != 0) fun d => d.ipTx (d.fld .encMonCfg m 22 20) (decide (2 ^ 32 ≤ d.get .encDst m)) (d.get .encDst m) 4 x

/-! ### Records (08 R213 to R217) -/

/-- A witness counter WIT.STAT[o][k] (08 Table 8.12). -/
def Dev.witCount (d : Dev) (o k : Nat) (by_ : Nat := 1) : Dev := d.count2 .witStat o k by_

/-- A section with its header, padded to 4 bytes. -/
def section_ (s : Nat × Bytes) : Bytes := u8 s.1 ++ u8 0 ++ u16 s.2.length ++ padTo (ceilDiv s.2.length 4 * 4) s.2

/-- The bytes of a record up to the end of its last section (08 Table 8.7). -/
def recordHead (o type wlevel seg rseq frame : Nat) (ref : Ns) (flags epoch : Nat) (sections : List (Nat × Bytes)) (prev au : Bytes) : Bytes :=
  let body := sections.flatMap section_
  let len := 136 + body.length + 48 + (if bit flags 15 then 96 else 0)
  u32 0x3152574B ++ u8 1 ++ u8 type ++ u8 o ++ u8 wlevel ++ u32 seg ++ u32 rseq ++ u64 frame ++ tm ref ++ u16 flags ++ u8 (epoch % 16)
    ++ u8 sections.length ++ u32 len ++ padTo 48 prev ++ padTo 48 au ++ body

/-- A record is made and chained (08 R215): it takes the given RSEQ; an unsigned one is sent, a signed one waits for its signature. -/
def Dev.putRecord (d : Dev) (o type wlevel rseq frame : Nat) (ref : Ns) (flags epoch : Nat) (sections : List (Nat × Bytes)) (au : Bytes)
    (prev : Bytes) : Dev :=
  let w := d.wit o
  let head := recordHead o type wlevel w.segment rseq frame ref flags epoch sections prev au
  let chain := padTo 48 (Config.sha384 head)
  let signed := bit flags 15
  let keep := d.get .witMetaRetainS o * 1000000000
  let r : WRec := { rseq, type, bytes := head ++ chain, chain, signed, sent := !signed, au := bit flags 14, at_ := d.tim.elapsed }
  let d := d.modWit o fun w =>
    { w with rseq, chain, recs := (w.recs.filter fun r => decide (d.tim.elapsed ≤ r.at_ + keep)) ++ [r],
             chainLog := ((rseq, chain) :: w.chainLog).take (2 ^ 20),
             ckptPending := if bit flags 7 then some { segment := w.segment, rseq, chain } else w.ckptPending }
  d.when (!signed) fun d => d.witTx o false (.record o (d.wit o).segment rseq false)

/-- The newer valid copy of an output's checkpoint slot. -/
def Wit.newest (w : Wit) : Option Ckpt :=
  match w.slotA, w.slotB with
  | some a, some b => some (if a.segment < b.segment ∨ (a.segment = b.segment ∧ a.rseq < b.rseq) then b else a)
  | some a, none => some a
  | none, b => b

/-- A segment begins with its START record (08 R217). -/
def Dev.startSegment (d : Dev) (o : Nat) : Dev :=
  let ck := (d.wit o).newest
  let seg := match ck with
    | some c => c.segment + 1
    | none => 0
  let prev := match ck with
    | some c => c.chain
    | none => zeros 48
  let body := padTo 48 (Config.sha384 Config.idPublicKey) ++ u32 ((ck.map (·.segment)).getD 0) ++ u32 ((ck.map (·.rseq)).getD 0)
    ++ u32 d.rstCause ++ u32 d.sec.running.release
  let d := d.modWit o fun w => { w with started := true, segment := seg, recs := [], chainLog := [], gapped := [] }
  d.putRecord o 3 0 0 0 d.now 0x8000 d.epoch [(9, body)] [] prev

/-- The next record of the live chain; a segment that would pass RSEQ 0xFFFF_FFFF is followed by another. -/
def Dev.chainRecord (d : Dev) (o type wlevel frame : Nat) (ref : Ns) (flags epoch : Nat) (sections : List (Nat × Bytes)) (au : Bytes) : Dev :=
  let d := if (d.wit o).started && decide ((d.wit o).rseq < 0xFFFFFFFF) then d else d.startSegment o
  let w := d.wit o
  d.putRecord o type wlevel (w.rseq + 1) frame ref flags epoch sections au w.chain

/-- An EVENT record (08 Table 8.9); what its 32 bytes of payload hold is not stated. Codes: 1 OUTPUT_OFF, 2 OUTPUT_ON, 3 RECORDER_LOST,
4 RECORDER_BACK, 5 WITNESS_CONFIG. -/
def Dev.eventRecord (d : Dev) (o code : Nat) : Dev :=
  let (pay, d) := d.freshBytes 32
  d.chainRecord o 4 0 0 d.now 0x8000 d.epoch [(8, u16 code ++ zeros 2 ++ pay)] []

/-- The recorder of an output is found lost (08 R220). -/
def Dev.recorderLost (d : Dev) (o : Nat) : Dev :=
  if (d.wit o).lost then d
  else
    let d := (d.modWit o fun w => { w with lost := true }).eventRecord o 3
    d.raise toPartners { code := 0xE503, object := o, out := o, data := u32 (d.wit o).lastAck }

/-- The recorder of an output records: its START where it first starts, OUTPUT_ON before the first FRAME record (08 R217, R223). -/
def Dev.recorderOn (d : Dev) (o : Nat) : Dev :=
  if (d.wit o).on then d
  else
    let d := if (d.wit o).started then d else d.startSegment o
    let d := (d.modWit o fun w => { w with on := true }).eventRecord o 2
    d.when (d.get .witDst o == 0) fun d => d.recorderLost o

/-- The output goes off (08 R223, 07 R191): OUTPUT_OFF, and FRAME records stop. -/
def Dev.recorderOff (d : Dev) (o : Nat) : Dev :=
  if (d.wit o).on then (d.modWit o fun w => { w with on := false }).eventRecord o 1 else d

/-- The witness level of the frame that has left (02 R59). -/
def Dev.witLevel (d : Dev) (o : Nat) : Nat :=
  let x := d.out o
  if d.flag .datGlyphEn o 0 && x.glyphOk then (if x.sinkOk && d.flag .datSinkCrcEn o 0 && (d.dp o).up then 3 else 2) else 1

/-- The summaries of an output in raster order. -/
def Dev.rasterTiles (d : Dev) (o : Nat) : List Nat :=
  let ts := (d.out o).witnessTiles
  (List.range (d.bands o)).flatMap fun b => (List.range (d.cols o)).map fun c => (smGet {} ts (tileKey b c)).summary

/-- Bits packed into bytes, bit 0 of byte 0 first. -/
def packBits (l : List Bool) : Bytes :=
  (List.range (ceilDiv l.length 8)).map fun i => BitVec.ofNat 8 ((List.range 8).map fun j => (l.getD (8 * i + j) false).toNat * 2 ^ j).sum

/-- HACH_N > 0 or reason H in a summary. -/
def summaryHach (s : Nat) : Bool := bits s 26 22 != 0 || bit s 17

/-- The LAYERS section (08 Table 8.9). -/
def Dev.layersSection (d : Dev) (o : Nat) : Bytes :=
  (d.layersOn o).flatMap fun (n, v) =>
    u8 n ++ u8 v.z ++ u8 v.src ++ u8 (d.srcGen v.src) ++ u8 v.owner ++ u8 v.content ++ zeros 2 ++ u32 v.live

/-- The STEP section: the steps since the previous FRAME record. -/
def Dev.stepSection (d : Dev) (o : Nat) : Bytes :=
  ((d.tim.log.take (d.out o).stepsSeen).reverse).flatMap fun e => s64 e.size ++ u8 e.epoch ++ zeros 7

/-- A pending FRAME record that has all it waits for is chained: with its access unit and COARSE, or with a GAPCODE (08 R211, R216, R222). -/
def Dev.chainPend (d : Dev) (o : Nat) (p : WPend) (coded : Option (Bytes × Bool)) : Dev :=
  let ckpt := p.frame % max 1 (d.fld .witCfg o 39 30) = 0
  let sign := ckpt || p.gapCode != 0
  let flags := p.flags ||| taintIf sign 0x8000 ||| taintIf ckpt 0x80 ||| p.gapCode % 16
    ||| (match coded with
      | some (_, coarse) => 0x4000 ||| taintIf coarse 0x2000
      | none => 0)
  let au := match coded with
    | some (b, _) => Config.sha384 b
    | none => []
  let d := d.chainRecord o 1 p.wlevel p.frame p.ref flags p.epoch p.sections au
  let d := d.witCount o 0
  if p.gapCode = 0 then (if coded.isSome then d.modWit o fun w => { w with gapRun := false } else d)
  else
    let run := (d.wit o).gapRun
    let d := (d.witCount o 3).modWit o fun w => { w with gapRun := true }
    d.when (!run) fun d => d.raise toPartners { code := 0xE502, object := o, out := o, data := u64 p.frame ++ u8 p.gapCode }

/-- Pending FRAME records are chained in order as far as none of them waits for a picture; `fuel` bounds them. -/
def Dev.flushPend : Nat → Nat → Dev → Dev
  | 0, _, d => d
  | fuel + 1, o, d =>
    match (d.wit o).pend with
    | [] => d
    | p :: rest =>
      if p.due && p.gapCode == 0 then d
      else Dev.flushPend fuel o ((d.modWit o fun w => { w with pend := rest }).chainPend o p none)

/-- Every pending record that can be chained is. -/
def Dev.flush (d : Dev) (o : Nat) : Dev := Dev.flushPend ((d.wit o).pend.length + 1) o d

/-- The FRAME record of the frame that has left an output (08 R211, R214). It waits for its picture where one is due. -/
def Dev.frameRecord (d : Dev) (o : Nat) (ref : Ns) : Dev :=
  if !(d.flag .witCfg o 63) || d.rst.maintenance || (d.out o).offCause || (d.out o).witnessBands.isEmpty then d
  else
    let d := d.recorderOn o
    let x := d.out o
    let bands := (List.range (d.bands o)).flatMap fun b => u32 (smGet 0 x.witnessBands b)
    let ts := d.rasterTiles o
    let ckpt := x.frame % max 1 (d.fld .witCfg o 39 30) = 0
    let secs := [(1, bands), (2, u16 (d.cols o) ++ u16 (d.bands o) ++ ts.flatMap u64), (3, packBits (ts.map summaryHach))]
    let secs := if ckpt || x.curCommit then secs ++ [(4, d.layersSection o)] else secs
    let secs := if 0 < x.stepsSeen then secs ++ [(5, d.stepSection o)] else secs
    let secs := match x.sinkResult with
      | some (s, p, ok) => secs ++ [(6, s.flatMap u16 ++ p.flatMap u16 ++ u8 ok.toNat ++ zeros 3)]
      | none => secs
    let glyphOk := d.flag .datGlyphEn o 0 && x.glyphOk && !(x.witnessHeld && decide (2 ≤ x.heldRun))
    let flags := taintIf x.witnessHeld 0x1000 ||| taintIf (decide (0 < x.stepsSeen)) 0x800 ||| taintIf (ckpt || x.curCommit) 0x400
      ||| taintIf x.curCommit 0x200 ||| taintIf x.curCart 0x100 ||| taintIf glyphOk 0x40 ||| taintIf x.sinkOk 0x20
      ||| taintIf (d.tim.st = .holdover || d.tim.st = .slewing) 0x10
    let noEngine := !(d.encUsable 0) && !(d.encUsable 1)
    let due := x.frame % d.witD o = 0 && (d.wit o).rc.running
    let p : WPend := { frame := x.frame, ref, flags, wlevel := d.witLevel o, epoch := d.epoch, sections := secs, due,
                       gapCode := if noEngine then 3 else 0 }
    let d := d.modOut o fun x => { x with stepsSeen := 0, sinkResult := none }
    (d.modWit o fun w => { w with pend := w.pend ++ [p] }).flush o

/-! ### What the engines and the recorder's timers do -/

/-- A witness picture is coded (08 R210): the record of its frame carries it. -/
def witPictureOp (o : Nat) (rows : List CodedRow) (au : Bytes) (d : Dev) : Dev :=
  match (d.wit o).pend with
  | [] => d
  | p :: rest =>
    if !p.due || p.gapCode != 0 then d
    else
      let was := (d.wit o).rc.coarseRun
      let (c, rc, d) := d.codeStream false o rows
      let d := d.modWit o fun w => { w with pend := rest, rc }
      let d := (d.witCount o 1).witCount o 2 c.coarse.toNat
      let d := d.when (c.coarse && !was) fun d => d.streamEvent false o 0xE500 (u64 p.frame)
      ((d.chainPend o p (some (au, c.coarse))).witTx o true (.picture o false c.used)).flush o

/-- A witness picture is given up (08 R222), with its cause. -/
def witNotCodedOp (o cause : Nat) (d : Dev) : Dev :=
  match (d.wit o).pend with
  | [] => d
  | p :: rest =>
    if !p.due || cause % 16 = 0 then d
    else (d.modWit o fun w => { w with pend := { p with gapCode := cause % 16 } :: rest }).flush o

/-- A monitoring picture is coded (08 R206, R210): of a composed frame, or of the source's current picture. -/
def monPictureOp (m : Nat) (rows : List CodedRow) (d : Dev) : Dev :=
  let rc := d.mon m
  if !(d.monEn m && rc.running) then d
  else
    let was := rc.coarseRun
    let i := d.fld .encMonCfg m 61 54
    let (c, rc, d) := d.codeStream true m rows
    let seq := if d.flag .encMonCfg m 62 then (d.dec i).lastOut.map fun (p : Pic) => p.stamp.seq else none
    let rc := if seq ≠ rc.lastSeq then { rc with hbCounter := rc.hbCounter + 1, lastSeq := seq } else rc
    let d := d.setMon m rc
    let d := d.when (c.coarse && !was) fun d => d.streamEvent true m 0xE500 (u64 (if d.flag .encMonCfg m 62 then seq.getD 0 else (d.out i).frame))
    d.monTx m (.picture m true c.used)

/-- The heartbeat counters of the monitoring streams of an output advance with each composed frame (08 R206). -/
def Dev.monFrame (d : Dev) (o : Nat) : Dev :=
  d.each outputNumbers fun d m =>
    if d.monEn m && !d.flag .encMonCfg m 62 && d.fld .encMonCfg m 61 54 == o then d.modMon m fun r => { r with hbCounter := r.hbCounter + 1 } else d

/-- The command pair writes a checkpoint that waits into the copy of the slot that was written less recently (08 R216). -/
def ckptWriteOp (o : Nat) (d : Dev) : Dev :=
  d.modWit o fun w =>
    match w.ckptPending with
    | none => w
    | some c => if w.writeB then { w with slotB := some c, writeB := false, ckptPending := none }
        else { w with slotA := some c, writeB := true, ckptPending := none }

/-- A signature is done (08 R216): the record is sent. -/
def recSignedOp (o rseq : Nat) (d : Dev) : Dev :=
  match (d.wit o).recs.find? fun r => r.rseq == rseq && r.signed && !r.sent with
  | none => d
  | some r =>
    let r := { r with sent := true, bytes := r.bytes ++ padTo 96 (Config.ecdsaSign 0 r.chain) }
    (d.modWit o fun w => { w with recs := w.recs.map fun x => if x.rseq == rseq then r else x }).witTx o false (.record o (d.wit o).segment rseq true)

/-- No acknowledgement for ACK_TIMEOUT_MS (08 R220). -/
def ackTimeoutOp (o : Nat) (d : Dev) : Dev := if (d.wit o).started then d.recorderLost o else d

/-! ### Acknowledgements (08 R219 to R221) -/

/-- The bytes of an acknowledgement before its MAC (08 Table 8.10). -/
def ackBytes (a : WitnessAck) : Bytes :=
  u32 0x314B4341 ++ u8 a.out ++ u8 a.ranges.length ++ zeros 2 ++ u32 a.segment ++ u32 a.highest
    ++ a.ranges.flatMap fun r => u32 r.1 ++ u16 r.2.1 ++ u8 r.2.2 ++ zeros 1

/-- One listed record: resent as far as it is retained; the answer is the kind lost, 0 where none is (08 R220, R221). -/
def Dev.resend (d : Dev) (o rseq kind : Nat) : Nat × Dev :=
  match (d.wit o).recs.find? (·.rseq == rseq) with
  | none => (if bit kind 0 then 1 else if bit kind 1 then 2 else 0, d)
  | some r =>
    let d := if bit kind 0 && r.sent then (d.witCount o 4).witTx o false (.record o (d.wit o).segment rseq r.signed) else d
    if bit kind 1 && r.au then
      if decide (d.tim.elapsed ≤ r.at_ + d.get .witVideoRetainS o * 1000000000) then (0, (d.witCount o 5).witTx o true (.picture o false 0)) else (2, d)
    else (0, d)

/-- A lost record joins the run before it where it follows it with the same kind. -/
def joinRun (runs : List (Nat × Nat × Nat)) (rseq kind : Nat) : List (Nat × Nat × Nat) :=
  match runs.getLast? with
  | some (f, l, k) => if l + 1 = rseq ∧ k = kind then runs.dropLast ++ [(f, rseq, k)] else runs ++ [(rseq, rseq, kind)]
  | none => [(rseq, rseq, kind)]

/-- A signed GAP record names a lost range (08 R221); without both bridge values in the chain log, BRIDGE is 0. -/
def Dev.gapRecord (d : Dev) (o first last kind : Nat) : Dev :=
  let w := d.wit o
  let h := fun (r : Nat) => (w.chainLog.find? (·.1 == r)).map (·.2)
  let (bridge, a, b) : Nat × Bytes × Bytes :=
    match (if first = 0 then none else h (first - 1)), h last with
    | some x, some y => (1, x, y)
    | _, _ => (0, zeros 48, zeros 48)
  let body := u8 kind ++ u8 bridge ++ zeros 2 ++ u32 w.segment ++ u32 first ++ u32 last ++ padTo 48 a ++ padTo 48 b
  let d := (d.chainRecord o 2 0 0 d.now 0x8000 d.epoch [(7, body)] []).witCount o 6
  let d := d.modWit o fun w => { w with gapped := ((List.range (last + 1 - first)).map fun i => (first + i, kind)) ++ w.gapped }
  d.raise toPartners { code := 0xE505, object := o, out := o, data := u8 kind ++ u8 bridge ++ zeros 2 ++ u32 first ++ u32 last }

/-- A datagram for a recorder's acknowledgement port on an Ethernet port (08 R219); while WIT.DST is 0 the recorder stays lost (R220). -/
def witAckOp (port udp : Nat) (a : WitnessAck) (d : Dev) : Dev :=
  let here := outputNumbers.filter fun o => d.fld .witCfg o 59 57 == port && d.get .witAckPort o == udp
  match here with
  | [] => d
  | first :: _ =>
    let o := a.out
    if !here.contains o then d.witCount first 7
    else
      let w := d.wit o
      if a.mac != ((Config.hmacSha256 (leBytes 32 (d.get .witAckKey o)) (ackBytes a)).take 16) ∨ 16 < a.ranges.length ∨ !w.started
          ∨ a.segment ≠ w.segment then d.witCount o 7
      else
        let was := w.lost && d.get .witDst o != 0
        let d := d.modWit o fun w => { w with lost := w.lost && !was, lastAck := a.highest }
        let d := d.when was fun d =>
          (d.eventRecord o 4).raise toPartners { code := 0xE504, object := o, out := o, data := u32 a.highest }
        let listed := sortOn (·.1) ((a.ranges.flatMap fun r => (List.range r.2.1).map fun i => (r.1 + i, r.2.2)).filter fun x => decide (x.1 ≤ w.rseq))
        let (runs, d) := listed.foldl (fun (runs, d) x =>
          let (k, d) := d.resend o x.1 x.2
          if k = 0 ∨ (d.wit o).gapped.contains (x.1, k) then (runs, d) else (joinRun runs x.1 k, d)) (([] : List (Nat × Nat × Nat)), d)
        d.each runs fun d r => d.gapRecord o r.1 r.2.1 r.2.2

/-- WITNESS_QUERY: the last checkpoint of an output and whether its recorder is lost. -/
def witnessQueryOp (c : Ctx) (o : Nat) (d : Dev) : Answer :=
  checked [(!c.partner, stNotPermitted), (decide (8 ≤ o), stBadParam)] d fun d =>
    let w := d.wit o
    let ck := w.newest
    (some (rRead (u32 ((ck.map (·.segment)).getD 0) ++ u32 ((ck.map (·.rseq)).getD 0) ++ padTo 48 ((ck.map (·.chain)).getD [])
      ++ u8 w.lost.toNat)), d)

/-! ### Commands -/

/-- Command CHECKPOINT_WRITE. -/
def execCheckpointWrite (out : Nat) (s : State) : Host.Outcome State Fault Refusal :=
  onDev (Instr.wellFormed (.checkpointWrite out)) (ckptWriteOp out) s

/-- Command RECORD_SIGNED. -/
def execRecordSigned (out rseq : Nat) (s : State) : Host.Outcome State Fault Refusal :=
  onDev (Instr.wellFormed (.recordSigned out rseq)) (recSignedOp out rseq) s

/-- Command WITNESS_PICTURE_CODED. -/
def execWitnessPictureCoded (out : Nat) (rows : List CodedRow) (au : Bytes) (s : State) : Host.Outcome State Fault Refusal :=
  onDev (Instr.wellFormed (.witnessPictureCoded out rows au)) (witPictureOp out rows au) s

/-- Command WITNESS_NOT_CODED. -/
def execWitnessNotCoded (out cause : Nat) (s : State) : Host.Outcome State Fault Refusal :=
  onDev (Instr.wellFormed (.witnessNotCoded out cause)) (witNotCodedOp out cause) s

/-- Command MONITOR_PICTURE_CODED. -/
def execMonitorPictureCoded (stream : Nat) (rows : List CodedRow) (s : State) : Host.Outcome State Fault Refusal :=
  onDev (Instr.wellFormed (.monitorPictureCoded stream rows)) (monPictureOp stream rows) s

/-- Command WITNESS_ACK_TIMEOUT. -/
def execWitnessAckTimeout (out : Nat) (s : State) : Host.Outcome State Fault Refusal :=
  onDev (Instr.wellFormed (.witnessAckTimeout out)) (ackTimeoutOp out) s

end Sys2Proof.Machine
end

