-- ==== Sys2Proof/Machine/Commit.lean ====
section
/-!
DEFINITION. Commits (07 R172 to R191): what LAYER_COMMIT carries and its checks, how an armed commit applies on an output, the cartouche
opcodes, and what a commit point selects.
-/

namespace Sys2Proof.Machine

/-! ### Links of outputs (14 R392, R397) -/

/-- LINK_STATE (14 R397): a link is gained or lost. -/
def Dev.linkEvent (d : Dev) (link rate lanes : Nat) (on : Bool) : Dev :=
  d.raise toPartners { code := 0xEE0A, object := link, data := u8 rate ++ u8 lanes, on }

/-- The DisplayPort link of an output goes down. -/
def Dev.dpDown (d : Dev) (o : Nat) : Dev :=
  let l := d.dp o
  let d := d.setDp o { l with up := false, training := false }
  d.when l.up fun d => d.linkEvent (12 + o) l.rate l.lanes false

/-- The link of an output trains, where it is enabled and its HPD is asserted (14 R392, R393). -/
def Dev.dpTrain (d : Dev) (o : Nat) : Dev :=
  let d := d.dpDown o
  if d.flagF .lnkDpCfg o 63 && (d.dp o).hpd then d.modDp o fun l => { l with training := true } else d

/-! ### Outputs as a commit carries them -/

/-- The values of an output in its shadow copy. -/
def Dev.outSh (d : Dev) (o : Nat) : OutVals :=
  { cfg := d.get .pltOutCfg o, dpCfg := d.get .lnkDpCfg o, timing := d.get .lnkDpTiming o, lut := d.listed .pltPostLut false (12288 * o) 12288 }

/-- The values of an output in force. -/
def Dev.outF (d : Dev) (o : Nat) : OutVals :=
  { cfg := d.getF .pltOutCfg o, dpCfg := d.getF .lnkDpCfg o, timing := d.getF .lnkDpTiming o, lut := d.listed .pltPostLut true (12288 * o) 12288 }

/-- The values of an output put in force. -/
def Dev.putOut (d : Dev) (o : Nat) (v : OutVals) : Dev :=
  (((d.putF .pltOutCfg o v.cfg).putF .lnkDpCfg o v.dpCfg).putF .lnkDpTiming o v.timing).putList .pltPostLut (12288 * o) 12288 v.lut

/-- EN of PLT.OUT_CFG. -/
def OutVals.en (v : OutVals) : Bool := bit v.cfg 31
/-- LINK_EN. -/
def OutVals.link (v : OutVals) : Bool := bit v.dpCfg 63
/-- Composition or the link is enabled (07 R181, 01 R11). -/
def OutVals.live (v : OutVals) : Bool := v.en || v.link

/-- What a commit carries. -/
structure Plan where
  mask : Nat
  outs : List (Nat × OutVals)
  layers : List (Nat × LayerVals)
  deriving DecidableEq, Repr

/-- The outputs of a mask. -/
def outsOf (mask : Nat) : List Nat := outputNumbers.filter (bit mask)

/-- What a LAYER_COMMIT carries (07 R180): from a mediator (`all`) everything, from any other issuer what it owns. -/
def Dev.plan (d : Dev) (mask : Nat) (all : Bool) (ten : Nat) : Plan :=
  { mask
    outs := ((outsOf mask).filter fun o => all || d.outOwner o == ten).map fun o => (o, d.outSh o)
    layers := (layerNumbers.map fun n => (n, d.layerSh n)).filter fun e =>
      (bit mask e.2.out || bit mask (d.layerF e.1).out) && (all || e.2.owner == ten) }

/-- An output after the commit. -/
def Dev.outAfter (d : Dev) (p : Plan) (o : Nat) : OutVals :=
  match p.outs.find? (·.1 == o) with
  | some e => e.2
  | none => d.outF o

/-- A layer after the commit. -/
def Dev.layerAfter (d : Dev) (p : Plan) (n : Nat) : LayerVals :=
  match p.layers.find? (·.1 == n) with
  | some e => e.2
  | none => d.layerF n

/-- The enabled layers of the device after the commit. -/
def Dev.layersAfter (d : Dev) (p : Plan) : List (Nat × LayerVals) :=
  (layerNumbers.map fun n => (n, d.layerAfter p n)).filter fun e => e.2.en

/-! ### Checks of Table 7.7 -/

/-- The bytes of a buffer and its least line (07 Table 7.6): FORMAT, WIDTH, HEIGHT and STRIDE in range, or none. -/
def bufExtent (w : Nat) : Option Nat :=
  let f := bits w 103 100
  let wd := bits w 83 68
  let h := bits w 99 84
  let s := bits w 67 48
  let line := if f ≤ 1 then 4 * wd else if f = 2 then wd else 2 * wd
  if f ≤ 3 ∧ 1 ≤ wd ∧ wd ≤ 8192 ∧ 1 ≤ h ∧ h ≤ 8192 ∧ line ≤ s then some (if f ≤ 1 then s * h else s * h * 3 / 2) else none

/-- A layer lies in its owner's windows (07 Table 7.7, 11 R292): a tenancy's in its ZWIN of a granted output, one of owner 0 in no tenancy's
window. -/
def Dev.inWindow (d : Dev) (v : LayerVals) : Bool :=
  let within := fun (n : Nat) => d.outGranted n v.out && decide ((d.zwin n v.out).1 ≤ v.z ∧ v.z ≤ (d.zwin n v.out).2)
  if v.owner = 0 then !tenNumbers.any within else within v.owner

/-- A layer's source may be shown by its owner. -/
def Dev.mayShow (d : Dev) (v : LayerVals) : Bool :=
  !v.showsSource || d.srcOwner v.src == v.owner || (decide (v.owner ≠ 0) && d.srcGranted v.owner v.src)

/-- A buffer lies in its owner's colour. -/
def Dev.bufOwned (d : Dev) (v : LayerVals) : Bool :=
  v.content != 1 || (match bufExtent v.buf with
    | some n => d.allTagged (bits v.buf 47 0) n (d.ownerColour v.owner)
    | none => true)

/-- The liveness rules of 02 R34 and 07 R174. -/
def LayerVals.liveOk (v : LayerVals) : Bool :=
  !v.isLive || (v.content == 0 && v.minProof != 0 && decide (bits v.live 12 0 ≤ 5000)
    && decide ((if v.slice then 2 else 20) ≤ bits v.live 12 0))

/-- The crop rectangle of a layer, clipped to a picture of this size: its width and height (07 R175). -/
def LayerVals.cropSize (v : LayerVals) (size : Nat × Nat) : Nat × Nat :=
  if bits v.crop 31 16 = 0 then size
  else (min (bits v.crop 63 48 + bits v.crop 31 16) size.1 - bits v.crop 63 48, min (bits v.crop 47 32 + bits v.crop 15 0) size.2 - bits v.crop 47 32)

/-- The scale factors of a layer in 1/65536, for a picture of this size; none where the crop holds no pixel (07 R175, R176). -/
def LayerVals.factors (v : LayerVals) (size : Nat × Nat) : Option (Nat × Nat) :=
  let (cw, ch) := v.cropSize size
  let w := bits v.dst 31 16
  let h := bits v.dst 15 0
  if cw = 0 ∨ ch = 0 then none
  else
    let sx := w * 65536 / cw
    let sy := h * 65536 / ch
    if v.fit = 1 then (let s := if w * ch ≤ h * cw then sx else sy; some (s, s)) else some (sx, sy)

/-- The exact scale factors lie from 1/8 to 8 (07 R175). -/
def LayerVals.scaleOk (v : LayerVals) (size : Nat × Nat) : Bool :=
  let (cw, ch) := v.cropSize size
  let w := bits v.dst 31 16
  let h := bits v.dst 15 0
  let ok := fun (a b : Nat) => decide (b ≤ 8 * a ∧ a ≤ 8 * b)
  if cw = 0 ∨ ch = 0 then true
  else if v.fit = 1 then (if w * ch ≤ h * cw then ok w cw else ok h ch)
  else ok w cw && ok h ch

/-- The size of a layer's picture where it is known: of a buffer, or of the last picture of a source. -/
def Dev.contentSize (d : Dev) (v : LayerVals) : Option (Nat × Nat) :=
  if v.content = 1 then some (bits v.buf 83 68, bits v.buf 99 84)
  else if v.content = 0 then
    ((d.dec v.src).lastOut.map fun (p : Pic) => (p.width, p.height)).filter fun s => decide (0 < s.1 ∧ 0 < s.2)
  else none

/-- The picture interval of a source in ns: of the VUI, else the measured mean (05 R119, 04 Table 4.3). -/
def Dev.interval (d : Dev) (n : Nat) : Option Nat :=
  match ((d.dec n).sps.map (·.rate)).filter (0 < ·) with
  | some r => some (1000000000000 / r)
  | none => let iv := (d.src n).ivals; if iv.isEmpty then none else some (iv.sum / iv.length)

/-- A SLICE layer satisfies 07 R184 on its output. -/
def Dev.sliceLayerOk (d : Dev) (v : LayerVals) (o : OutVals) : Bool :=
  let p := tmFrameNs o.timing
  v.content == 0 && d.sliceOk v.src && bit o.cfg 30
    && (d.interval v.src).any fun i => decide (((i : Int) - (p : Int)).natAbs * 1000 ≤ p)

/-- The encodings and ranges of an enabled layer (07 Table 7.7, 19 R505). -/
def LayerVals.rangesOk (v : LayerVals) : Bool :=
  v.content != 3 && v.blend != 3 && v.fit != 3 && decide (v.src ≤ 191)
    && decide (1 ≤ bits v.dst 31 16 ∧ bits v.dst 31 16 ≤ 8192 ∧ 1 ≤ bits v.dst 15 0 ∧ bits v.dst 15 0 ≤ 8192)
    && (v.content != 1 || (bufExtent v.buf).isSome)

/-- The reserved encodings of a named output. -/
def OutVals.rangesOk (v : OutVals) : Bool := bits v.cfg 29 28 != 3 && bits v.dpCfg 62 60 != 7 && bits v.dpCfg 59 58 != 3

/-- What a link of this rate and lane count carries, in bits per second times 10⁴ with R392's factors: 0.97, and 0.8 or 128/132. -/
def linkFits (w timing : Nat) : Bool :=
  let rate := [1620000000, 2700000000, 5400000000, 8100000000, 10000000000, 13500000000, 20000000000].getD (bits w 62 60) 0
  let lanes := 2 ^ bits w 59 58
  let need := tmPclk timing * 3 * dpDepth w
  if bits w 62 60 ≤ 3 then decide (need * 1000 ≤ 776 * lanes * rate) else decide (need * 13200 ≤ 97 * 128 * lanes * rate)

/-- The timing of an enabled output (14 R392, Table 14.9). -/
def timingOk (w : Nat) : Bool :=
  let ha := tmHactive w
  let ht := tmHtotal w
  let va := tmVactive w
  let vt := tmVtotal w
  let pc := tmPclk w
  decide (640 ≤ ha ∧ ha ≤ 7680 ∧ 480 ≤ va ∧ va ≤ 4320 ∧ ha % 8 = 0 ∧ 25000000 ≤ pc ∧ pc ≤ 2400000000)
    && decide (ha + bits w 127 112 + bits w 111 96 ≤ ht ∧ va + bits w 63 48 + bits w 47 32 ≤ vt)
    && decide (24000 * ht * vt ≤ 1001 * pc ∧ pc ≤ 144 * ht * vt)

/-- The active rate of a timing in px/s. -/
def activeRate (w : Nat) : Rat := ((tmHactive w * tmVactive w * tmPclk w : Nat) : Rat) / ((tmHtotal w * tmVtotal w : Nat) : Rat)

/-- The rate limits of 01 R11 and Table 1.10 hold after the commit. -/
def Dev.ratesOk (d : Dev) (p : Plan) : Bool :=
  let r := fun (o : Nat) => let v := d.outAfter p o; if v.live then activeRate v.timing else 0
  decide ((outputNumbers.map r).sum ≤ 5000000000) && [0, 1, 2, 3].all fun k => decide (r (2 * k) + r (2 * k + 1) ≤ 2000000000)

/-- The layer limits of 07 R177 on a named output. -/
def Dev.limitsOk (d : Dev) (p : Plan) (all : List (Nat × LayerVals)) (o : Nat) : Bool :=
  let ls := sortOn (fun v => 64 - v.z) ((all.filter fun e => e.2.out == o).map (·.2))
  decide (ls.length ≤ 64) && decide ((ls.map (·.z)).Nodup) && decide (maxDepth (activeRect (d.outAfter p o).timing) ls ≤ 16)

/-- Two timings have the same frame period. -/
def samePeriod (a b : Nat) : Bool := tmHtotal a * tmVtotal a * tmPclk b == tmHtotal b * tmVtotal b * tmPclk a

/-- The device is acting as Atlas. -/
def Dev.acting (d : Dev) : Bool := d.chain.role != 0 && d.chain.acting == some d.chain.position

/-- The barrier configuration in use: the copy of the last GO, else the device's own (15 R407). -/
def Dev.barrierCfg (d : Dev) : Nat :=
  match d.chain.go with
  | some g => g.barrier
  | none => d.get .mdkBarrierCfg

/-- The three conditions of 15 R407 for a barrier configuration, a wall period and the commit leads of composing outputs, in ns. -/
def barrierOk (cfg pw : Nat) (leads : List Nat) : Bool :=
  let ready := bits cfg 63 48
  let go := bits cfg 47 32
  let grace := bits cfg 31 20
  decide (go < ready ∧ grace < go ∧ (ready + 1000) * 1000 ≤ pw) && leads.all fun l => decide (l + (grace + 100) * 1000 ≤ go * 1000)

/-- The commit lead of an output: one band period plus 100 µs (07 R166). -/
def commitLead (timing : Nat) : Nat := tmBandNs timing + 100000

/-- The wall period in ns for the outputs a function gives (15 R406): on the acting Atlas, of its lowest composing output; on another device
left open. -/
def Dev.wallNs (d : Dev) (outs : Nat → OutVals) : Nat :=
  if d.acting then
    match outputNumbers.find? fun o => (outs o).en with
    | some o => tmFrameNs (outs o).timing
    | none => 16666667
  else Config.wallPeriod d.chain.wallFrame

/-- The checks that a device with a chain role adds to a commit (15 R406, R407). -/
def Dev.chainCommitOk (d : Dev) (p : Plan) : Bool :=
  if d.chain.role = 0 then true
  else
    let after := d.outAfter p
    let comp := outputNumbers.filter fun o => (after o).en
    let period := p.outs.all fun e => !e.2.en || (if d.acting then comp.head?.all fun o => samePeriod e.2.timing (after o).timing
      else tmFrameNs e.2.timing == d.wallNs after)
    period && barrierOk d.barrierCfg (d.wallNs after) (comp.map fun o => commitLead (after o).timing)

/-- A REGULATED tenancy's cartouche would leave the active area of a new timing (07 R191 rule 3). -/
def Dev.cartBlocks (d : Dev) (o timing : Nat) : Bool :=
  d.cartOwner o != 0 && timing != d.getF .lnkDpTiming o &&
    (let bank := (d.out o).cartBank
     (glyphRect (d.cartCtl o bank) :: (d.cartRects o bank).map cartRect).any fun r => !r.inside (activeRect timing))

/-- The checks of Table 7.7, in its order. `ten` is the issuing tenancy, 0 for a partner. -/
def Dev.commitChecks (d : Dev) (p : Plan) (ten : Nat) : List (Bool × Nat) :=
  let named := outsOf p.mask
  let all := d.layersAfter p
  let on := p.layers.filter fun e => e.2.en
  let live := p.outs.filter fun e => e.2.live
  [ (named.any fun o => !d.present (4 + plateOf o), stUnitAbsent),
    (ten != 0 && named.any fun o => !d.outGranted ten o, stNotPermitted),
    (on.any fun e => !d.inWindow e.2 || !d.bufOwned e.2 || !d.mayShow e.2, stNotPermitted),
    (on.any fun e => e.2.owner != 0 && decide (d.gLe e.2.owner 4 2 < (all.filter fun f => f.2.owner == e.2.owner).length), stNotPermitted),
    (live.any fun e => d.cartBlocks e.1 e.2.timing, stNotPermitted),
    (p.mask % 256 == 0, stBadParam),
    (p.layers.any fun e => (e.2.en && !bit p.mask e.2.out) || ((d.layerF e.1).en && !bit p.mask (d.layerF e.1).out), stBadParam),
    (p.layers.any fun e => !e.2.liveOk, stBadParam),
    (on.any fun e => !e.2.rangesOk, stBadParam),
    (p.outs.any fun e => !e.2.rangesOk, stBadParam),
    (on.any fun e => (d.contentSize e.2).any fun s => !e.2.scaleOk s, stBadParam),
    (named.any fun o => !d.limitsOk p all o, stBadParam),
    (live.any fun e => !timingOk e.2.timing || !linkFits e.2.dpCfg e.2.timing, stBadParam),
    (!d.ratesOk p, stBadParam),
    (on.any fun e => e.2.slice && !d.sliceLayerOk e.2 (d.outAfter p e.2.out), stBadParam),
    (!d.chainCommitOk p, stBadParam) ]

/-! ### Expected glyph values (02 R55) -/

/-- The codes as sent of a lookup-table entry at a depth and encoding. -/
def lutCodes (dep : Nat) (ycc : Bool) (e : Nat) : Rgb :=
  let c : Rgb := ⟨bits e 35 24 / 2 ^ (12 - dep), bits e 23 12 / 2 ^ (12 - dep), bits e 11 0 / 2 ^ (12 - dep)⟩
  if ycc then toYcc dep c else c

/-- The value that glyph image `i` of a descriptor bank is expected to have as sent. -/
def Dev.expectedGlyph (d : Dev) (o bank i : Nat) : Nat :=
  let ctl := d.cartCtl o bank
  let img := cartSlot o + 0x6E000 + bits ctl 30 30 * 0x4000 + i * 0x400
  let lut := cartSlot o + 0x76000 + bits ctl 31 31 * 0x800
  crc32c ((List.range 1024).flatMap fun j =>
    (lutCodes (d.depth o) (d.flagF .lnkDpCfg o 55) (d.peekLe (lut + 8 * (d.peek (img + j)).toNat) 8)).bytes)

/-- The 16 values of a bank computed into the slot: those in force at 0x7_7000, those pending after them. -/
def Dev.computeExpected (d : Dev) (o bank : Nat) (pending : Bool) : Dev :=
  d.poke (cartSlot o + 0x77000 + 64 * pending.toNat) ((List.range 16).flatMap fun i => u32 (d.expectedGlyph o bank i))

/-! ### Applying on an output (07 R181, R189, R191) -/

/-- Composition of an output is enabled: its frame count and counters start over (07 R199, 08 Table 8.12), Bursol allocates its hold buffers, and
a cartouche that no CART_COMMIT has set is initialised (07 R189). -/
def Dev.enableOut (d : Dev) (o : Nat) : Dev :=
  let d := d.each (List.range 8) fun d k => d.put .pltOutStat (Par.pltOutStat.info.elem o k) 0
  let d := d.each (List.range 8) fun d k => d.put .witStat (Par.witStat.info.elem o k) 0
  let (v, d) := d.fresh
  let d := d.put .pltHoldBase o v
  let d := d.modOut o fun x =>
    { raster := x.raster, cp := 0, cpNext := 0, over_ := x.over_, frameLocked := x.frameLocked, errNs := x.errNs,
      cartCommitted := x.cartCommitted, cartBank := x.cartBank, noticeDrawn := x.noticeDrawn, barrierOut := x.barrierOut,
      commitFlag := true, cartFlag := x.cartFlag }
  let d :=
    if (d.out o).cartCommitted then d
    else
      let a := cartSlot o
      let w := d.timing o
      let ctl := (((tmHactive w - 48) / 32 * 32) <<< 48) + (((tmVactive w - 48) / 32 * 32) <<< 32)
      let d := { d with mem := { d.mem with cells := d.mem.cells.filter fun c =>
        !(decide ((a + 0x6E000 ≤ c.1 ∧ c.1 < a + 0x72000) ∨ (a + 0x76000 ≤ c.1 ∧ c.1 < a + 0x76800))) } }
      (d.poke (a + 0x77100) (u64 ctl)).modOut o fun x => { x with cartBank := 0 }
  d.computeExpected o (d.out o).cartBank false

/-- The values of an output applied: enabling, the raster, the link, and what turning composition or the link off leaves (07 R181, R191). -/
def Dev.applyOut (d : Dev) (o : Nat) (v : OutVals) (mediator : Bool) : Dev :=
  let was := d.outF o
  let ran := (d.out o).raster
  let d := d.putOut o v
  let d := d.when (v.en && !was.en) fun d => d.enableOut o
  let d := d.modOut o fun x =>
    { x with raster := x.raster || v.live, stopping := ran && !v.live,
             frameLocked := x.frameLocked && ran,
             offCause := x.offCause && !((v.en && !was.en) || (v.link && !was.link)),
             offNext := ran && ((was.en && !v.en) || (was.link && !v.link)) }
  let d := d.when (mediator && was.en && !v.en) fun d => d.audit 0x000A (u8 o ++ u8 0)
  let d := d.when (mediator && was.link && !v.link) fun d => d.audit 0x000A (u8 o ++ u8 1)
  let linkBits := fun (w : Nat) => w / 2 ^ 58 * 2 + bits w 54 54
  let d := d.when (linkBits was.dpCfg != linkBits v.dpCfg || was.timing != v.timing) fun d => d.dpTrain o
  let d := d.when (bits was.dpCfg 57 55 != bits v.dpCfg 57 55) fun d => d.computeExpected o (d.out o).cartBank false
  d.when (v.en && !was.en) fun d => d.placeStreams

/-- An output composes a layer otherwise than by its values in force while a move is under way. -/
def Output.setOver (x : Output) (n : Nat) (v : Option LayerVals) : Output :=
  { x with over_ := x.over_.filter (·.1 != n) ++ (v.map fun v => (n, v)).toList }

/-- A carried layer at a commit point of output `o` (07 R181): its values go in force at the commit point of its new output, or of its old one
where it leaves; `left` are the outputs where the commit has yet to apply. -/
def Dev.applyLayer (d : Dev) (o mask left n : Nat) (v : LayerVals) : Dev :=
  let old := d.layerF n
  let home := if v.en || (!old.en && bit mask v.out) then v.out else old.out
  let d := d.modOut o fun x => x.setOver n none
  if o = home then
    let d := d.when (old.en && old.out != o) fun d => d.modOut old.out fun x => x.setOver n (if bit left old.out then some old else none)
    (d.putLayer n v).modLayer n fun l => { l with size := (0, 0) }
  else if old.en && old.out == o then d.modOut o fun x => x.setOver n (some { old with cfg := setBit old.cfg 63 false })
  else d

/-- One armed commit applies on an output; its frame is that of the commit point. -/
def Dev.applyCommit (d : Dev) (o : Nat) (a : ArmedCommit) : Dev :=
  let left := setBit a.left o false
  let d := match a.outs.find? (·.1 == o) with
    | some e => d.applyOut o e.2 a.mediator
    | none => d
  let d := d.each a.layers fun d e => d.applyLayer o a.mask left e.1 e.2
  (d.outCount o 6).modOut o fun x => { x with commitFlag := true }

/-- Every commit armed on an output applies there, in the order of arming (07 R181). -/
def Dev.applyCommits (d : Dev) (o : Nat) : Dev :=
  let arm := d.commits.filter fun a => bit a.left o
  let d := d.each arm fun d a => d.applyCommit o a
  let k := (d.out o).cpNext
  { d with commits := d.commits.map fun a =>
      if bit a.left o then { a with left := setBit a.left o false, frames := a.frames ++ [(o, k)] } else a }

/-- The session that issued a command, and every mediator session. -/
def toIssuerMed (port sid : Nat) (s : Session) : Bool := (s.port == port && s.sid == sid) || s.mediator

/-- Commits that have applied on all their outputs complete: COMMIT_DONE, and phase 3 (07 R180). A commit of the device itself tells nobody. -/
def Dev.commitsDone (d : Dev) : Dev :=
  let done := d.commits.filter (·.left == 0)
  let d : Dev := { d with commits := d.commits.filter (·.left != 0) }
  d.each done fun d a =>
    if a.port = 0xFF then d
    else
      let frames := outputNumbers.flatMap fun o => u32 (((a.frames.find? (·.1 == o)).map (·.2)).getD 0)
      let d := d.raise (toIssuerMed a.port a.session) { code := 0xE300, object := 0xFFFF, tenancy := a.tenancy,
                                                        data := u32 a.seq ++ u8 a.mask ++ zeros 3 ++ frames }
      d.finish a.port a.session a.seq stOk 3

/-- Every cartouche commit armed on an output applies there, the last one prevailing; CART_COMMIT_DONE for each (07 R190). -/
def Dev.applyCarts (d : Dev) (o : Nat) : Dev :=
  let arm := d.carts.filter fun a => bit a.left o
  match arm.getLast? with
  | none => d
  | some z =>
    let d := d.modOut o fun x => { x with cartBank := z.bank, cartCommitted := true, cartFlag := true }
    let d := d.computeExpected o z.bank false
    let d : Dev := { d with carts := d.carts.map fun a => { a with left := setBit a.left o false } }
    d.each (arm.filter (·.port != 0xFF)) fun d a => d.raise (toIssuerMed a.port a.session)
      { code := 0xE400, object := o, out := o, data := u32 a.seq ++ u8 a.bank ++ zeros 3 ++ u64 (d.out o).cpNext }

/-- Cartouche commits that have applied on all their outputs complete. -/
def Dev.cartsDone (d : Dev) : Dev :=
  let done := d.carts.filter (·.left == 0)
  d.each done (fun d a => d.finish a.port a.session a.seq stOk 4) |> fun d => { d with carts := d.carts.filter (·.left != 0) }

/-- Commits apply at once on the outputs that run no raster, and those with nothing left complete (07 R181). -/
def Dev.settleCommits (d : Dev) : Dev :=
  let d := d.each outputNumbers fun d o =>
    if (d.out o).raster then d
    else
      let d := if d.commits.any fun a => bit a.left o then d.applyCommits o else d
      d.applyCarts o
  d.commitsDone.cartsDone

/-! ### LAYER_COMMIT (07 R180) -/

/-- The target frame of an output: its next commit point, or the first frame of an enable. -/
def Dev.targetFrame (d : Dev) (p : Plan) (o : Nat) : Nat :=
  if (d.outAfter p o).en && !(d.outF o).en then 0 else (d.out o).cpNext

/-- A checked commit is armed. -/
def Dev.arm (d : Dev) (port session seq ten : Nat) (mediator : Bool) (p : Plan) : Dev :=
  { d with commits := d.commits ++ [{ port, session, seq, tenancy := ten, mediator, mask := p.mask, left := p.mask % 256, outs := p.outs,
                                      layers := p.layers }] }

/-- LAYER_COMMIT: checked as a whole, armed, and accepted at phase 2 with the target frame of each output. -/
def layerCommitOp (c : Ctx) (mask : Nat) (d : Dev) : Answer :=
  let all := c.ses.mediator && c.act == 0
  let p := d.plan mask all c.act
  checked (d.commitChecks p c.act) d fun d =>
    let frames := outputNumbers.flatMap fun o => u64 (if bit mask o then d.targetFrame p o else 0)
    (some (rAccepted 2 frames), d.arm c.ses.port c.ses.sid c.seq c.act all p)

/-! ### The cartouche opcodes (07 R187, R190) -/

/-- The issuer owns the cartouche of an output: owner 0 stands for the mediator sessions. -/
def Ctx.ownsCart (c : Ctx) (d : Dev) (o : Nat) : Bool :=
  if d.cartOwner o = 0 then c.ses.mediator && c.act == 0 else c.act == d.cartOwner o

/-- The descriptor banks of an output that are in force or armed. -/
def Dev.cartBanks (d : Dev) (o : Nat) : List Nat := (d.out o).cartBank :: (d.carts.filter fun a => bit a.left o).map (·.bank)

/-- The range of the pixel store that a rectangle references: its first byte and length. -/
def rectRange (r : Nat × Nat × Nat × Nat × Nat) : Nat × Nat := (r.2.2.2.2, r.2.2.1 * r.2.2.2.1)

/-- The checks that every cartouche opcode makes first. -/
def cartGate (c : Ctx) (outs : List Nat) (d : Dev) : List (Bool × Nat) :=
  [(outs.any fun o => !d.present (4 + plateOf o), stUnitAbsent), (outs.any fun o => !c.ownsCart d o, stNotPermitted)]

/-- CART_WRITE: bytes into the pixel store. -/
def cartWriteOp (c : Ctx) (o off : Nat) (data : Bytes) (d : Dev) : Answer :=
  let hit := (d.cartBanks o).any fun b => (d.cartRects o b).any fun r =>
    let (lo, n) := rectRange r
    decide (max lo off < min (lo + n) (off + data.length))
  checked ([(decide (8 ≤ o), stBadParam)] ++ cartGate c [o] d ++
    [(decide (0x6E000 < off + data.length), stBadParam), (hit, stNotPermitted)]) d fun d => (some rOk, d.poke (cartSlot o + off) data)

/-- CART_LUT: a lookup table bank of 256 entries. -/
def cartLutOp (c : Ctx) (o bank : Nat) (entries : List Nat) (d : Dev) : Answer :=
  checked ([(decide (8 ≤ o), stBadParam)] ++ cartGate c [o] d ++ [(decide (1 < bank) || entries.length != 256, stBadParam),
    ((d.cartBanks o).any fun b => bits (d.cartCtl o b) 31 31 == bank, stNotPermitted)]) d fun d =>
    (some rOk, d.poke (cartSlot o + 0x76000 + bank * 0x800) (entries.flatMap u64))

/-- CART_GLYPH: a glyph bank of 16 images. -/
def cartGlyphOp (c : Ctx) (o bank : Nat) (images : Bytes) (d : Dev) : Answer :=
  checked ([(decide (8 ≤ o), stBadParam)] ++ cartGate c [o] d ++ [(decide (1 < bank) || images.length != 16384, stBadParam),
    ((d.cartBanks o).any fun b => bits (d.cartCtl o b) 30 30 == bank, stNotPermitted)]) d fun d =>
    (some rOk, d.poke (cartSlot o + 0x6E000 + bank * 0x4000) images)

/-- The fields of a control word; its reserved bits take no write. -/
def ctlFields (w : Nat) : Nat := (bits w 63 30 <<< 30) + bits w 3 0

/-- CART_DESC: a descriptor bank. -/
def cartDescOp (c : Ctx) (o bank ctl : Nat) (rects : List Nat) (d : Dev) : Answer :=
  let n := bits ctl 3 0
  checked ([(decide (8 ≤ o), stBadParam)] ++ cartGate c [o] d ++
    [(decide (1 < bank ∨ 8 < n ∨ rects.length ≠ n ∨ bits ctl 63 48 % 32 ≠ 0 ∨ bits ctl 47 32 % 32 ≠ 0), stBadParam),
     (rects.any fun w => !decide (1 ≤ bits w 39 30 ∧ bits w 39 30 ≤ 960 ∧ 1 ≤ bits w 29 20 ∧ bits w 29 20 ≤ 540), stBadParam),
     ((d.cartBanks o).contains bank, stNotPermitted)]) d fun d =>
    (some rOk, d.poke (cartSlot o + 0x77100 + bank * 128) (u64 (ctlFields ctl) ++ rects.flatMap u64))

/-- The active area that CART_COMMIT is checked against: the timing of the last armed commit that carries the output, else the one in force. -/
def Dev.cartArea (d : Dev) (o : Nat) : Rect :=
  let armed := (d.commits.filter fun a => bit a.left o).filterMap fun a => (a.outs.find? (·.1 == o)).map (·.2.timing)
  activeRect (armed.getLast?.getD (d.timing o))

/-- No two of a list of rectangles overlap. -/
def apart : List Rect → Bool
  | [] => true
  | r :: l => !(l.any r.meets) && apart l

/-- A descriptor may be put in force on an output (07 R190). -/
def Dev.cartFits (d : Dev) (o bank : Nat) : Bool :=
  let area := d.cartArea o
  let rs := d.cartRects o bank
  area.nonempty && (glyphRect (d.cartCtl o bank)).inside area && rs.all (fun r => (cartRect r).inside area) && apart (rs.map cartRect)
    && rs.all fun r => let (lo, n) := rectRange r; decide (lo + n ≤ 0x6E000)

/-- CART_COMMIT: checked, the pending glyph values computed, armed, and accepted at phase 3. -/
def cartCommitOp (c : Ctx) (mask bank : Nat) (d : Dev) : Answer :=
  let outs := outsOf mask
  checked (cartGate c outs d ++ [(mask % 256 == 0 || decide (1 < bank) || outs.any fun o => !d.cartFits o bank, stBadParam)]) d fun d =>
    let d := d.each outs fun d o => d.computeExpected o bank true
    (some (rAccepted 3), { d with carts := d.carts ++ [{ port := c.ses.port, session := c.ses.sid, seq := c.seq, bank, mask, left := mask % 256 }] })

/-- CAR.STATE (19 Table 19.3). -/
def Dev.carState (d : Dev) (o : Nat) : Nat :=
  let arm := d.carts.filter fun a => bit a.left o
  (d.cartOwner o <<< 28) + (((d.out o).cartBank % 2) <<< 27) + ((!arm.isEmpty).toNat <<< 26) + ((((arm.getLast?.map (·.bank)).getD 0) % 2) <<< 25)
    + ((d.out o).noticeDrawn.toNat <<< 24)

/-! ### What a commit point selects (07 R166, R176, R179, R182, R186) -/

/-- The current picture of a source (07 R182): the most recent in output order, decoded in full, with the current GEN. -/
def Dev.currentPic (d : Dev) (n : Nat) : Option Pic := (d.dec n).pics.find? fun (p : Pic) => p.full && p.stamp.gen == d.srcGen n

/-- A factor kept within 1/8 to 8. -/
def clampFactor (s : Nat) : Nat := max 8192 (min 524288 s)

/-- A source layer takes its current picture; its factors follow a commit or a change of picture size (07 R175, R176). -/
def Dev.takePic (d : Dev) (o n : Nat) (v : LayerVals) : Dev :=
  let pic := d.currentPic v.src
  let d := d.modLayer n fun l => { l with pic }
  match pic with
  | none => d
  | some p =>
    let size := (p.width, p.height)
    let l := d.layer n
    if p.width = 0 ∨ p.height = 0 ∨ l.size = size then d
    else
      let keep := v.fit = 2 ∧ l.size ≠ (0, 0)
      match v.factors size with
      | none => d.modLayer n fun l => { l with size }
      | some (sx, sy) =>
        if keep then d.modLayer n fun l => { l with size }
        else
          let cx := clampFactor sx
          let cy := clampFactor sy
          let d := d.modLayer n fun l => { l with size, scaleX := cx, scaleY := cy }
          d.when (!v.scaleOk size) fun d => d.layerEvent o n 0xE303 (u32 cx ++ u32 cy)

/-- D_min of a SLICE layer on an output, in ns (07 R186), from its footprint's bands and the last source row that each samples. -/
def Dev.sliceDmin (d : Dev) (o : Nat) (v : LayerVals) (size : Nat × Nat) : Nat :=
  let w := d.timing o
  let r := v.rect.inter (activeRect w)
  let b0 := r.y0.toNat / 64
  let n := ceilDiv r.y1.toNat 64 - b0
  let (_, ch) := v.cropSize size
  let h := max 1 (bits v.dst 15 0)
  let need := fun (b : Nat) =>
    let last := min (r.y1.toNat) (64 * (b + 1)) - 1
    let row := bits v.crop 47 32 + ((last : Int) - v.rect.y0).toNat * ch / h + 3
    Config.rowReady v.src (min row (size.2 - 1)) + tmBandNs w - (b - b0) * tmBandNs w
  (((List.range n).map fun i => need (b0 + i)).max?).getD 0

/-- PLT.SLICE_DMIN and, with SLICE_AUTO, PLT.OUT_PHASE follow the SLICE_LEAD layer (07 R186): D is 1.15 × D_min, rounded up to a whole µs. -/
def Dev.sliceLead (d : Dev) (o : Nat) : Dev :=
  let n := d.fldF .pltOutCfg o 26 19
  let v := d.layerOn o n
  match (if v.en && v.out == o && v.slice then d.contentSize v else none) with
  | none => d.put .pltSliceDmin o 0
  | some size =>
    let dm := d.sliceDmin o v size
    let d := d.put .pltSliceDmin o (ceilDiv dm 1000)
    match (if d.flagF .pltOutCfg o 18 then (d.src v.src).firstIng else none) with
    | none => d
    | some t =>
      let lat := ceilDiv (dm * 115) 100000 * 1000
      let b0 := (v.rect.inter (activeRect (d.timing o))).y0.toNat / 64
      d.put .pltOutPhase o (fullTime (t + lat - b0 * tmBandNs (d.timing o)))

/-- The selections of a commit point: pictures, factors, the slice lead, culling and hidden sources; layers that contribute no more end their
hachure (02 R67), and the frame's labels start over. -/
def Dev.select (d : Dev) (o : Nat) : Dev :=
  let ls := d.layersOn o
  let d := d.each ls fun d e => if e.2.showsSource then d.takePic o e.1 e.2 else d.modLayer e.1 fun l => { l with pic := none }
  let d := d.sliceLead o
  let vis := d.visibleOn o
  let d := d.each layerNumbers fun d n =>
    let here := ls.any (·.1 == n)
    let v := here && vis.contains n
    if (here || (d.layerF n).out == o) && (d.layer n).visible != v then d.modLayer n fun l => { l with visible := v } else d
  let d := d.each layerNumbers fun d n =>
    if (d.layer n).stale.any (·.1 == o) && !(ls.any fun e => e.1 == n && e.2.isLive && vis.contains n)
    then d.becomeFresh o n (d.layerOn o n).src else d
  (d.modOut o fun x => { x with labelled := [] }).hideSources

end Sys2Proof.Machine
end

