-- ==== Sys2Proof/Machine/Console.lean ====
section
/-!
DEFINITION. Touch, haptics and audio (12): scan frames, contacts and their reports, baselines, self-capacitance groups, haptic plays, the mixer and
the protected alert.
-/

namespace Sys2Proof.Machine

/-! ### Recipients (11 Table 11.2, 12) -/

/-- The tenancy whose grant satisfies a test, 0 where none does. -/
def Dev.holder (d : Dev) (f : Nat → Bool) : Nat := (tenNumbers.find? fun n => d.tenExists n && f n).getD 0

/-- The owner of a haptic driver (12 R324). -/
def Dev.hapOwner (d : Dev) (v : Nat) : Nat := d.holder fun n => bit (d.gByte n 27) v
/-- The owner of a mixer input (12 R328). -/
def Dev.audOwner (d : Dev) (i : Nat) : Nat := d.holder fun n => bit (d.gLe n 28 4) i
/-- The tenancy that holds ALERT (12 R329). -/
def Dev.alertHolder (d : Dev) : Nat := d.holder fun n => bit (d.gByte n 3) 0
/-- The tenancy that holds every one of a list of self-capacitance channels (12 R320). -/
def Dev.selfOwner (d : Dev) (cs : List Nat) : Nat := d.holder fun n => cs.all (bit (d.gLe n 32 2))

/-- Region `i` of a tenancy: front-end, X0, Y0, X1, Y1. -/
def Dev.region (d : Dev) (n i : Nat) : Nat × Nat × Nat × Nat × Nat :=
  let o := 80 + 12 * i
  (d.gByte n o, d.gLe n (o + 2) 2, d.gLe n (o + 4) 2, d.gLe n (o + 6) 2, d.gLe n (o + 8) 2)

/-- A region of a tenancy lies on front-end `t` and holds a position. -/
def Dev.regionHas (d : Dev) (n i t x y : Nat) : Bool :=
  let (f, x0, y0, x1, y1) := d.region n i
  f == t && decide (x0 ≤ x ∧ x ≤ x1 ∧ y0 ≤ y ∧ y ≤ y1)

/-- The recipient and region of a position on a front-end (12 R320): recipient 0 and 0xFF outside every region. -/
def Dev.routeTouch (d : Dev) (t x y : Nat) : Nat × Nat :=
  let hits := tenNumbers.filterMap fun n =>
    if d.tenExists n then ((List.range (min 8 (d.gByte n 34))).find? fun i => d.regionHas n i t x y).map fun i => (n, i) else none
  hits.head?.getD (0, 0xFF)

/-- Touch events go to their recipient and every mediator session; recipient 0 stands for the mediators (12 R333). -/
def toRecipient (r : Nat) (s : Session) : Bool := s.mediator || (r != 0 && s.role == r)

/-! ### Reports (12 R322, R323) -/

/-- A report before it is written (12 Table 12.5). -/
structure TouchRep where
  kind : Nat
  id : Nat
  unit : Nat
  region : Nat
  x : Nat
  y : Nat
  z : Nat
  flags : Nat
  frame : Nat
  deriving DecidableEq, Repr

/-- The 32 bytes of a record. -/
def TouchRep.bytes (p : TouchRep) (now : Ns) (epoch wr : Nat) (ovf : Bool) : Bytes :=
  tm now ++ u32 p.frame ++ u8 p.kind ++ u8 p.id ++ u8 p.unit ++ u8 p.region ++ u16 p.x ++ u16 p.y ++ u16 p.z
    ++ u16 (p.flags + 16 * ovf.toNat) ++ u8 (epoch % 16) ++ zeros 3 ++ u32 wr

/-- Bytes written to an address of the internal map by a unit: to memory, or out through an endpoint's window. -/
def Dev.putBytes (d : Dev) (a : Nat) (b : Bytes) : Dev := if 0x800000000000 ≤ a then d.busWrite a b else d.poke a b

/-- A record for recipient `r` is written, or dropped and counted: into a disabled ring, or a full one. -/
def Dev.touchRecord (d : Dev) (r : Nat) (p : TouchRep) : Dev :=
  let cfg := d.get .grtRing r
  let wr := d.get .grtRingWr r
  let size := 2 ^ bits cfg 15 12
  let st := d.tring r
  if !bit cfg 11 then d.count2 .grtStat p.unit 2
  else if (wr + 2 ^ 32 - d.get .grtRingRd r) % 2 ^ 32 = size then
    (d.count2 .grtStat p.unit 2).setTring r { st with dropped := st.dropped + 1, ovfMark := true }
  else
    let d := d.putBytes (bits cfg 63 16 + 32 * (wr % size)) (p.bytes d.now d.epoch wr st.ovfMark)
    let d := d.put .grtRingWr r (wr + 1)
    let d := d.setTring r { outstanding := true }
    let d := d.when st.ovfMark fun d => d.raise (toRecipient r) { code := 0xEA04, object := r, tenancy := r, data := u32 st.dropped }
    d.when (!st.outstanding) fun d => d.raise (toRecipient r) { code := 0xEA00, object := r, tenancy := r, data := u32 (wr + 1) }

/-- The position of a contact as it is reported: inside its region, or the nearest point of its edge with OUTSIDE. -/
def Dev.shownAt (d : Dev) (c : Contact) : Nat × Nat × Bool :=
  match c.recipient with
  | some n =>
    if n = 0 ∨ 8 ≤ c.region then (c.x, c.y, false)
    else
      let (_, x0, y0, x1, y1) := d.region n c.region
      let x := max x0 (min x1 c.x)
      let y := max y0 (min y1 c.y)
      (x, y, x != c.x || y != c.y)
  | none => (c.x, c.y, false)

/-- RESTING: 1 s or more since the anchor was set (12 R313). -/
def Dev.resting (d : Dev) (c : Contact) : Bool := decide (c.at_ + 1000000000 ≤ d.tim.elapsed)

/-- A contact of front-end `t` (or a group touch of block 4) is reported to its recipient; one beyond the ten IDs, or whose recipient was
withdrawn, to no one. KIND counts from 1 for a contact and from 5 for a group. -/
def Dev.reportTouch (d : Dev) (t kind : Nat) (c : Contact) (noisy : Bool) : Dev :=
  match c.recipient with
  | none => d
  | some r =>
    if t < 4 ∧ 10 ≤ c.id then d
    else
      let fe := d.fe t
      let (x, y, out) := if t < 4 then d.shownAt c else (c.x, 0, false)
      let flags := out.toNat + 2 * (decide (t < 4) && d.resting c).toNat + 4 * noisy.toNat + 8 * fe.hopped.toNat + 32 * fe.stretched.toNat
      d.touchRecord r { kind := if t < 4 then kind else kind + 4, id := c.id, unit := t, region := c.region, x, y, z := c.z, flags,
                        frame := fe.frames % 2 ^ 32 }

/-! ### Scan configuration and noise (12 Table 12.1, R308, R311) -/

/-- The configuration of front-end `t`, or of the self-capacitance block at 4. -/
def Dev.feCfg (d : Dev) (t : Nat) : Nat := if t < 4 then d.get .grtFeCfg t else d.get .grtSelfCfg
/-- TOUCH_TH. -/
def touchTh (cfg : Nat) : Int := (bits cfg 27 18 : Nat)
/-- RELEASE_TH. -/
def releaseTh (cfg : Nat) : Int := (bits cfg 17 8 : Nat)

/-- The checks of R308 on a configuration word, beyond the ranges of its fields. -/
def feCfgOk (cfg : Nat) (self : Bool) : Bool :=
  let slot := bits cfg 36 29 + 4
  decide (bits cfg 17 8 < bits cfg 27 18) && decide ((if self then 17 else bits cfg 57 52 + 2) * slot * bits cfg 44 37 ≤ 1000000)

/-- One step of the exponential average over 8 frames; the first measurement starts it. -/
def smooth (old : Option Rat) (x : Nat) : Rat :=
  match old with
  | none => ((x : Nat) : Rat)
  | some n => n + (((x : Nat) : Rat) - n) / 8

/-- The index of the lowest of a list of noise levels. -/
def quietest (l : List Rat) : Nat :=
  ((List.range l.length).foldl (fun b i => if l.getD i 0 < l.getD b 0 then i else b) 0)

/-- n_c exceeds `k` × n_b. -/
def louder (l : List Rat) (c : Nat) (k : Rat) : Bool := decide (k * l.getD (quietest l) 0 < l.getD c 0)

/-- A noise level as a field of `w` bits, saturating. -/
def noiseField (x : Rat) (w : Nat) : Nat := min (2 ^ w - 1) x.floor.toNat

/-- The hop test (12 R311): three tests in a row, no more than one hop in 250 ms; a recalibration starts its frames over. -/
def Dev.hopTest (d : Dev) (t : Nat) : Dev :=
  let fe := d.fe t
  let on := bit (d.feCfg t) 62 && louder fe.noise fe.freq 4
  let run := if on then fe.hopRun + 1 else 0
  let free := !fe.lastHop.any fun h => decide (d.tim.elapsed < h + 250000000)
  if 3 ≤ run ∧ free then
    let b := quietest fe.noise
    let d := d.setFe t { fe with freq := b, hopRun := 0, lastHop := some d.tim.elapsed, hopped := true,
                                 recal := if fe.recal = 0 then 0 else 4, acc := if fe.recal = 0 then fe.acc else [] }
    let said := u8 fe.freq ++ u8 b ++ zeros 2
      ++ u32 (noiseField (fe.noise.getD fe.freq 0) 32) ++ u32 (noiseField (fe.noise.getD b 0) 32)
    (d.count2 .grtStat t 3).raise toPartners { code := 0xEA03, object := t, data := said }
  else d.setFe t { fe with hopRun := run, hopped := false }

/-! ### Baselines (12 R314 to R317) -/

/-- The baseline of a node at a frequency. -/
def FrontEnd.baseOf (fe : FrontEnd) (f k : Nat) : Int := smGet 0 fe.base (f * 8192 + k)

/-- A node's baseline changed by `x` at every frequency. -/
def FrontEnd.shift (fe : FrontEnd) (k : Nat) (x : Int) : FrontEnd :=
  { fe with base := (List.range 16).foldl (fun m f => smSet 0 m (f * 8192 + k) (smGet 0 m (f * 8192 + k) + x)) fe.base }

/-- TOUCH_BASELINE (12 R333): causes 0 first scan, 1 suspect, 2 recalibrated, 3 stored. -/
def Dev.baselineEvent (d : Dev) (t cause : Nat) : Dev := d.raise toPartners { code := 0xEA02, object := t, data := u8 cause }

/-- The commissioning copies of a unit. -/
def Dev.baseStore (d : Dev) (t : Nat) : BaseStore := smGet {} d.baseStores t

/-- Scanning is enabled (12 R314): the newer commissioning copy that passes its check is loaded; with none, the first scan frame becomes the
baseline. -/
def Dev.enableFe (d : Dev) (t : Nat) : Dev :=
  let s := d.baseStore t
  let copy := if s.newerB then s.b.or s.a else s.a.or s.b
  d.setFe t { enabled := true, freq := bits (d.feCfg t) 61 58, base := copy.getD [], firstScan := copy.isNone, waits := (d.fe t).waits,
              recal := if (d.fe t).waits.isEmpty then 0 else 4, recalMask := (d.fe t).recalMask, frames := (d.fe t).frames,
              stretched := (d.fe t).stretched }

/-- Scanning is disabled; contacts go without a report (notes/assumptions/18.md). -/
def Dev.disableFe (d : Dev) (t : Nat) : Dev := d.modFe t fun fe => { fe with enabled := false, contacts := [], starting := [] }

/-- GRT.BASE_STORE (12 R317): the baselines in force of the named units replace the older copies. -/
def Dev.storeBases (d : Dev) (units : List Nat) : Dev :=
  d.each units fun d t =>
    let s := d.baseStore t
    let b := (d.fe t).base
    let s := if s.newerB then { s with a := some b, newerB := false } else { s with b := some b, newerB := true }
    ({ d with baseStores := smInsert d.baseStores t s } : Dev).baselineEvent t 3

/-- Every contact of a unit that a test names ends with CANCEL. -/
def Dev.cancelTouches (d : Dev) (t : Nat) (f : Contact → Bool) : Dev :=
  let gone := (d.fe t).contacts.filter f
  (d.each gone fun d c => d.reportTouch t 4 c false).modFe t fun fe => { fe with contacts := fe.contacts.filter fun c => !f c }

/-- The channels of a group (12 Table 12.3). -/
def groupChannels (w : Nat) : List Nat :=
  if bits w 14 13 = 0 then [bits w 12 9] else (List.range (bits w 8 6 + 1)).map (bits w 12 9 + ·)

/-- A recalibration completes (12 R316): the mean of its four frames goes in force, contacts end with CANCEL, SUSPECT clears, and a command
that waited for no other unit replies. -/
def Dev.finishRecal (d : Dev) (t : Nat) : Dev :=
  let fe := d.fe t
  let use := fe.acc.filter fun e => decide (t < 4) || bit fe.recalMask e.1
  let d := d.cancelTouches t fun c => decide (t < 4) || (groupChannels (d.get .grtSelfGroup c.id)).any (bit fe.recalMask)
  let fe' := use.foldl (fun fe e =>
      let b := fe.baseOf fe.freq e.1
      fe.shift e.1 ((4 * b - e.2).tdiv 4 - b)) (d.fe t)
  let d := d.setFe t { fe' with recal := 0, recalMask := 0, acc := [], waits := [], suspect := false, baseSrc := 2 }
  let d := d.baselineEvent t 2
  d.each fe.waits fun d w =>
    if [0, 1, 2, 3, 4].any fun u => (d.fe u).waits.contains w then d else d.finishReply w.1 w.2.1 w.2.2 (rOk)

/-- TOUCH_RECALIBRATE (12 R316). -/
def recalibrateOp (c : Ctx) (feMask selfMask : Nat) (d : Dev) : Answer :=
  let fes := [0, 1, 2, 3].filter (bit feMask)
  let chans := (List.range 16).filter (bit selfMask)
  let holds := fun (n t : Nat) => (List.range (min 8 (d.gByte n 34))).any fun i => (d.region n i).1 == t
  let mayFe := fun (t : Nat) => c.act != 0 && d.tenExists c.act && holds c.act t && !tenNumbers.any fun n => n != c.act && d.tenExists n && holds n t
  let mayCh := fun (k : Nat) => c.act != 0 && d.tenExists c.act && bit (d.gLe c.act 32 2) k
  let ok := (c.ses.mediator && c.act == 0) || (fes.all mayFe && chans.all mayCh && c.act != 0)
  checked [(!d.present 19, stUnitAbsent), (!ok, stNotPermitted), (decide (16 ≤ feMask ∨ 65536 ≤ selfMask), stBadParam)] d fun d =>
    let w := (c.ses.port, c.ses.sid, c.seq)
    let d := d.each fes fun d t => d.modFe t fun fe => { fe with recal := 4, acc := [], waits := w :: fe.waits }
    let d := if chans.isEmpty then d
      else d.modFe 4 fun fe => { fe with recal := 4, acc := [], recalMask := fe.recalMask ||| selfMask, waits := w :: fe.waits }
    if fes.isEmpty && chans.isEmpty then (some rOk, d) else (none, d)

/-- The values of a frame enter a recalibration in progress: the sum of the deltas against the baseline in force. -/
def Dev.recalFrame (d : Dev) (t : Nat) (vals : List (Nat × Int)) : Dev :=
  let fe := d.fe t
  if fe.recal = 0 then d
  else
    let ds := vals.map fun e => (e.1, fe.baseOf fe.freq e.1 - e.2)
    let acc := ds.foldl (fun m e => smInsert m e.1 (smGet 0 m e.1 + e.2)) fe.acc
    let d := d.setFe t { fe with recal := fe.recal - 1, acc }
    if fe.recal = 1 then d.finishRecal t else d

/-! ### Nodes and contacts (12 R312, R313, R315) -/

/-- The key of a node. -/
def nodeKey (sense drive : Nat) : Nat := drive * 128 + sense

/-- Two nodes lie within `r` nodes of each other. -/
def nearNode (r s1 d1 s2 d2 : Nat) : Bool :=
  decide (s1 ≤ s2 + r ∧ s2 ≤ s1 + r ∧ d1 ≤ d2 + r ∧ d2 ≤ d1 + r)

/-- The delta at a node. -/
def deltaAt (ds : List (Nat × Int)) (k : Nat) : Int := ((ds.find? (·.1 == k)).map (·.2)).getD 0

/-- The nine nodes around one, within the panel. -/
def around (senses drives s v : Nat) : List (Nat × Nat) :=
  ([s - 1, s, s + 1].eraseDups.filter (· < senses)).flatMap fun a => ([v - 1, v, v + 1].eraseDups.filter (· < drives)).map fun b => (a, b)

/-- The centroid around a peak (12 R312), its weights doubled so that RELEASE_TH / 2 stays exact; none where every weight is 0. -/
def centroid (ds : List (Nat × Int)) (rel : Int) (senses drives s v : Nat) : Option (Nat × Nat) :=
  let ws := (around senses drives s v).map fun (a, b) => (a, b, (max 0 (2 * deltaAt ds (nodeKey a b) - rel)).toNat)
  let sum := (ws.map (·.2.2)).sum
  if sum = 0 then none
  else some ((ws.map fun w => 64 * w.1 * w.2.2).sum / sum, (ws.map fun w => 64 * w.2.1 * w.2.2).sum / sum)

/-- Where a contact is; with no weight at all the spec gives no position, and it is left open. -/
def Dev.placeTouch (d : Dev) (ds : List (Nat × Int)) (rel : Int) (senses drives s v : Nat) : (Nat × Nat) × Dev :=
  match centroid ds rel senses drives s v with
  | some p => (p, d)
  | none =>
    let (x, d) := d.fresh
    let (y, d) := d.fresh
    ((x % 65536, y % 65536), d)

/-- Two positions lie within 64 units of each other (notes/assumptions/18.md). -/
def within64 (x0 y0 x1 y1 : Nat) : Bool :=
  decide (((x0 : Int) - (x1 : Int)) ^ 2 + ((y0 : Int) - (y1 : Int)) ^ 2 ≤ 4096)

/-- A contact in a new frame: tracked to the greatest node near its peak and reported, or ended with UP. -/
def Dev.trackTouch (d : Dev) (t : Nat) (ds : List (Nat × Int)) (noisy : Bool) (c : Contact) : Dev :=
  let cfg := d.feCfg t
  let near := ds.filter fun e => nearNode 1 c.sense c.drive (e.1 % 128) (e.1 / 128) && decide (releaseTh cfg ≤ e.2)
  match argMax (fun (e : Nat × Int) => e.2.toNat) near with
  | none => (d.reportTouch t 3 c noisy).modFe t fun fe => { fe with contacts := fe.contacts.filter (·.id != c.id) }
  | some (k, z) =>
    let ((x, y), d) := d.placeTouch ds (releaseTh cfg) (bits cfg 51 45) (bits cfg 57 52) (k % 128) (k / 128)
    let still := within64 x y c.ax c.ay
    let c' := { c with sense := k % 128, drive := k / 128, x, y, z := z.toNat, fresh := false,
                       ax := if still then c.ax else x, ay := if still then c.ay else y,
                       at_ := if still then c.at_ else d.tim.elapsed }
    let d := d.reportTouch t (if c.fresh then 1 else 2) c' noisy
    d.modFe t fun fe => { fe with contacts := fe.contacts.map fun x => if x.id == c.id then c' else x }

/-- The lowest free number from 0: an ID up to 9; those beyond are tracked without a report. -/
def freeId (cs : List Contact) : Nat := ((List.range (cs.length + 1)).find? fun i => !cs.any (·.id == i)).getD 0

/-- A node that has stood at or above TOUCH_TH for two frames starts a contact. -/
def Dev.startTouch (d : Dev) (t : Nat) (ds : List (Nat × Int)) (noisy : Bool) (k : Nat) : Dev :=
  let cfg := d.feCfg t
  let s := k % 128
  let v := k / 128
  let cs := (d.fe t).contacts
  let peak := (around (bits cfg 51 45) (bits cfg 57 52) s v).all fun (a, b) => decide (deltaAt ds (nodeKey a b) ≤ deltaAt ds k)
  if !peak || cs.any fun c => nearNode 1 c.sense c.drive s v then d
  else
    let ((x, y), d) := d.placeTouch ds (releaseTh cfg) (bits cfg 51 45) (bits cfg 57 52) s v
    let (r, region) := d.routeTouch t x y
    let id := freeId cs
    let c : Contact := { id, sense := s, drive := v, x, y, z := (deltaAt ds k).toNat, ax := x, ay := y, at_ := d.tim.elapsed,
                         recipient := some r, region, fresh := false }
    let d := d.modFe t fun fe => { fe with contacts := fe.contacts ++ [c] }
    if 10 ≤ id then d.count2 .grtStat t 1 else d.reportTouch t 1 c noisy

/-- The slow drift of a node's baseline (12 R315): toward its value, at most 1 count in a second; whether it moves is left open. -/
def Dev.driftNode (d : Dev) (t : Nat) (e : Nat × Int) : Dev :=
  let fe := d.fe t
  let far := fe.contacts.all fun c => if t < 4 then !nearNode 2 c.sense c.drive (e.1 % 128) (e.1 / 128)
    else (groupChannels (d.get .grtSelfGroup c.id)).all fun k => !decide (k ≤ e.1 + 2 ∧ e.1 ≤ k + 2)
  let due := !(fe.driftAt.find? (·.1 == e.1)).any fun x => decide (d.tim.elapsed < x.2 + 1000000000)
  if far && due && decide (2 * e.2.natAbs < (releaseTh (d.feCfg t)).toNat) then
    let (v, d) := d.fresh
    if v % 2 = 0 then d
    else
      let k := fe.freq * 8192 + e.1
      d.modFe t fun fe => { fe with base := smSet 0 fe.base k (smGet 0 fe.base k - e.2.sign),
                                    driftAt := (e.1, d.tim.elapsed) :: fe.driftAt.filter (·.1 != e.1),
                                    acc := if fe.recal = 0 then fe.acc
                                      else smInsert fe.acc e.1 (smGet 0 fe.acc e.1 - (4 - (fe.recal : Int)) * e.2.sign) }
  else d

/-- The first scan frame becomes the baseline where no commissioning copy survives. -/
def Dev.firstScan (d : Dev) (t : Nat) (vals : List (Nat × Int)) : Dev :=
  if (d.fe t).firstScan then
    let fe := vals.foldl (fun (fe : FrontEnd) e => fe.shift e.1 (e.2 - fe.baseOf fe.freq e.1)) (d.fe t)
    (d.setFe t { fe with firstScan := false, baseSrc := 1 }).baselineEvent t 0
  else d

/-- More than 25 % of `total` nodes stand at or above TOUCH_TH: SUSPECT (12 R315). -/
def Dev.suspectTest (d : Dev) (t total : Nat) (ds : List (Nat × Int)) : Dev :=
  let n := (ds.filter fun e => decide ((touchTh (d.feCfg t)).toNat ≤ e.2.natAbs)).length
  if total < 4 * n ∧ !(d.fe t).suspect then
    ((d.cancelTouches t fun _ => true).modFe t fun fe => { fe with suspect := true, starting := [] }).baselineEvent t 1
  else d

/-- The console units scan: enabled, in service, and the device not in NIGHT (12 R332, 16 Table 16.11). -/
def Dev.feScans (d : Dev) (t : Nat) : Bool := (d.fe t).enabled && !d.inNight && !d.inReset 13 && !d.quarantined 0x0D t

/-- TOUCH_SCAN_FRAME (12 R309 to R316). -/
def touchScanOp (t : Nat) (f : ScanFrame) (d : Dev) : Dev :=
  if !d.feScans t then d
  else
    let cfg := d.feCfg t
    let d := (d.count2 .grtStat t 0).modFe t fun fe =>
      { fe with frames := fe.frames + 1, noise := (List.range 16).map fun k => smooth fe.noise[k]? (f.noise.getD k 0) }
    let vals := (f.nodes.filter fun n => decide (n.sense < bits cfg 51 45 ∧ n.drive < bits cfg 57 52)).map fun n => (nodeKey n.sense n.drive, n.value)
    let d := d.firstScan t vals
    let fe := d.fe t
    let ds := vals.map fun e => (e.1, fe.baseOf fe.freq e.1 - e.2)
    let noisy := louder fe.noise fe.freq 16
    let d := d.suspectTest t (bits cfg 51 45 * bits cfg 57 52) ds
    let d :=
      if (d.fe t).suspect then d
      else
        let d := d.each (d.fe t).contacts fun d c => d.trackTouch t ds noisy c
        let hot := (ds.filter fun e => decide (touchTh cfg ≤ e.2)).map (·.1)
        let d := d.each (hot.filter (d.fe t).starting.contains) fun d k => d.startTouch t ds noisy k
        d.modFe t fun fe => { fe with starting := hot }
    let d := d.each ds fun d e => d.driftNode t e
    (d.recalFrame t vals).hopTest t

/-- A contact has rested for GRT.STUCK_S: TOUCH_STUCK, once for that contact (12 R313). -/
def touchStuckOp (t id : Nat) (d : Dev) : Dev :=
  match (d.fe t).contacts.find? fun c => c.id == id && !c.stuck with
  | none => d
  | some c =>
    let d := d.modFe t fun fe => { fe with contacts := fe.contacts.map fun x => if x.id == id then { x with stuck := true } else x }
    match c.recipient with
    | none => d
    | some r =>
      if 10 ≤ id then d
      else d.raise (toRecipient r) { code := 0xEA01, object := t, tenancy := r,
                                     data := u8 id ++ u8 r ++ u16 c.x ++ u16 c.y ++ u32 ((d.tim.elapsed - c.at_) / 1000000000) }

/-! ### Self-capacitance groups (12 R318, R319) -/

/-- The position of a group touch at a peak place (12 R319); none where every weight is 0. -/
def groupPos (kind : Nat) (ws : List Nat) (peak : Nat) : Option Nat :=
  let n := ws.length
  if kind = 0 then some 0
  else
    let places : List Int := [(peak : Int) - 1, (peak : Int), (peak : Int) + 1]
    let at_ := fun (i : Int) =>
      if kind = 2 then ws.getD (i % (n : Int)).toNat 0
      else if 0 ≤ i ∧ i < (n : Int) then ws.getD i.toNat 0 else 0
    let sum := (places.map at_).sum
    if sum = 0 then none
    else
      let p := (256 * (places.map fun i => i * ((at_ i : Nat) : Int)).sum).tdiv (sum : Int)
      some (if kind = 2 then (p % ((256 * n : Nat) : Int)).toNat else p.toNat)

/-- A group in a new frame: its touch starts, moves or ends. -/
def Dev.groupFrame (d : Dev) (ds : List (Nat × Int)) (noisy : Bool) (g : Nat) : Dev :=
  let w := d.get .grtSelfGroup g
  let cfg := d.feCfg 4
  let cs := groupChannels w
  let vals := cs.map (deltaAt ds)
  let peak := (List.range vals.length).foldl (fun b i => if vals.getD b 0 < vals.getD i 0 then i else b) 0
  let z := vals.getD peak 0
  let (pos, d) := match groupPos (bits w 14 13) (vals.map fun v => (max 0 (2 * v - releaseTh cfg)).toNat) peak with
    | some p => (p, d)
    | none => let (v, d) := d.fresh; (v % 65536, d)
  match (d.fe 4).contacts.find? (·.id == g) with
  | some c =>
    if !bit w 15 || decide (z < releaseTh cfg) then
      (d.reportTouch 4 3 c noisy).modFe 4 fun fe => { fe with contacts := fe.contacts.filter (·.id != g) }
    else
      let c' := { c with x := pos, z := z.toNat, fresh := false }
      (d.reportTouch 4 (if c.fresh then 1 else 2) c' noisy).modFe 4 fun fe =>
        { fe with contacts := fe.contacts.map fun x => if x.id == g then c' else x }
  | none =>
    if bit w 15 && decide (touchTh cfg ≤ z) && (d.fe 4).starting.contains g then
      let c : Contact := { id := g, sense := 0, drive := 0, x := pos, y := 0, z := z.toNat, ax := 0, ay := 0, at_ := d.tim.elapsed,
                           recipient := some (d.selfOwner cs), region := 0xFF, fresh := false }
      (d.modFe 4 fun fe => { fe with contacts := fe.contacts ++ [c] }).reportTouch 4 1 c noisy
    else d

/-- SELF_SCAN_FRAME (12 R318, R319): the listen slot measures eight frequencies in turn, and the hop is tested after each pair of frames. -/
def selfScanOp (f : SelfFrame) (d : Dev) : Dev :=
  if !d.feScans 4 then d
  else
    let cfg := d.feCfg 4
    let half := (d.fe 4).frames % 2
    let d := (d.count2 .grtStat 4 0).modFe 4 fun fe =>
      { fe with frames := fe.frames + 1, noise := (List.range 16).map fun k =>
          if k / 8 = half then smooth (if fe.frames < 2 then none else fe.noise[k]?) (f.noise.getD (k % 8) 0) else fe.noise.getD k 0 }
    let vals := f.values.filter fun v => decide (v.1 < 16)
    let d := d.firstScan 4 vals
    let fe := d.fe 4
    let ds := vals.map fun e => (e.1, fe.baseOf fe.freq e.1 - e.2)
    let noisy := louder fe.noise fe.freq 16
    let d := d.suspectTest 4 16 ds
    let d :=
      if (d.fe 4).suspect then d
      else
        let d := d.each (List.range 16) fun d g => d.groupFrame ds noisy g
        let hot := (List.range 16).filter fun g =>
          bit (d.get .grtSelfGroup g) 15 && (groupChannels (d.get .grtSelfGroup g)).any fun k => decide (touchTh cfg ≤ deltaAt ds k)
        d.modFe 4 fun fe => { fe with starting := hot }
    let d := d.each ds fun d e => d.driftNode 4 e
    let d := d.recalFrame 4 vals
    if half = 1 then d.hopTest 4 else d.modFe 4 fun fe => { fe with hopped := false }

/-- GRT.STATUS (12 Table 12.2). -/
def Dev.touchStatus (d : Dev) (t : Nat) : Nat :=
  let fe := d.fe t
  ((fe.baseSrc % 4) <<< 30) + (fe.suspect.toNat <<< 29) + ((fe.freq % 16) <<< 25)
    + (((fe.contacts.filter fun c => decide (4 ≤ t ∨ c.id < 10)).length % 16) <<< 21) + (fe.stretched.toNat <<< 20)
    + (noiseField (fe.noise.getD fe.freq 0) 16 <<< 4)

/-- A ring is enabled (12 R323): what is routed to it is reported with DOWN in the next frame. -/
def Dev.ringEnabled (d : Dev) (r : Nat) : Dev :=
  d.each [0, 1, 2, 3, 4] fun d t => d.modFe t fun fe =>
    { fe with contacts := fe.contacts.map fun c => if c.recipient == some r then { c with fresh := true } else c }

/-- Regions and channels are withdrawn from recipient `r` (12 R321): what they hold is reported once more with CANCEL, then to no one. -/
def Dev.withdrawTouches (d : Dev) (r : Nat) (keeps : Nat → Contact → Bool) : Dev :=
  d.each [0, 1, 2, 3, 4] fun d t =>
    let gone := (d.fe t).contacts.filter fun c => c.recipient == some r && !keeps t c
    (d.each gone fun d c => d.reportTouch t 4 c false).modFe t fun fe =>
      { fe with contacts := fe.contacts.map fun c => if c.recipient == some r && !keeps t c then { c with recipient := none } else c }

/-! ### Haptics (12 R324 to R326) -/

/-- The segments of a waveform as they are driven (12 R325): the drive in µV, and its duration in ms. -/
def Dev.hapSegments (d : Dev) (v waveform m : Nat) : List (Int × Nat) :=
  let w := d.get .hapWave (Par.hapWave.info.elem v waveform)
  let cfg := d.get .hapCfg v
  let rated : Int := (bits cfg 19 12 * 20000 : Nat)
  let clamp : Int := (bits cfg 11 4 * 20000 : Nat)
  let segs := ((List.range 16).map fun i => bits w (16 * i + 15) (16 * i)).takeWhile fun s => s % 256 != 0
  segs.map fun s =>
    let a := toSigned 8 (s / 256)
    let x := (rated * a * (m : Int)).tdiv (127 * 255)
    let x := if bit cfg 30 && decide (x < 0) then 0 else x
    (max (-clamp) (min clamp x), s % 256)

/-- The play at the front of a driver's queue starts. -/
def Dev.startPlay (d : Dev) (v : Nat) : Dev :=
  match (d.hap v).queue with
  | [] => d
  | p :: _ => d.send (.haptic v p.waveform p.amplitude (d.hapSegments v p.waveform p.amplitude))

/-- HAPTIC_DONE (12 R333): causes 0 completed, 1 flushed, 2 fault. -/
def Dev.hapDone (d : Dev) (v waveform cause : Nat) : Dev :=
  let o := d.hapOwner v
  d.raise (toOwnerMed o) { code := 0xEA05, object := v, tenancy := o, data := u8 waveform ++ u8 cause }

/-- A driver's queue is flushed. -/
def Dev.flushPlays (d : Dev) (v cause : Nat) : Dev :=
  let q := (d.hap v).queue
  d.each q (fun d p => d.hapDone v p.waveform cause) |>.modHap v fun h => { h with queue := [], openLoop := false }

/-- HAPTIC_PLAY (12 R326). -/
def hapticPlayOp (c : Ctx) (v waveform amplitude rep : Nat) (d : Dev) : Answer :=
  checked [(!d.present 18, stUnitAbsent), (decide (8 ≤ v), stBadParam),
    (!(c.owns (d.hapOwner v)), stNotPermitted),
    (decide (7 < waveform) || !d.flag .hapCfg v 31, stBadParam), (decide (4 ≤ (d.hap v).queue.length), stBusyRetry)] d fun d =>
    if d.quarantined 0x0E v then (some { st := stFaulted, ph := 1 }, d)
    else
      let idle := (d.hap v).queue.isEmpty
      let d := d.modHap v fun h => { h with queue := h.queue ++ [⟨waveform, amplitude, 1 + rep⟩] }
      (some rOk, if idle && !(d.hap v).stopped then d.startPlay v else d)

/-- A play ends, and the next starts. -/
def hapticEndOp (v : Nat) (d : Dev) : Dev :=
  match (d.hap v).queue with
  | [] => d
  | p :: q =>
    let d := (d.modHap v fun h => { h with queue := q, openLoop := false }).count2 .hapStat v 0
    (d.hapDone v p.waveform 0).startPlay v

/-- No crossing in 8 windows: open-loop at F0_HZ for the rest of the play (12 R325). -/
def trackLostOp (v freq : Nat) (d : Dev) : Dev :=
  let h := d.hap v
  if h.queue.isEmpty || h.openLoop || !(d.flag .hapCfg v 29) || d.flag .hapCfg v 30 then d
  else
    let o := d.hapOwner v
    ((d.setHap v { h with openLoop := true }).count2 .hapStat v 2).raise (toOwnerMed o)
      { code := 0xEA06, object := v, tenancy := o, data := u16 freq }

/-! ### Audio (12 R327 to R331) -/

/-- A gain in tenths of a dB below full, as R330 computes it. -/
def gain (a : Nat) : Rat := if a = 0 then 1 else ((Config.gainOf a : Nat) : Rat) / 2147483648

/-- A gain register's value, 1023 muting. -/
def gainReg (a : Nat) : Rat := if a = 1023 then 0 else gain a

/-- Full scale of a 24-bit sample. -/
def fullScale : Rat := 8388607

/-- One sample of a ring as a 24-bit value: 16-bit samples are the upper bits of it, 24-bit ones the low bytes of their container
(notes/assumptions/19.md). -/
def sampleOf (wide : Bool) (b : Bytes) : Int := if wide then toSigned 24 (leVal b) else toSigned 16 (leVal b) * 256

/-- A block of 16 samples read from a ring of 2^log bytes, the read count before it. -/
def Dev.ringBlock (d : Dev) (base log rd : Nat) (wide : Bool) : List Int :=
  let n := if wide then 4 else 2
  (List.range 16).map fun i => sampleOf wide ((List.range n).map fun k => d.peek (base + (rd + n * i + k) % 2 ^ log))

/-- The block of one input: its samples, silence where its ring holds less, and the counters (12 R328). -/
def Dev.inputBlock (d : Dev) (i : Nat) : List Int × Dev :=
  let cfg := d.get .audInCfg i
  if !bit cfg 31 then (List.replicate 16 0, d)
  else
    let wide := bit cfg 30
    let n := if wide then 64 else 32
    let rd := d.get .audInRd i
    let buf := d.get .audInBuf i
    if (d.get .audInWr i + 2 ^ 32 - rd) % 2 ^ 32 < n then (List.replicate 16 0, d.count2 .audStat i 1)
    else (d.ringBlock (bits buf 63 16) (bits buf 15 11) rd wide, (d.put .audInRd i (rd + n)).count2 .audStat i 0)

/-- AUDIO_ALERT goes to every partner session and the tenancy that holds ALERT. -/
def Dev.alertEvent (d : Dev) (on : Bool) : Dev :=
  let h := d.alertHolder
  d.raise (fun s => s.role == 0 || (h != 0 && s.role == h)) { code := 0xEA08, object := 0, tenancy := h, on }

/-- EN of the alert reads 0 while no tenancy holds ALERT (12 R329). -/
def Dev.alertEn (d : Dev) : Bool := d.flag .audAlertCfg 0 31 && d.alertHolder != 0

/-- The alert's block: it becomes active with data in its ring, and its silence is timed from the block that finds it empty. -/
def Dev.alertBlock (d : Dev) : List Int × Dev :=
  let rd := d.get .audAlertRd
  let held := (d.get .audAlertWr + 2 ^ 32 - rd) % 2 ^ 32
  if !d.alertEn then (List.replicate 16 0, d)
  else if held = 0 then
    let a := d.aud
    let since := if a.emptySince.isNone then some d.tim.elapsed else a.emptySince
    (List.replicate 16 0, ({ d with aud := { a with emptySince := since } } : Dev).when a.alertActive fun d => d.count2 .audStat 32 1)
  else
    let was := d.aud.alertActive
    let d : Dev := { d with aud := { d.aud with alertActive := true, emptySince := none } }
    let d := d.when (!was) fun d => d.alertEvent true
    let wide := d.flag .audAlertCfg 0 30
    let n := if wide then 64 else 32
    if held < n then (List.replicate 16 0, d.count2 .audStat 32 1)
    else
      let buf := d.get .audAlertBuf
      (d.ringBlock (bits buf 63 16) (bits buf 15 11) rd wide, (d.put .audAlertRd 0 (rd + n)).count2 .audStat 32 0)

/-- The duck in tenths of a dB at a ramp position of 0 to 240. -/
def duckAt (duck p : Nat) : Nat := if p = 0 then 0 else if 240 ≤ p then duck else Config.duckRamp duck p

/-- One sample of one slot (12 R330): the sample, and the limiter after it. `duck` is what the ramp has reached, `act` that the alert sounds here. -/
def mixSlot (slotAtt : Nat) (xs : List (Int × Nat)) (act : Bool) (duck : Nat) (alert : Int) (alertAtt lim : Nat) : Int × Nat :=
  let n := (xs.map fun (x, att) => (x : Rat) * (if att = 1023 then 0 else gain (att + duck))).sum * gainReg slotAtt
  let m := if act then (alert : Rat) * (if alertAtt = 1023 then 0 else gain (alertAtt + min slotAtt 120)) else 0
  let l : Rat := ((lim : Nat) : Rat) / 2147483648
  let v := n * l + m
  -- the value of the limiter that keeps the sum within full scale
  let cap : Rat := if n = 0 then 1 else
    (if 0 < n then (fullScale - m) / n else (-fullScale - m) / n)
  let l' : Rat := if v ≤ fullScale ∧ -fullScale ≤ v then l else max 0 (min l cap)
  let v' := max (-fullScale) (min fullScale (n * l' + m))
  let next := if l' = l then min 2147483648 (Config.limRecover lim) else (l' * 2147483648).floor.toNat
  (if v' < 0 then -((-v').floor) else v'.floor, if lim = 2147483648 ∧ l' = l then lim else next)

/-- The slots that a port carries: I2S has two, TDM 2, 4 or 8. -/
def portSlots (port cfg : Nat) : List Nat :=
  let n := if !bit cfg 31 then 0 else if bit cfg 29 then 2 else 2 ^ (bits cfg 28 27 + 1)
  (List.range (min 8 n)).map (8 * port + ·)

/-- The mixer's samples of one sample period: the samples of the 16 slots, with the limiters and the duck ramp after it. -/
def Dev.mixSample (d : Dev) (ins : List (Nat × List Int)) (alert : List Int) (j : Nat) : List Int × Dev :=
  let a := d.aud
  let duckMax := d.fld .audAlertCfg 0 19 10
  let act := a.alertActive && d.alertEn
  let ramp := if act then min 240 (a.duck + 1) else a.duck - 1
  let route := d.get .audAlertRoute
  let res := (List.range 16).map fun s =>
    let xs := (ins.filter fun e => bit (d.get .audRoute e.1) s).map fun e => (e.2.getD j 0, d.fld .audInCfg e.1 29 20)
    let here := bit route s
    mixSlot (d.get .audSlotAtt s % 1024) xs (act && here) (if here then duckAt duckMax ramp else 0) (alert.getD j 0) (d.fld .audAlertCfg 0 29 20)
      (smGet 2147483648 a.lim s)
  let lim := (List.range 16).foldl (fun m s => smSet 2147483648 m s ((res.getD s (0, 2147483648)).2)) a.lim
  (res.map (·.1), { d with aud := { a with duck := ramp, lim } })

/-- AUDIO_BLOCK: a block of 16 samples is read from each input, mixed and sent on the enabled ports; a mixer out of service sends
silence (16 Table 16.11), and in NIGHT both ports are silent (12 R332). -/
def audioBlockOp (d : Dev) : Dev :=
  if d.inNight then d
  else if !d.inService 0x0F then
    d.each [0, 1] fun d p =>
      let n := (portSlots p (d.get .audPortCfg p)).length
      if n = 0 then d else d.send (.audio p (List.replicate (16 * n) 0))
  else
    let (ins, d) := (List.range 32).foldl (fun (l, d) i =>
      if d.flag .audInCfg i 31 then (let (b, d) := d.inputBlock i; (l ++ [(i, b)], d)) else (l, d)) (([] : List (Nat × List Int)), d)
    let (alert, d) := d.alertBlock
    let (out, d) := (List.range 16).foldl (fun (l, d) j => let (s, d) := d.mixSample ins alert j; (l ++ [s], d)) (([] : List (List Int)), d)
    d.each [0, 1] fun d p =>
      let slots := portSlots p (d.get .audPortCfg p)
      if slots.isEmpty then d else d.send (.audio p (out.flatMap fun s => slots.map fun k => s.getD k 0))

/-- The alert's ring has been empty for 50 ms. -/
def alertIdleOp (d : Dev) : Dev :=
  if d.aud.alertActive && d.aud.emptySince.isSome then ({ d with aud := { d.aud with alertActive := false } } : Dev).alertEvent false else d

/-- AUD.PORT_CFG changes (12 R331): where the alert routes to slots that are lost, the audit log and AUDIO_PORT_OFF say so; slots that come
back are told of with ON = 0. -/
def Dev.portSlotsChanged (d : Dev) (port old new : Nat) : Dev :=
  let route := d.get .audAlertRoute
  let mask := fun (l : List Nat) => ((l.filter (bit route)).map (2 ^ ·)).sum
  let was := portSlots port old
  let is := portSlots port new
  let lost := mask (was.filter fun s => !is.contains s)
  let back := mask (is.filter fun s => !was.contains s)
  let d := d.when (lost != 0) fun d =>
    (d.audit 0x000B (u8 port ++ u16 lost)).raise toPartners { code := 0xEA09, object := port, data := u16 lost, on := true }
  d.when (back != 0) fun d => d.raise toPartners { code := 0xEA09, object := port, data := u16 back, on := false }

/-- NIGHT begins (12 R332): every touch ends with CANCEL, and haptic queues are flushed. -/
def Dev.consoleNight (d : Dev) : Dev :=
  let d := d.each [0, 1, 2, 3, 4] fun d t => (d.cancelTouches t fun _ => true).modFe t fun fe => { fe with starting := [] }
  d.each [0, 1, 2, 3, 4, 5, 6, 7] fun d v => d.flushPlays v 1

/-! ### Commands -/

/-- Command TOUCH_STUCK. -/
def execTouchStuck (fe id : Nat) (s : State) : Host.Outcome State Fault Refusal :=
  onDev (Instr.wellFormed (.touchStuck fe id)) (touchStuckOp fe id) s

/-- Command HAPTIC_PLAY_END. -/
def execHapticPlayEnd (driver : Nat) (s : State) : Host.Outcome State Fault Refusal :=
  onDev (Instr.wellFormed (.hapticPlayEnd driver)) (hapticEndOp driver) s

/-- Command HAPTIC_TRACK_LOST. -/
def execHapticTrackLost (driver freq : Nat) (s : State) : Host.Outcome State Fault Refusal :=
  onDev (Instr.wellFormed (.hapticTrackLost driver freq)) (trackLostOp driver freq) s

/-- Command AUDIO_BLOCK. -/
def execAudioBlock (s : State) : Host.Outcome State Fault Refusal := onDev (Instr.wellFormed .audioBlock) audioBlockOp s

/-- Command ALERT_IDLE_EXPIRE. -/
def execAlertIdleExpire (s : State) : Host.Outcome State Fault Refusal := onDev (Instr.wellFormed .alertIdleExpire) alertIdleOp s

end Sys2Proof.Machine
end

