-- ==== Sys2Proof/Machine/Links.lean ====
section
/-!
DEFINITION. The external links (14): Ethernet ports and their neighbours, the PCIe endpoints, the Mindanko link layer, the DisplayPort output
links, eye scans.
-/

namespace Sys2Proof.Machine

/-! ### Ethernet (14 R371 to R374) -/

/-- The link of a port goes down (14 R374): counted and reported, and the port is no time port. -/
def ethLinkDownOp (p : Nat) (d : Dev) : Dev :=
  if !(d.eth p).up then d
  else
    let d := (d.modEth p fun e => { e with up := false }).count2 .lnkEthStat p 6
    let d := d.when (d.tim.slavePort == p) fun d => { d with tim := { d.tim with slavePort := 0xF, gmValid := false } }
    d.linkEvent p (d.fld .lnkEthCfg p 62 62) 1 false

/-- Frames that waited leave by strict priority (14 R373). -/
def Dev.ethDrain (d : Dev) (p : Nat) : Dev :=
  let q := sortOn (·.1) (d.eth p).tx
  (d.modEth p fun e => { e with tx := [] }).each q fun d f => d.ethTx p f.1 f.2

/-- Block lock returns on an enabled port (14 R374): two membership reports for each group, the second 1 s later (04 R97). -/
def ethLinkUpOp (p : Nat) (d : Dev) : Dev :=
  if !d.flag .lnkEthCfg p 63 || (d.eth p).up || !d.inService (0x10 + p) then d
  else
    let d := d.modEth p fun e => { e with up := true, groupRepeat := e.groups }
    let d := d.linkEvent p (d.fld .lnkEthCfg p 62 62) 1 true
    (d.ethDrain p).each (d.eth p).groups fun d g => d.groupTx p g true

/-- The factory latencies of a port at its SPEED and FEC (14 R374). -/
def Dev.reloadLatency (d : Dev) (p : Nat) : Dev :=
  let speed := d.fld .lnkEthCfg p 62 62
  let fec := d.fld .lnkEthCfg p 61 60
  (d.put .timPortLatRx p (Config.portLat true p speed fec)).put .timPortLatTx p (Config.portLat false p speed fec)

/-- A write of LNK.ETH_CFG that changes EN, SPEED or FEC restarts the PHY (14 R371, R374). -/
def ethCfgWritten (p old : Nat) (d : Dev) : Dev :=
  let now := d.get .lnkEthCfg p
  let d := d.when (bits old 63 60 != bits now 63 60) (ethLinkDownOp p)
  d.when (bits old 62 60 != bits now 62 60) fun d => d.reloadLatency p

/-- Table 14.3: FEC 0b10 with 10GBASE-R, the reserved FEC, MTU and the prefix lengths out of range. -/
def ethCfgOk (w : Nat) : Bool :=
  bits w 61 60 != 3 && !(bits w 61 60 == 2 && bit w 62) && decide (1280 ≤ bits w 59 46 ∧ bits w 59 46 ≤ 9194)
    && decide (bits w 23 16 ≤ 32 ∧ bits w 15 8 ≤ 128)

/-- The third attempt stands unanswered for 1 s, and its packets are dropped; before that the request is repeated (14 R372). -/
def arpRetryOp (p ip : Nat) (d : Dev) : Dev :=
  let n := (d.eth p).entry ip
  if n.attempts = 0 ∨ n.mac.isSome then d
  else if n.attempts < 3 then
    (d.modEth p fun e => { e with neigh := smSet {} e.neigh ip { n with attempts := n.attempts + 1 } }).ethTx p 0 (.neighbourRequest p ip)
  else
    (d.modEth p fun e => { e with neigh := smErase e.neigh ip }).count2 .lnkEthStat p 3 n.waiting.length

/-- A resolved entry ages out 300 s after it was made (14 R372). -/
def neighborAgeOp (p ip : Nat) (d : Dev) : Dev :=
  if ((d.eth p).entry ip).mac.isSome then d.modEth p fun e => { e with neigh := smErase e.neigh ip } else d

/-- An address of the port: its IPv4 address, its global IPv6 address, or the link-local one that EUI-64 makes of its MAC address (Table 14.2). -/
def Dev.isOwnIp (d : Dev) (p ip : Nat) : Bool :=
  let mac := d.get .lnkEthMac p
  let eui := (bits mac 47 24 ^^^ 0x020000) * 2 ^ 40 + 0xFFFE * 2 ^ 24 + bits mac 23 0
  ip != 0 && (ip == d.get .lnkEthIp4 p || ip == d.get .lnkEthIp6 p || ip == 0xFE80 * 2 ^ 112 + eui)

/-- An ARP or NDP message arrives: the neighbour it tells of is resolved where it is asked for or asks for the port, and a request for the port
is answered. -/
def neighbourRx (p ip mac : Nat) (isRequest : Bool) (target : Nat) (d : Dev) : Dev :=
  let mine := d.isOwnIp p target
  let n := (d.eth p).entry ip
  let d := if 0 < n.attempts ∨ (isRequest && mine) then
      (d.modEth p fun e =>
        let e := if 0 < n.attempts then e else e.roomForOne
        { e with neigh := smSet {} e.neigh ip { mac := some mac, attempts := 1, waiting := [], made := d.tim.elapsed } }).each n.waiting
          fun d f => d.ethTx p f.1 f.2
    else d
  d.when (isRequest && mine) fun d => d.ethTx p 0 (.neighbourReply p ip mac)

/-- A frame that waited longer than 100 ms is discarded and counted (14 R373): the one that waited longest. -/
def ethTxTimeoutOp (p : Nat) (d : Dev) : Dev :=
  match (d.eth p).tx with
  | [] => d
  | _ :: q => (d.modEth p fun e => { e with tx := q }).count2 .lnkEthStat p 3

/-! ### PCIe (14 R375 to R380) -/

/-- An endpoint has finished link training, once the option loader has configured it (14 R375); the rate and width it trained to are open. -/
def pcieLinkUpOp (h : Nat) (d : Dev) : Dev :=
  if (d.pcie h).up || d.rst.stage != .idle || !d.inService (0x1A + h) then d
  else
    let (rate, d) := d.fresh
    let (lanes, d) := d.fresh
    (d.modPcie h fun e => { e with up := true }).linkEvent (10 + h) rate lanes true

/-- A reset of an endpoint's function (14 R379): its rings and event rings, its sessions, its MSI-X table; a fundamental reset (PERST) brings the
stored BAR2 size into force (14 R376). -/
def pcieResetOp (h : Nat) (kind : PcieReset) (d : Dev) : Dev :=
  let d := { d with rings := d.rings.filter fun r => r.1 / 128 != h, evtRings := d.evtRings.filter fun r => r.1 / 16 != h }
  let d := d.each ((d.sessions.map (·.port)).filter fun p => (d.pageOf p).any fun e => e.1 == h) fun d p => d.closeSession p 3
  let was := d.pcie h
  let down := kind = .perst || kind = .linkDown
  let size := if kind = .perst then d.get (if h = 0 then .lnkH0Bar2Size else .lnkH1Bar2Size) else was.bar2Log
  let d := d.setPcie h { up := was.up && !down, bar2Log := size }
  let (rate, d) := if was.up && down then d.fresh else (0, d)
  let (lanes, d) := if was.up && down then d.fresh else (0, d)
  d.when (was.up && down) fun d => d.linkEvent (10 + h) rate lanes false

/-- A queue of `n` bytes at a host bus address lies in the endpoint's outbound window (14 R377). -/
def Dev.inOutbound (d : Dev) (h base n : Nat) : Bool :=
  let o := d.get (if h = 0 then .lnkH0OutBase else .lnkH1OutBase)
  decide (o ≤ base ∧ base + n ≤ o + 2 ^ 46)

/-- A host writes a ring's or the event ring's configuration (10 R256, 14 R377, R378): only while EN is 0, on a page assigned to this endpoint;
EN stays 0 where a queue or the vector does not fit. Writing EN = 0 is taken at any time. -/
def ringCfgOp (h page ring : Nat) (evt : Bool) (c : RingCfg) (d : Dev) : Dev :=
  let n := d.ringsGranted h page
  let vec := decide (8 * page ≤ c.msix ∧ c.msix < 8 * page + 8)
  let log := fun (l : Nat) => decide (4 ≤ l ∧ l ≤ 12)
  if page ≠ 0 ∧ n = 0 then d
  else if evt then
    let r := d.evr (h * 16 + page)
    if r.en then (if c.en then d else d.setEvr (h * 16 + page) { r with en := false })
    else
      let ok := vec && log c.sqLog2 && decide (c.sqBase % 64 = 0) && d.inOutbound h c.sqBase (128 * 2 ^ c.sqLog2)
      let d := d.setEvr (h * 16 + page) { base := c.sqBase, log2 := c.sqLog2, msix := c.msix, en := c.en && ok, tail := 0, head := 0 }
      d.eventSpaceBack (pagePort h page)
  else if n ≤ ring then d
  else
    let k := (h * 16 + page) * 8 + ring
    let r := d.rng k
    if r.cfg.en then (if c.en then d else d.setRng k { r with cfg := { r.cfg with en := false } })
    else
      let ok := vec && log c.sqLog2 && log c.cqLog2 && decide (c.sqBase % 64 = 0 ∧ c.cqBase % 64 = 0)
        && d.inOutbound h c.sqBase (32 * 2 ^ c.sqLog2) && d.inOutbound h c.cqBase (16 * 2 ^ c.cqLog2)
      d.setRng k { cfg := { c with en := c.en && ok }, sqHead := 0, cqTail := 0, cqHead := 0 }

/-- The host clears the mask of a vector: a pending message is sent (14 R378). -/
def msixUnmaskOp (h v : Nat) (d : Dev) : Dev :=
  let e := d.pcie h
  let d := d.setPcie h { e with masked := e.masked.filter (· != v), pendingVec := e.pendingVec.filter (· != v) }
  d.when (e.pendingVec.contains v) fun d => d.send (.msix h v)

/-! ### Mindanko (14 R381 to R390) -/

/-- What a Mindanko transmitter sends (`Out.mdk`): a frame, an ACK, a NAK, the commas of STARTUP, EIDLE, an exit burst. -/
abbrev mkFrame : Nat := 0
/-- ACK. -/
abbrev mkAck : Nat := 1
/-- NAK. -/
abbrev mkNak : Nat := 2
/-- Comma blocks in STARTUP. -/
abbrev mkComma : Nat := 3
/-- Four EIDLE blocks. -/
abbrev mkEidle : Nat := 4
/-- An exit burst. -/
abbrev mkBurst : Nat := 5

/-- A Mindanko counter. -/
def Dev.mdkCount (d : Dev) (p k : Nat) (n : Nat := 1) : Dev := d.count2 .mdkStat p k n

/-- The port has its link: ACTIVE or IDLE (15 R400). -/
def Mdk.linked (m : Mdk) : Bool := m.st = .active || m.st = .idle

/-- Frames of a chain link wait in this order (15 R402): GO, READY, PTP, RESET_REQ, DISCOVER, CONTROL, SUMMARY, SLICE. -/
def chainPrio (ftype : Nat) : Nat :=
  match ftype with
  | 4 => 0 | 3 => 1 | 5 => 2 | 9 => 3 | 8 => 4 | 1 => 5 | 6 => 6 | _ => 7

/-- A port's state changes; its link's gain or loss is reported (14 R397). Entering STARTUP, DOWN or TEST discards the replay buffers and starts
the numbers over (notes/assumptions/21.md). -/
def Dev.mdkEnter (d : Dev) (p : Nat) (st : MdkSt) : Dev :=
  let m := d.mdk p
  let keep := st = .active || st = .idle || st = .recovery
  let m' : Mdk := if keep then { m with st, eidleSent := false, eidleRcvd := false, commas := false }
    else { st, rxUp := m.rxUp && st != .down, inv := m.inv, skew := m.skew }
  let d := d.setMdk p m'
  let d := d.when (st == .recovery && m.st != .recovery) fun d => d.mdkCount p 5
  let d := d.when (st == .idle && m.st != .idle) fun d => d.mdkCount p 6
  if m.linked == m'.linked then d else d.linkEvent (8 + p) 0 4 m'.linked

/-- Frames that wait are started while the replay buffer has room (14 R385); out of IDLE, an exit burst goes first (14 R387). -/
def Dev.mdkPump (d : Dev) (p : Nat) : Dev :=
  let m := d.mdk p
  if m.waiting.isEmpty || !m.linked then d
  else
    let d := if m.st = .idle then (d.mdkEnter p .active).send (.mdk p mkBurst 0 []) else d
    let m := d.mdk p
    let n := 64 - m.replay.length
    d.each (m.waiting.take n) fun d f =>
      let m := d.mdk p
      ((d.setMdk p { m with txSeq := (m.txSeq + 1) % 65536, replay := m.replay ++ [(m.txSeq, f.1, f.2)], waiting := m.waiting.drop 1,
                            eidleSent := false, eidleRcvd := false }).send (.mdk p mkFrame m.txSeq (u8 f.1 ++ f.2))).mdkCount p 0

/-- A chain frame is given to a port: it waits by its priority; a port out of service takes none. -/
def Dev.mdkSend (d : Dev) (p ftype : Nat) (body : Bytes) : Dev :=
  let m := d.mdk p
  if m.linked || m.st = .recovery then
    let before := m.waiting.filter fun f => chainPrio f.1 ≤ chainPrio ftype
    let after := m.waiting.filter fun f => !(decide (chainPrio f.1 ≤ chainPrio ftype))
    (d.setMdk p { m with waiting := before ++ [(ftype, body)] ++ after }).mdkPump p
  else d

/-- A cumulative ACK for the highest frame in order. -/
def Dev.mdkAck (d : Dev) (p : Nat) : Dev :=
  let m := d.mdk p
  (d.setMdk p { m with sinceAck := 0, ackDue := false }).send (.mdk p mkAck ((m.expect + 65535) % 65536) [])

/-- A NAK for the next expected frame. -/
def Dev.mdkNak (d : Dev) (p : Nat) : Dev :=
  let m := d.mdk p
  ((d.setMdk p { m with nakOut := true }).send (.mdk p mkNak m.expect [])).mdkCount p 3

/-- The frames in the replay buffer from a number on. -/
def Mdk.from_ (m : Mdk) (seq : Nat) : List (Nat × Nat × Bytes) := m.replay.filter fun f => !(serialGt 16 seq f.1)

/-- The transmitter resends from a frame it holds; when four resends have brought no progress, the direction retrains (14 R385). -/
def Dev.mdkResend (d : Dev) (p seq : Nat) : Dev :=
  let m := d.mdk p
  if !(m.replay.any (·.1 == seq)) then d
  else if 4 ≤ m.resends then (d.modMdk p fun m => { m with resends := 0 }).mdkEnter p .recovery
  else
    let fs := m.from_ seq
    let d := d.setMdk p { m with resends := m.resends + 1, eidleSent := false, eidleRcvd := false }
    (d.each fs fun d f => d.send (.mdk p mkFrame f.1 (u8 f.2.1 ++ f.2.2))).mdkCount p 4 fs.length

/-- A frame arrives (14 R385): one in order is taken, a duplicate acknowledged, any other draws a NAK while none is out. What the frames say is in
DISCOVER_RX, CHAIN_FRAME_RX and PTP_MESSAGE_RX. In TEST the checker counts bit errors (14 R388). -/
def mdkFrameOp (p : Nat) (f : MdkFrame) (d : Dev) : Dev :=
  let m := d.mdk p
  if m.st = .test then d.when (d.flag .mdkCfg p 20) fun d => d.mdkCount p 7 f.bitErrors
  else if !m.linked then d
  else
    let d := (d.modMdk p fun m => { m with eidleSent := false, eidleRcvd := false }).mdkCount p (if f.ok then 1 else 2)
    let nak := fun (d : Dev) => if m.nakOut && f.seq != m.expect then d else d.mdkNak p
    if !f.ok then nak d
    else if f.seq % 65536 = m.expect then
      if !f.room then d.mdkNak p
      else
        let d := d.modMdk p fun m => { m with expect := (m.expect + 1) % 65536, sinceAck := m.sinceAck + 1, ackDue := true, nakOut := false }
        d.when (decide (7 ≤ m.sinceAck)) fun d => d.mdkAck p
    else if serialGt 16 f.seq m.expect then nak d
    else d.mdkAck p

/-- An ACK releases the frames it covers; a NAK starts a resend (14 R385). -/
def mdkLinkctlOp (p : Nat) (ack : Bool) (seq : Nat) (d : Dev) : Dev :=
  let m := d.mdk p
  if !m.linked && m.st != .recovery then d
  else if ack then
    let left := m.replay.filter fun f => serialGt 16 f.1 seq
    (d.setMdk p { m with replay := left, resends := if left.length < m.replay.length then 0 else m.resends }).mdkPump p
  else if m.linked then d.mdkResend p (seq % 65536) else d

/-- An ACK falls due (14 R385). -/
def mdkAckTimerOp (p : Nat) (d : Dev) : Dev := if (d.mdk p).ackDue && (d.mdk p).linked then d.mdkAck p else d

/-- An outstanding NAK is repeated (14 R385). -/
def mdkNakRepeatOp (p : Nat) (d : Dev) : Dev := if (d.mdk p).nakOut && (d.mdk p).linked then d.mdkNak p else d

/-- No ACK or NAK for 20 µs: a resend from the oldest frame that is not acknowledged (14 R385). -/
def mdkReplayTimeoutOp (p : Nat) (d : Dev) : Dev :=
  match (d.mdk p).replay with
  | [] => d
  | f :: _ => if (d.mdk p).st = .active then d.mdkResend p f.1 else d

/-- Frames flow again after RECOVERY, with resends (14 R386). -/
def Dev.mdkActive (d : Dev) (p : Nat) : Dev :=
  let d := (d.modMdk p fun m => { m with resends := 0 }).mdkEnter p .active
  let d := match (d.mdk p).replay with
    | [] => d
    | f :: _ => d.mdkResend p f.1
  d.mdkPump p

/-- The receiver and the partner's receiver as they now are: STARTUP and RECOVERY end, or ACTIVE gives way to RECOVERY (14 R386). -/
def Dev.mdkRx (d : Dev) (p : Nat) : Dev :=
  let m := d.mdk p
  let both := m.rxUp && m.peerRxUp
  match m.st with
  | .startup | .recovery => if both then d.mdkActive p else d
  | .active => if both then d else d.mdkEnter p .recovery
  | .down | .idle | .test => d

/-- Lanes gain or lose lock or alignment (14 R383, R386). -/
def mdkBlockLockOp (p lanes : Nat) (aligned : Bool) (inv skew : Nat) (d : Dev) : Dev :=
  if !d.flag .mdkCfg p 31 || !d.inService (0x18 + p) then d
  else (d.modMdk p fun m => { m with rxUp := aligned && lanes % 16 == 15, inv := inv % 16, skew := min 528 skew }).mdkRx p

/-- IDLE blocks carry another RX_UP of the partner (14 R386). -/
def mdkPeerRxUpOp (p : Nat) (up : Bool) (d : Dev) : Dev :=
  if !d.flag .mdkCfg p 31 then d else (d.modMdk p fun m => { m with peerRxUp := up }).mdkRx p

/-- In STARTUP, while the local receiver is not up, 100 µs of commas and 1 ms of idle alternate (14 R386). -/
def mdkStartupOp (p : Nat) (d : Dev) : Dev :=
  let m := d.mdk p
  if m.st = .startup && !m.rxUp then
    (d.setMdk p { m with commas := !m.commas }).when (!m.commas) fun d => d.send (.mdk p mkComma 0 [])
  else d

/-- RECOVERY without lock within 10 ms: STARTUP, the replay buffers discarded (14 R386). -/
def mdkRecoveryTimeoutOp (p : Nat) (d : Dev) : Dev := if (d.mdk p).st = .recovery then d.mdkEnter p .startup else d

/-- 10 µs with nothing to send: four EIDLE blocks; with EIDLE already received, IDLE (14 R387). -/
def mdkIdleTimerOp (p : Nat) (d : Dev) : Dev :=
  let m := d.mdk p
  if m.st = .active && d.flag .mdkCfg p 22 && m.replay.isEmpty && m.waiting.isEmpty && !m.eidleSent then
    let d := (d.setMdk p { m with eidleSent := true }).send (.mdk p mkEidle 0 [])
    d.when m.eidleRcvd fun d => d.mdkEnter p .idle
  else d

/-- EIDLE arrives (14 R387). -/
def mdkEidleOp (p : Nat) (d : Dev) : Dev :=
  let m := d.mdk p
  if m.st = .active then
    (d.setMdk p { m with eidleRcvd := true }).when m.eidleSent fun d => d.mdkEnter p .idle
  else d

/-- An exit burst is detected (14 R387): a port in IDLE answers with its own; one that has sent its own does not (14 R390). -/
def Dev.mdkBurst (d : Dev) (p : Nat) : Dev :=
  if (d.mdk p).st = .idle then ((d.mdkEnter p .active).send (.mdk p mkBurst 0 [])).mdkPump p else d

/-- A write of MDK.CFG that changes LANE_MAP, TEST or EN takes the port to DOWN and on to STARTUP or TEST (14 R389). -/
def mdkCfgWritten (p old : Nat) (d : Dev) : Dev :=
  let now := d.get .mdkCfg p
  if bits old 31 23 = bits now 31 23 ∧ bits old 21 20 = bits now 21 20 then d
  else
    let d := d.mdkEnter p .down
    if !bit now 31 then d else d.mdkEnter p (if bits now 21 20 = 0 then .startup else .test)

/-- The chain logic's reset takes its ports to DOWN (14 R390); a port whose EN stands goes on to STARTUP. -/
def Dev.mdkReset (d : Dev) : Dev :=
  d.each [0, 1] fun d p =>
    let d := d.mdkEnter p .down
    let c := d.get .mdkCfg p
    if !bit c 31 || !d.present (15 + p) then d else d.mdkEnter p (if bits c 21 20 = 0 then .startup else .test)

/-- The STATE code of MDK.STATUS (14 Table 14.8). -/
def MdkSt.code : MdkSt → Nat
  | .down => 0 | .startup => 1 | .active => 2 | .idle => 3 | .recovery => 4 | .test => 5

/-- MDK.STATUS (14 Table 14.8). -/
def Dev.mdkStatus (d : Dev) (p : Nat) : Nat :=
  let m := d.mdk p
  (m.st.code <<< 29) + (m.rxUp.toNat <<< 28) + (m.peerRxUp.toNat <<< 27) + (m.inv <<< 23) + (m.skew <<< 13)

/-! ### DisplayPort outputs (14 R391 to R394) -/

/-- HPD asserts: the sink's EDID is copied, and the link trains (14 R393). -/
def dpHpdAssertOp (o : Nat) (edid : Bytes) (d : Dev) : Dev :=
  let d := d.each (List.range 1024) fun d i => d.put .lnkDpEdid (1024 * o + i) (edid.getD i 0).toNat
  (d.modDp o fun l => { l with hpd := true }).dpTrain o

/-- HPD IRQ: lost clock recovery or equalisation starts retraining (14 R393). -/
def dpHpdIrqOp (o : Nat) (lockLost : Bool) (d : Dev) : Dev := if lockLost && (d.dp o).hpd then d.dpTrain o else d

/-- HPD deasserts: the link goes down (14 R394). -/
def dpHpdDeassertOp (o : Nat) (d : Dev) : Dev := (d.modDp o fun l => { l with hpd := false }).dpDown o

/-- A link that trained in no configuration is trained again after 1 s (14 R393). -/
def dpRetryOp (o : Nat) (d : Dev) : Dev := if (d.dp o).up || (d.dp o).training then d else d.dpTrain o

/-- A rate code and a number of lanes that a link may train to (14 R393): those of LNK.DP_CFG, or with FALLBACK lower ones that pass the fit check. -/
def Dev.dpMayTrain (d : Dev) (o rate lanes : Nat) : Bool :=
  let c := d.getF .lnkDpCfg o
  let code := if lanes = 4 then 2 else if lanes = 2 then 1 else 0
  let own := rate == bits c 62 60 && code == bits c 59 58
  d.inService (0x20 + o) && (lanes == 1 || lanes == 2 || lanes == 4)
    && (own || (bit c 53 && decide (rate ≤ bits c 62 60 ∧ code ≤ bits c 59 58)
      && linkFits (setBits (setBits c 62 60 rate) 59 58 code) (d.getF .lnkDpTiming o)))

/-- Training ends: in a configuration, which LNK.DP_STATUS shows, or in none (14 R393, R394). -/
def dpTrainingDoneOp (o : Nat) (rate lanes : Option Nat) (d : Dev) : Dev :=
  if !(d.dp o).training then d
  else match rate, lanes with
  | some r, some l =>
    if d.dpMayTrain o r l then
      (d.modDp o fun x => { x with up := true, training := false, rate := r, lanes := l }).linkEvent (12 + o) r l true
    else d.modDp o fun x => { x with training := false }
  | _, _ => d.modDp o fun x => { x with training := false }

/-- LNK.DP_STATUS: the link is up, its rate code and its lanes (the layout is the model's: notes/assumptions/4.md). -/
def Dev.dpStatus (d : Dev) (o : Nat) : Nat :=
  let l := d.dp o
  if l.up then 2 ^ 31 + (l.rate <<< 28) + (l.lanes <<< 24) else 0

/-! ### Eye scan (14 R395) -/

/-- The link that a lane belongs to is fitted. -/
def Dev.lanePresent (d : Dev) (lane : Nat) : Bool :=
  if lane / 4 = 2 then d.present 15 else if lane / 4 = 3 then d.present 16 else true

/-- DIAG_EYE_SCAN. -/
def eyeScanOp (c : Ctx) (lane dwell dest : Nat) (d : Dev) : Answer :=
  let q := lane / 4
  checked [(decide (lane ≤ 23) && !d.lanePresent lane, stUnitAbsent), (!c.ses.mediator, stNotPermitted),
    (!d.allTagged dest 16384 (d.ownerColour c.act), stNotPermitted), (decide (23 < lane) || decide (dwell < 10 ∨ 32 < dwell), stBadParam),
    (d.scans.any (·.1 == q), stBusyRetry)] d fun d =>
  (some (rAccepted 1), { d with scans := (q, { port := c.ses.port, session := c.ses.sid, seq := c.seq, lane, dest }) :: d.scans })

/-- All 8,192 points are written. -/
def eyeScanDoneOp (q : Nat) (counts : Bytes) (d : Dev) : Dev :=
  match d.scans.find? (·.1 == q) with
  | none => d
  | some (_, e) =>
    ({ d with scans := d.scans.filter (·.1 != q) }.poke e.dest (padTo 16384 counts)).finish e.port e.session e.seq stOk 2

/-! ### Commands -/

/-- Command ETH_LINK_DOWN. -/
def execEthLinkDown (port : Nat) (s : State) : Host.Outcome State Fault Refusal :=
  onDev (Instr.wellFormed (.ethLinkDown port)) (ethLinkDownOp port) s

/-- Command ETH_LINK_UP. -/
def execEthLinkUp (port : Nat) (s : State) : Host.Outcome State Fault Refusal :=
  onDev (Instr.wellFormed (.ethLinkUp port)) (ethLinkUpOp port) s

/-- Command ARP_RETRY. -/
def execArpRetry (port ip : Nat) (s : State) : Host.Outcome State Fault Refusal :=
  onDev (Instr.wellFormed (.arpRetry port ip)) (arpRetryOp port ip) s

/-- Command NEIGHBOR_AGE_OUT. -/
def execNeighborAgeOut (port ip : Nat) (s : State) : Host.Outcome State Fault Refusal :=
  onDev (Instr.wellFormed (.neighborAgeOut port ip)) (neighborAgeOp port ip) s

/-- Command ETH_TX_TIMEOUT. -/
def execEthTxTimeout (port : Nat) (s : State) : Host.Outcome State Fault Refusal :=
  onDev (Instr.wellFormed (.ethTxTimeout port)) (ethTxTimeoutOp port) s

/-- Command PCIE_LINK_UP. -/
def execPcieLinkUp (ep : Nat) (s : State) : Host.Outcome State Fault Refusal :=
  onDev (Instr.wellFormed (.pcieLinkUp ep)) (pcieLinkUpOp ep) s

/-- Command RING_CFG_WRITE. -/
def execRingCfgWrite (ep page ring : Nat) (evt : Bool) (cfg : RingCfg) (s : State) : Host.Outcome State Fault Refusal :=
  onDev (Instr.wellFormed (.ringCfgWrite ep page ring evt cfg)) (ringCfgOp ep page ring evt cfg) s

/-- Command MSIX_UNMASK. -/
def execMsixUnmask (ep vector : Nat) (s : State) : Host.Outcome State Fault Refusal :=
  onDev (Instr.wellFormed (.msixUnmask ep vector)) (msixUnmaskOp ep vector) s

/-- Command DP_HPD_ASSERT. -/
def execDpHpdAssert (out : Nat) (edid : Bytes) (s : State) : Host.Outcome State Fault Refusal :=
  onDev (Instr.wellFormed (.dpHpdAssert out edid)) (dpHpdAssertOp out edid) s

/-- Command DP_HPD_IRQ. -/
def execDpHpdIrq (out : Nat) (lockLost : Bool) (s : State) : Host.Outcome State Fault Refusal :=
  onDev (Instr.wellFormed (.dpHpdIrq out lockLost)) (dpHpdIrqOp out lockLost) s

/-- Command DP_HPD_DEASSERT. -/
def execDpHpdDeassert (out : Nat) (s : State) : Host.Outcome State Fault Refusal :=
  onDev (Instr.wellFormed (.dpHpdDeassert out)) (dpHpdDeassertOp out) s

/-- Command DP_TRAINING_RETRY. -/
def execDpTrainingRetry (out : Nat) (s : State) : Host.Outcome State Fault Refusal :=
  onDev (Instr.wellFormed (.dpTrainingRetry out)) (dpRetryOp out) s

/-- Command DP_TRAINING_DONE. -/
def execDpTrainingDone (out : Nat) (rate lanes : Option Nat) (s : State) : Host.Outcome State Fault Refusal :=
  onDev (Instr.wellFormed (.dpTrainingDone out rate lanes)) (dpTrainingDoneOp out rate lanes) s

/-- Command DPI_LINK_LOSS: a frame reaches the model whole (DPI_FRAME_RX), so the one in progress leaves nothing behind (04 R106). -/
def execDpiLinkLoss (input : Nat) (s : State) : Host.Outcome State Fault Refusal :=
  onDev (Instr.wellFormed (.dpiLinkLoss input)) (fun d => d) s

end Sys2Proof.Machine
end

