-- ==== Sys2Proof/Machine/Options.lean ====
section
/-!
DEFINITION. The option words (16 R436 to R438): their two copies in audit MRAM, what the loader finds in them, and how they are rewritten.
-/

namespace Sys2Proof.Machine

/-- Where a copy lies (13 Table 13.4): A at the start of audit MRAM, B 4 KiB above. -/
def optAddr (b : Bool) : Nat := if b then mramBase + 0x1000 else mramBase

/-- A copy that passes its checks (16 R436): its GENERATION and its words. -/
def Dev.optCopy (d : Dev) (b : Bool) : Option (Nat × List Nat) :=
  let a := optAddr b
  let n := d.peekLe (a + 5) 1
  let words := (List.range n).map fun i => d.peekLe (a + 16 + 8 * i) 8
  let compl := (List.range n).map fun i => d.peekLe (a + 16 + 8 * (n + i)) 8
  let ok := d.peekLe a 4 == 0x3154504F && d.peekLe (a + 4) 1 == 1 && decide (1 ≤ n ∧ n ≤ 254)
    && (words.zip compl).all (fun w => w.1 + w.2 == 2 ^ 64 - 1)
    && d.peekLe (a + 16 + 16 * n) 4 == crc32c (d.peekN a (16 + 16 * n))
  if ok then some (d.peekLe (a + 8) 4, words) else none

/-- The copy that is used: the newer of two valid ones, in serial arithmetic; none where both fail. True names copy B. -/
def Dev.optUse (d : Dev) : Option (Bool × Nat × List Nat) :=
  match d.optCopy false, d.optCopy true with
  | some a, some b => if serialGt 32 b.1 a.1 then some (true, b) else some (false, a)
  | some a, none => some (false, a)
  | none, some b => some (true, b)
  | none, none => none

/-- Word 1: the two BAR2 sizes, H0's in [7:0] (the packing of words 1 to 3 is the model's: notes/assumptions/22.md). -/
def Dev.optWord1 (d : Dev) : Nat := d.get .lnkH0Bar2Size + 256 * d.get .lnkH1Bar2Size

/-- Word 2: ROLE in [7:0], POSITION in [15:8], CHAIN_ID in [63:32]. -/
def Dev.optWord2 (d : Dev) : Nat := d.chain.role + 256 * d.chain.position + 2 ^ 32 * d.chain.chainId

/-- Word 3: RST.WDT_MS in [15:0], RST.SAFE_RESET_MS in [31:16]. -/
def Dev.optWord3 (d : Dev) : Nat := d.get .rstWdtMs + 65536 * d.get .rstSafeResetMs

/-- The bytes of a copy. -/
def optBytes (gen : Nat) (words : List Nat) : Bytes :=
  let body := u32 0x3154504F ++ u8 1 ++ u8 words.length ++ zeros 2 ++ u32 gen ++ zeros 4
    ++ words.flatMap u64 ++ words.flatMap fun w => u64 (2 ^ 64 - 1 - w)
  body ++ u32 (crc32c body)

/-- Bursol rewrites the older copy in full, with GENERATION one above the newer (16 R437), for a write to word `word`, and logs OPTION
(17 Table 17.8). Word 0 and the words beyond those of 16 Table 16.8 are kept. -/
def Dev.writeOptions (d : Dev) (word : Nat) : Dev :=
  let use := d.optUse
  let old := ((use.map fun u => u.2.2)).getD []
  let gen := match use with
    | some u => (u.2.1 + 1) % 2 ^ 32
    | none => 1
  let toB := match use with
    | some u => !u.1
    | none => false
  let words := [old.getD 0 (d.get .memDramCfg), d.optWord1, d.optWord2, d.optWord3, d.get .clkVrCfg] ++ old.drop 5
  (d.poke (optAddr toB) (optBytes gen words)).audit 0x0010 (u8 word ++ u64 (words.getD word 0))

end Sys2Proof.Machine
end

