-- ==== Sys2Proof/Machine/Chain.lean ====
section
/-!
DEFINITION. Atlas and Sheet chains (15): the links in service and the paths they make, chain frames, the commit barrier, layouts, mirrors and
forwarded slices, takeover and takeback. The Mindanko commands stand here because each can change the links.
-/

namespace Sys2Proof.Machine

/-! ### Stamps as words (02 Table 2.1) -/

/-- The 256-bit word of a stamp. -/
def Stamp.word (s : Stamp) : Nat :=
  ((s.hbCtr % 65536) <<< 240) + ((s.epoch % 16) <<< 236) + ((s.evid % 16) <<< 232) + ((s.gen % 256) <<< 224) + ((s.check % 2 ^ 32) <<< 192)
    + (datumTime s.ing <<< 128) + (datumTime s.cap <<< 64) + ((s.taint % 4096) <<< 52) + ((s.capsrc % 4) <<< 50) + ((s.proof % 4) <<< 48)
    + ((s.slice % 256) <<< 40) + ((s.src % 256) <<< 32) + s.seq % 2 ^ 32

/-- The time that a 64-bit field of 02 Table 2.2 holds. -/
def ofDatumTime (w : Nat) : Ns := bits w 63 30 * 1000000000 + bits w 29 0

/-- The stamp that a word holds. -/
def stampOfWord (w : Nat) : Stamp :=
  { hbCtr := bits w 255 240, epoch := bits w 239 236, evid := bits w 235 232, gen := bits w 231 224, check := bits w 223 192,
    ing := ofDatumTime (bits w 191 128), cap := ofDatumTime (bits w 127 64), taint := bits w 63 52, capsrc := bits w 51 50,
    proof := bits w 49 48, slice := bits w 47 40, src := bits w 39 32, seq := bits w 31 0 }

/-! ### Paths (15 R398, R400, R402) -/

/-- Positions of the layout in force, 0 without one. -/
def Dev.ndev (d : Dev) : Nat := ((d.chain.inForce.map (·.ndev))).getD 0

/-- The LAYOUT_ID in force, 0 without one. -/
def Dev.layoutId (d : Dev) : Nat := ((d.chain.inForce.map (·.id))).getD 0

/-- The LAYOUT_ID that is staged and passes its checks, or 0. -/
def Dev.stagedId (d : Dev) : Nat := if d.chain.stageFail = 0 then ((d.chain.staged.map (·.id))).getD 0 else 0

/-- What DISCOVER frames of the last 30 ms taught over links in service: (port, position, hops, role). -/
def Dev.heard (d : Dev) : List (Nat × Nat × Nat × Nat) :=
  (d.chain.hops.filter fun h => d.chain.inService.contains h.1 && decide (d.tim.elapsed ≤ h.2.2.2.2 + 30000000)).map
    fun h => (h.1, h.2.1, h.2.2.1, h.2.2.2.1)

/-- The fewest hops to a position by a port. -/
def Dev.hopsBy (d : Dev) (p pos : Nat) : Option Nat := ((d.heard.filter fun h => h.1 == p && h.2.1 == pos).map (·.2.2.1)).min?

/-- The port by which frames to a position leave, M0 on a tie. -/
def Dev.pathTo (d : Dev) (pos : Nat) : Option Nat :=
  match d.hopsBy 0 pos, d.hopsBy 1 pos with
  | some a, some b => if a ≤ b then some 0 else some 1
  | some _, none => some 0
  | none, some _ => some 1
  | none, none => none

/-- A position is reached, or is the device's own. -/
def Dev.reaches (d : Dev) (pos : Nat) : Bool := pos == d.chain.position || (d.pathTo pos).isSome

/-- Every position. -/
def positions : List Nat := List.range 32

/-- REACH: bit p for each position that is reached. -/
def Dev.reachMask (d : Dev) : Nat := ((positions.filter d.reaches).map (2 ^ ·)).sum

/-- How many positions are reached, the device's own counted. -/
def Dev.reachCount (d : Dev) : Nat := (positions.filter d.reaches).length

/-- TOPOLOGY (15 Table 15.6): a ring is closed where a position is heard by both ports; one that was closed and is not has a cut. -/
def Dev.topologyNow (d : Dev) : Nat :=
  if d.chain.role = 0 ∨ d.chain.inService.isEmpty then 0
  else if positions.any fun p => (d.hopsBy 0 p).isSome && (d.hopsBy 1 p).isSome then 2
  else if 2 ≤ d.chain.topology then 3 else 1

/-- The role that a position says it has. -/
def Dev.positionOf (d : Dev) (role : Nat) : Option Nat :=
  if d.chain.role = role then some d.chain.position else (d.heard.find? (·.2.2.2 == role)).map (·.2.1)

/-! ### Mirrors (15 R415, R416) -/

/-- The route that feeds a source entry, where it is a mirror. -/
def Dev.mirrorRoute (d : Dev) (n : Nat) : Option Nat := if d.flag .mdkMirror n 15 then some (d.fld .mdkMirror n 14 0) else none

/-- The routes of the layouts in force and staged: ROUTE, ORIGIN, DEST, origin source, mirror source, X0, Y0, X1, Y1. -/
def Dev.routes (d : Dev) : List (List Nat) :=
  ((d.chain.staged.map (·.routes))).getD [] ++ ((d.chain.inForce.map (·.routes))).getD []

/-- A route by its number. -/
def Dev.route (d : Dev) (r : Nat) : Option (List Nat) := d.routes.find? fun x => x.getD 0 0 == r

/-- A mirror whose ORIGIN has no path enters LOST at once, and CHAIN_ROUTE_LOST follows the loss and the return (15 R416). -/
def Dev.routesCheck (d : Dev) : Dev :=
  d.each sourceNumbers fun d n =>
    match d.mirrorRoute n with
    | none => d
    | some r =>
      let gone := (d.route r).any fun x => !d.reaches (x.getD 1 0)
      let was := d.chain.routeLost.contains r
      if gone && !was then
        ({ d with chain := { d.chain with routeLost := r :: d.chain.routeLost } }.enterLost n).raise toPartners
          { code := 0xEC07, object := r, on := true }
      else if !gone && was then
        { d with chain := { d.chain with routeLost := d.chain.routeLost.filter (· != r) } }.raise toPartners { code := 0xEC07, object := r }
      else d

/-- The topology may have changed: CHAIN_TOPOLOGY tells of a new TOPOLOGY or REACH. -/
def Dev.topology (d : Dev) : Dev :=
  let t := d.topologyNow
  let r := d.reachMask
  let was := d.chain
  let d := { d with chain := { d.chain with topology := t, reach := r, standby := d.positionOf 2 } }
  let d := d.when (t != was.topology || r != was.reach) fun d => d.raise toPartners { code := 0xEC00, object := 0, data := u8 t ++ zeros 3 ++ u32 r }
  d.routesCheck

/-- A link is cut (15 R400): it leaves service, and what was learnt by it goes. -/
def Dev.cutLink (d : Dev) (p : Nat) : Dev :=
  if !d.chain.inService.contains p then d
  else
    let d := { d with chain := { d.chain with inService := d.chain.inService.filter (· != p), hops := d.chain.hops.filter (·.1 != p) } }
    let d := d.when (d.tim.slavePort == 8 + p) fun d => { d with tim := { d.tim with slavePort := 0xF, gmValid := false } }
    d.topology

/-! ### Chain frames (15 R401, R402) -/

/-- The chain header of a frame. -/
def Dev.chainHeader (d : Dev) (dst bid : Nat) : Bytes := u8 dst ++ u8 d.chain.position ++ u8 32 ++ u8 bid

/-- A frame to one position, by its path. -/
def Dev.chainUnicast (d : Dev) (ftype dst : Nat) (body : Bytes) : Dev :=
  if d.chain.role = 0 then d
  else match d.pathTo dst with
  | some p => d.mdkSend p ftype (d.chainHeader dst 0 ++ body)
  | none => d

/-- A broadcast on some ports, with the next BID. -/
def Dev.chainBroadcast (d : Dev) (ports : List Nat) (ftype : Nat) (body : Bytes) : Dev :=
  if d.chain.role = 0 then d
  else
    let h := d.chainHeader 0xFF d.chain.bid
    let d := { d with chain := { d.chain with bid := (d.chain.bid + 1) % 256 } }
    d.each ports fun d p => d.mdkSend p ftype (h ++ body)

/-- DISCOVER on every port that is ACTIVE or IDLE (15 R400). -/
def discoverSendOp (d : Dev) : Dev :=
  d.chainBroadcast ([0, 1].filter fun p => (d.mdk p).linked) 8
    (u32 d.chain.chainId ++ u8 d.chain.position ++ u8 d.chain.role ++ zeros 2)

/-- A (SRC, BID) pair is seen for the first time within 100 ms; it is remembered. -/
def Dev.firstSight (d : Dev) (src bid : Nat) : Bool × Dev :=
  let live := d.chain.bids.filter fun b => decide (d.tim.elapsed ≤ b.2.2 + 100000000)
  let seen := live.any fun b => b.1 == src && b.2.1 == bid
  (!seen, { d with chain := { d.chain with bids := if seen then live else (src, bid, d.tim.elapsed) :: live } })

/-- A received frame goes on: a broadcast by the other port on its first sighting, another position's frame by its path (15 R402). -/
def Dev.chainForward (d : Dev) (port dst src ttl bid ftype : Nat) (body : Bytes) : Dev :=
  if ttl ≤ 1 then d
  else
    let h := u8 dst ++ u8 src ++ u8 (ttl - 1) ++ u8 bid
    if dst = 0xFF then d.when (d.chain.inService.contains (1 - port)) fun d => d.mdkSend (1 - port) ftype (h ++ body)
    else match d.pathTo dst with
    | some p => d.mdkSend p ftype (h ++ body)
    | none => d

/-- The neighbour of a direct DISCOVER stands where it belongs: M1 of position i faces M0 of position i + 1, or of position 0. -/
def Dev.faces (d : Dev) (port position : Nat) : Bool :=
  if port = 1 then position == d.chain.position + 1 || position == 0
  else d.chain.position == 0 || position + 1 == d.chain.position

/-- A DISCOVER frame arrives (15 R400, R402). TTL 32 is a neighbour's own; a lower one was forwarded. -/
def discoverRxOp (port chainId position role ttl bid : Nat) (d : Dev) : Dev :=
  if d.chain.role = 0 ∨ !(d.mdk port).linked then d
  else
    let body := u32 chainId ++ u8 position ++ u8 role ++ zeros 2
    let direct := decide (32 ≤ ttl)
    let good := chainId == d.chain.chainId && d.faces port position
    if direct && !good then
      let was := d.chain.miscabled.contains port
      let d := d.cutLink port
      let d := { d with chain := { d.chain with miscabled := port :: d.chain.miscabled.filter (· != port) } }
      d.when (!was) fun d => d.raise toPartners { code := 0xEC01, object := 8 + port, data := u8 position ++ zeros 3 ++ u32 chainId }
    else
      let d := if direct then
          { d with chain := { d.chain with
            inService := if d.chain.inService.contains port then d.chain.inService else port :: d.chain.inService,
            miscabled := d.chain.miscabled.filter (· != port) } }
        else d
      if !d.chain.inService.contains port ∨ position = d.chain.position then d.topology
      else
        let keep := d.chain.hops.filter fun h => !(h.1 == port && h.2.1 == position)
        let d := { d with chain := { d.chain with hops := (port, position, 33 - ttl, role, d.tim.elapsed) :: keep } }
        let (first, d) := d.firstSight position bid
        let d := d.topology
        d.when first fun d => d.chainForward port 0xFF position ttl bid 8 body

/-- No DISCOVER for 30 ms on a link (15 R400). -/
def linkCutOp (port : Nat) (d : Dev) : Dev := (d.cutLink port).topology

/-- A change of the Mindanko ports: a link whose port left ACTIVE and IDLE is cut, and DISCOVER goes out at each change of port state. -/
def Dev.withPorts (d : Dev) (f : Dev → Dev) : Dev :=
  let was := [0, 1].map fun p => (d.mdk p).st
  let d := f d
  let d := d.each [0, 1] fun d p => if (d.mdk p).linked then d else d.cutLink p
  d.when (([0, 1].map fun p => (d.mdk p).st) != was) discoverSendOp

/-! ### The wall frame (15 R406, R408) -/

/-- The wall phase in ns: OUT_PHASE of the acting Atlas's lowest composing output; on another device left open. -/
def Dev.wallPhase (d : Dev) : Ns :=
  if d.acting then
    match outputNumbers.find? fun o => d.flagF .pltOutCfg o 31 with
    | some o => ofFullTime (d.get .pltOutPhase o)
    | none => 0
  else Config.wallPhase d.chain.wallFrame

/-- The wall frame whose start lies nearest to a time from now. -/
def Dev.wallFrameAt (d : Dev) (lead : Ns) : Nat :=
  let p := max 1 (d.wallNs d.outF)
  (d.now + lead - d.wallPhase + p / 2) / p

/-- SYNC_OK (15 R408). -/
def Dev.syncOk (d : Dev) : Bool :=
  (d.tim.st == .locked || (d.tim.st == .holdover && d.tim.holdFromLocked && !d.tim.trustOver))
    && outputNumbers.all fun o => !d.composes o || (d.out o).frameLocked

/-- The READY of this device for a frame. -/
def Dev.readyNow (d : Dev) (k : Nat) : Ready :=
  { frame := k, staged := d.stagedId, inForce := d.layoutId, status := d.chain.stageFail,
    flags := d.syncOk.toNat + 2 * (d.chain.stageFail != 0).toNat + 4 * d.chain.waiting.toNat + 8 * d.inNight.toNat }

/-- The bytes of a READY (15 Table 15.3). -/
def Ready.bytes (r : Ready) : Bytes := u64 r.frame ++ u32 r.staged ++ u32 r.inForce ++ u16 r.flags ++ u16 r.status

/-- The bytes of a GO (15 Table 15.3). -/
def Go.bytes (g : Go) : Bytes :=
  u64 g.frame ++ u32 g.apply ++ u32 g.inForce ++ u32 g.exclude ++ u8 g.ndev ++ u8 (g.last.toNat + 2 * g.original.toNat) ++ zeros 2
    ++ u64 g.barrier ++ s64 g.step

/-- Positions that the acting Atlas commands: those of the layout in force, or without one those it reaches. -/
def Dev.wallPositions (d : Dev) : List Nat := if d.ndev = 0 then positions.filter d.reaches else List.range d.ndev

/-- A layout that all included positions have in force is applied (15 R414 phase 4). -/
def Dev.layoutApplied (d : Dev) : Dev :=
  match d.chain.run with
  | none => d
  | some r =>
    match r.target with
    | none => d
    | some k =>
      let done := d.wallPositions.all fun p => bit r.exclude p || (d.chain.ready.any fun e => e.1 == p && e.2.inForce == r.id && decide (k < e.2.frame))
      if done then
        ({ d with chain := { d.chain with run := none } }.finish r.port r.session r.seq stOk 4).raise toPartners
          { code := 0xEC04, object := 0, data := u32 r.id ++ u64 k ++ u32 r.exclude }
      else d

/-- Every position of the layout has staged it (15 R414 phase 2). -/
def Dev.stagedAll (d : Dev) (id : Nat) : Bool :=
  match d.chain.staged with
  | none => false
  | some l => l.id == id && (List.range l.ndev).all fun p => d.chain.ready.any fun e => e.1 == p && e.2.staged == id

/-- The acting Atlas or the standby records a READY (15 R408); a failed staging ends CHAIN_LAYOUT with that device's status (R414). -/
def Dev.readyRx (d : Dev) (pos : Nat) (r : Ready) : Dev :=
  let late := d.chain.passed.any fun k => decide (r.frame ≤ k)
  let late := late || (d.acting && (d.chain.goFrame.any fun k => decide (r.frame ≤ k)))
  let d := { d with chain := { d.chain with ready := (pos, { r with late }) :: d.chain.ready.filter (·.1 != pos) } }
  match d.chain.run with
  | some x =>
    let replied := (d.recOf x.port x.session x.seq).any fun (y : Rec) => y.replied
    if replied then d.layoutApplied
    else if bit r.flags 1 then
      { d with chain := { d.chain with run := none } }.finishReply x.port x.session x.seq { st := r.status, ph := 1 }
    else if d.stagedAll x.id then d.finishReply x.port x.session x.seq (rAccepted 3)
    else d
  | none => d

/-- READY(k) is sent at F_k − READY_US to the acting Atlas and the standby (15 R408); the frame's barrier opens. -/
def readySendOp (d : Dev) : Dev :=
  if d.chain.role = 0 then d
  else
    let k := d.wallFrameAt (bits d.barrierCfg 63 48 * 1000)
    let d := { d with chain := { d.chain with wallFrame := k, goFrame := d.chain.goFrame.filter (· == k) } }
    let r := d.readyNow k
    let dsts := (d.chain.acting.toList ++ d.chain.standby.toList).eraseDups
    d.each dsts fun d p => if p = d.chain.position then d.readyRx p r else d.chainUnicast 3 p r.bytes

/-- Why a position is excluded from GO(k) (15 R409): 0 no READY, 1 late, 2 not synchronised, 3 not staged, 4 NIGHT. -/
def Dev.excludeCause (d : Dev) (k apply pos : Nat) : Option Nat :=
  match d.chain.ready.find? (·.1 == pos) with
  | none => some 0
  | some (_, r) =>
    if r.frame ≠ k ∨ r.late then some (if r.late then 1 else 0)
    else if bit r.flags 3 then some 4
    else if !bit r.flags 0 then some 2
    else if (r.inForce ≠ d.chain.wallForce ∧ r.staged ≠ d.chain.wallForce) ∨ (apply ≠ 0 ∧ r.staged ≠ apply) then some 3
    else none

/-- The image of a layout goes to a position that lacks it, in CONTROL frames (15 R411, R414; notes/assumptions/23.md). -/
def Dev.sendLayout (d : Dev) (pos : Nat) (image : Bytes) : Dev := d.chainUnicast 1 pos image

/-- A device takes GO(k) (15 R410, R420): of two senders the original is obeyed; every GO carries the barrier configuration. -/
def Dev.goTake (d : Dev) (g : Go) : Dev :=
  let c := d.chain
  let mine := d.acting && g.src == c.position
  let yields := d.acting && g.src != c.position && (!g.original || c.role == 1)
  if yields then d
  else
    let listens := c.role == 1 && c.listening && !mine
    let other := c.goFrame == some g.frame && (c.go.any fun o => o.original && !g.original)
    if other then d
    else
      let inTime := !(c.passed.any fun k => decide (g.frame ≤ k))
      { d with chain := { c with
        acting := some g.src, go := some g, goFrame := if inTime then some g.frame else c.goFrame,
        wallFrame := if inTime && !mine then g.frame else c.wallFrame,
        listening := c.listening && !listens, waiting := c.waiting || listens || (c.role == 1 && !mine && c.waiting),
        takeback := if listens then 0 else c.takeback } }

/-- The original Atlas resumes after a GO with LAST (15 R421). -/
def Dev.takebackRx (d : Dev) (g : Go) : Dev :=
  if g.last && d.chain.role == 1 && d.chain.waiting && g.src != d.chain.position then
    { d with chain := { d.chain with acting := some d.chain.position, waiting := false, takeback := 0,
                                     wallForce := if g.apply = 0 then g.inForce else g.apply } }.raise toPartners
      { code := 0xEC06, object := d.chain.position, data := u64 g.frame }
  else d

/-- CHAIN_SHEET_EXCLUDED at the start and the end of an exclusion, and the run of excluded frames (15 R409, R422, R424). -/
def Dev.noteExclusion (d : Dev) (k : Nat) (ex : List (Nat × Option Nat)) : Dev :=
  d.each ex fun d (p, cause) =>
    let was := d.chain.exclNow.contains p
    match cause with
    | some c =>
      let run := smGet 0 d.chain.exclRun p + 1
      let d := { d with chain := { d.chain with exclNow := p :: d.chain.exclNow.filter (· != p), exclRun := smSet 0 d.chain.exclRun p run } }
      d.when (!was) fun d => d.raise toPartners { code := 0xEC03, object := p, data := u64 k ++ u8 c, on := true }
    | none =>
      let d := { d with chain := { d.chain with exclNow := d.chain.exclNow.filter (· != p), exclRun := smSet 0 d.chain.exclRun p 0 } }
      d.when was fun d => d.raise toPartners { code := 0xEC03, object := p, data := u64 k ++ u8 0 }

/-- GO(k) at F_k − GO_US (15 R409, R412, R420, R421): only from the acting Atlas, which stops where it reaches too few. -/
def goSendOp (d : Dev) : Dev :=
  if !d.acting then d
  else
    let few := d.chain.role == 1 && decide (2 * d.reachCount < d.ndev)
    let run := if few then d.chain.fewRun + 1 else 0
    let d := { d with chain := { d.chain with fewRun := run } }
    if few ∧ bits d.barrierCfg 19 16 ≤ run then { d with chain := { d.chain with acting := none, fewRun := 0, lastPending := false } }
    else
      let k := d.chain.wallFrame
      let start := d.chain.run.filter fun r => r.target.isNone && (d.recOf r.port r.session r.seq).any fun (x : Rec) => x.replied
      let apply := ((start.map (·.id))).getD 0
      let ex := d.wallPositions.map fun p => (p, d.excludeCause k apply p)
      let mask := ((ex.filter fun e => e.2.isSome).map fun e => 2 ^ e.1).sum
      let g : Go := { frame := k, apply, inForce := d.chain.wallForce, exclude := mask, ndev := d.ndev, last := d.chain.lastPending,
                      original := d.chain.role == 1, barrier := d.get .mdkBarrierCfg,
                      step := (d.chain.stepPending.map (·.1)).getD 0, src := d.chain.position }
      let d := (d.chainBroadcast d.chain.inService 4 g.bytes).goTake g
      let d := { d with chain := { d.chain with run := match start with
        | some r => some { r with target := some k, exclude := mask }
        | none => d.chain.run } }
      let d := d.noteExclusion k ex
      let lacks := d.chain.ready.filter fun r =>
        d.chain.wallForce != 0 && r.1 != d.chain.position && r.2.inForce != d.chain.wallForce && r.2.staged != d.chain.wallForce
      let img := [d.chain.inForce, d.chain.staged].filterMap fun l => l.filter fun l => l.id == d.chain.wallForce
      let d := match img.head? with
        | some l => d.each lacks fun d r => d.sendLayout r.1 l.image
        | none => d
      d.when g.last fun d => { d with chain := { d.chain with acting := none, lastPending := false, takeback := 0 } }

/-! ### The barrier deadline (15 R410 to R412, R419, R421) -/

/-- The staged layout of this device goes in force at frame k: its layer commit is armed for the frame (15 R411, R414). -/
def Dev.applyLayout (d : Dev) : Dev :=
  match d.chain.staged with
  | none => d
  | some l =>
    let mask := ((l.sections.find? (·.1 == d.chain.position)).map (·.2.1)).getD 0
    let d := { d with chain := { d.chain with inForce := some l, staged := none, stageFail := 0 } }
    d.when (mask % 256 != 0) fun d => d.arm 0xFF 0 0 0 true (d.plan mask true 0)

/-- The newest IN_FORCE of the READY frames that a standby holds (15 R419). -/
def Dev.newestInForce (d : Dev) : Nat :=
  match argMax (fun (r : Nat × Ready) => 2 * r.2.frame + (r.2.inForce != d.layoutId).toNat) d.chain.ready with
  | some r => r.2.inForce
  | none => d.layoutId

/-- The standby takes over (15 R419). -/
def Dev.takeover (d : Dev) (k : Nat) : Dev :=
  let id := d.newestInForce
  let holds := id == d.layoutId || id == d.stagedId
  if d.chain.role = 2 ∧ !d.acting ∧ bits d.barrierCfg 19 16 ≤ d.chain.missedRun ∧ holds ∧ d.ndev < 2 * d.reachCount then
    let was := d.chain.acting.getD 0xFF
    { d with chain := { d.chain with acting := some d.chain.position, wallForce := id, missedRun := 0, fewRun := 0, takeback := 0 } }.raise toPartners
      { code := 0xEC05, object := d.chain.position, data := u64 k ++ u8 was }
  else d

/-- TAKEBACK_RUN of the waiting Atlas, counted by itself and by the acting standby; at TAKEBACK_N the standby's next GO carries LAST (15 R421). -/
def Dev.takebackCount (d : Dev) (included : Bool) : Dev :=
  let c := d.chain
  let waiter := if c.role = 1 then (if c.waiting then some c.position else none)
    else (c.ready.find? fun r => bit r.2.flags 2).map (·.1)
  match waiter with
  | none => d
  | some p =>
    let ok := if c.role = 1 then included else (c.go.any fun g => !bit g.exclude p)
    let n := if ok then c.takeback + 1 else 0
    { d with chain := { c with takeback := n, lastPending := c.lastPending || (d.acting && c.role == 2 && decide (bits d.barrierCfg 15 3 ≤ n)) } }

/-- F_k − GO_US + GRACE_US (15 R410): the step of a GO received in time, the barrier met or missed, the layout that applies at the frame, takeover
and takeback. -/
def barrierDeadlineOp (d : Dev) : Dev :=
  if d.chain.role = 0 then d
  else
    let k := d.chain.wallFrame
    let got := d.chain.goFrame == some k
    let g := if got then d.chain.go else none
    let excl := g.any fun g => bit g.exclude d.chain.position
    let missed := !got || excl
    let was := d.chain.missed
    let wasActing := d.acting
    let d := { d with chain := { d.chain with passed := some k, missed, excluded := excl, missedRun := if got then 0 else d.chain.missedRun + 1 } }
    let step := ((g.map (·.step))).getD 0
    let d := d.when (step != 0) fun d => d.stepClock step false
    let d := match d.chain.stepPending with
      | some (size, port, ses, seq) =>
        if wasActing && step == size then
          ({ d with chain := { d.chain with stepPending := none } }).finishReply port ses seq { st := stOk, ph := 3, body := stepReply size d.epoch }
        else d
      | none => d
    let d := d.when (missed != was) fun d =>
      d.raise toPartners { code := 0xEC02, object := 0, data := u64 k ++ u8 excl.toNat, on := missed }
    let d := match g with
      | some g =>
        let due := d.stagedId != 0 && (d.stagedId == g.apply || d.stagedId == g.inForce)
        let d := d.when (!missed && due) fun d => d.applyLayout
        let d := d.when (wasActing && g.apply != 0) fun d => { d with chain := { d.chain with wallForce := g.apply } }
        d.takebackRx g
      | none => d
    (d.takebackCount (!missed)).takeover k

/-- The Atlas has listened for TAKEOVER_N + 1 wall frames (15 R420): with no GO heard, it acts. -/
def listenExpireOp (d : Dev) : Dev :=
  if d.chain.role = 1 ∧ d.chain.listening ∧ d.ndev ≤ 2 * d.reachCount then
    { d with chain := { d.chain with listening := false, acting := some d.chain.position, wallForce := d.layoutId } }
  else d

/-- The count has reached TAKEBACK_N (15 R421): compared at once, as a write of TAKEBACK_N does. -/
def takebackReachedOp (d : Dev) : Dev :=
  if d.acting ∧ d.chain.role = 2 ∧ bits (d.get .mdkBarrierCfg) 15 3 ≤ d.chain.takeback ∧ (d.chain.ready.any fun r => bit r.2.flags 2) then
    { d with chain := { d.chain with lastPending := true } }
  else d

/-! ### Summaries (15 R418) -/

/-- AGE in 0.1 ms of a tile summary, where it holds a LIVE layer that is shown (02 Table 2.8). -/
def ageShown (s : Nat) : Nat := if bits s 26 22 < bits s 31 27 ∧ bits s 63 48 ≠ 0xFFFF then bits s 63 48 else 0

/-- The 12 bytes of an output's summary (15 Table 15.5). -/
def Dev.outSummary (d : Dev) (o : Nat) : Bytes :=
  let x := d.out o
  let on := d.composes o
  let ts := x.witnessTiles.map fun t => t.2.summary
  let flags := x.witnessHeld.toNat + 2 * (!on).toNat + 4 * x.glyphOk.toNat + 8 * x.sinkOk.toNat + 16 * x.barrierOut.toNat
  u8 (if on then d.witLevel o else 0) ++ u8 flags ++ u16 (ts.filter fun s => bits s 26 22 != 0).length
    ++ u32 (((ts.map ageShown).max?).getD 0) ++ u32 (d.wit o).rseq

/-- At the end of a wall frame each device sends its summaries to the acting Atlas (15 R418). -/
def summarySendOp (d : Dev) : Dev :=
  if d.chain.role = 0 then d
  else
    let body := outputNumbers.flatMap d.outSummary
    if d.acting then
      { d with chain := { d.chain with summaries := (d.chain.position, body) :: d.chain.summaries.filter (·.1 != d.chain.position) } }
    else match d.chain.acting with
    | some a => d.chainUnicast 6 a (u64 d.chain.wallFrame ++ body)
    | none => d

/-- CHAIN_QUERY (15 R418, Table 15.6). -/
def chainQueryOp (c : Ctx) (first : Nat) (d : Dev) : Answer :=
  checked [(!c.partner, stNotPermitted), (d.acting && decide (d.ndev ≤ first), stBadParam)] d fun d =>
  let acting := d.acting
  let room := (d.maxLen c.ses.port - 28 - 36) / 96
  let n := if acting then min room (d.ndev - first) else 0
  let sums := (List.range n).flatMap fun i => padTo 96 (((d.chain.summaries.find? (·.1 == first + i)).map (·.2)).getD [])
  let flags := d.chain.excluded.toNat + 2 * d.chain.waiting.toNat + 4 * (!d.chain.miscabled.isEmpty).toNat
  (some (rRead (u8 d.chain.role ++ u8 d.chain.position ++ u8 (d.chain.acting.getD 0xFF) ++ u8 (d.chain.standby.getD 0xFF) ++ u32 d.chain.chainId
    ++ u8 d.ndev ++ u8 d.chain.topology ++ u16 flags ++ u32 d.layoutId ++ u64 d.chain.wallFrame
    ++ u32 ((d.chain.go.map (·.exclude)).getD 0) ++ u32 d.reachMask ++ u16 d.chain.takeback ++ u8 (if acting then first else 0) ++ u8 n ++ sums)), d)

/-! ### Roles and remote resets (15 R399, R422) -/

/-- CHAIN_ROLE: checked, stored in the option words, applied. -/
def chainRoleOp (c : Ctx) (role position chainId : Nat) (d : Dev) : Answer :=
  checked [(!d.present 15 && !d.present 16, stUnitAbsent), (!c.ses.mediator, stNotPermitted),
    (decide (31 < position) || (chainId == 0 && role != 0) || decide (3 < role), stBadParam)] d fun d =>
  let d := { d with chain := { d.chain with role, position, chainId, listening := role == 1, acting := none, waiting := false, missed := false,
                                            inService := [], hops := [] } }
  let d := d.writeOptions 2
  let p := d.get .sesPortCfg 5
  let d := if role = 0 then d.put .sesPortCfg 5 (setBit p 62 false)
    else if role = 1 then d else d.put .sesPortCfg 5 (setBit (setBit p 63 true) 62 true)
  (some { st := stOk, ph := 3 }, d.topology)

/-- The MAC of a RESET_REQ (15 R422). -/
def Dev.resetMac (d : Dev) (target level count : Nat) : Bytes :=
  (padTo 32 (Config.hmacSha256 (((d.prt 5).key.map (·.key)).getD (zeros 32)) (u32 d.chain.chainId ++ u8 target ++ u8 level ++ u64 count))).take 16

/-- A Sheet excluded for 600 wall frames whose DISCOVER still arrives gets a RESET_REQ, at most once in 60 s (15 R422); its COUNT is open. -/
def resetReqSendOp (pos : Nat) (d : Dev) : Dev :=
  let recent := d.chain.resetSent.any fun r => r.1 == pos && decide (d.tim.elapsed < r.2 + 60000000000)
  if d.acting && pos != d.chain.position && d.reaches pos && decide (600 ≤ smGet 0 d.chain.exclRun pos) && !recent then
    let (v, d) := d.fresh
    let count := v % 2 ^ 64
    let d := { d with chain := { d.chain with resetSent := (pos, d.tim.elapsed) :: d.chain.resetSent.filter (·.1 != pos) } }
    (d.chainUnicast 9 pos (u8 2 ++ zeros 3 ++ u64 count ++ d.resetMac pos 2 count)).raise toPartners
      { code := 0xEC08, object := pos, data := u8 2 ++ u64 count }
  else d

/-! ### Forwarded slices (15 R417) -/

/-- The stamp of a forwarded unit: its times corrected by the origin's own steps since its epoch. -/
def Dev.forwardStamp (d : Dev) (s : Stamp) : Stamp :=
  let step := d.stepSum s.epoch
  { s with cap := ((s.cap : Int) + step).toNat, ing := ((s.ing : Int) + step).toNat,
           taint := s.taint ||| taintIf d.holdoverFlag tHoldover }

/-- A source's published units go to the mirrors of its routes, and with the whole picture its stamp; the rows' samples are not in the model. -/
def Dev.forwardSlices (d : Dev) (n : Nat) (units : List Nat) (st : Stamp) (whole : Option Stamp) : Dev :=
  let mine := d.routes.filter fun r => r.getD 1 0 == d.chain.position && r.getD 3 0 == n
  d.each mine fun d r =>
    let y0 := r.getD 6 0
    let y1 := r.getD 8 0
    let d := d.each units fun d u =>
      let a := max u y0
      let b := min (u + 7) y1
      if a ≤ b then d.chainUnicast 2 (r.getD 2 0) (u16 (r.getD 0 0) ++ u16 a ++ u16 (b + 1 - a) ++ u16 0 ++ leBytes 32 (d.forwardStamp st).word)
      else d
    match whole with
    | some w => d.chainUnicast 2 (r.getD 2 0) (u16 (r.getD 0 0) ++ u16 0 ++ u16 0 ++ u16 1 ++ leBytes 32 (d.forwardStamp w).word)
    | none => d

/-- After a source's picture work: what it published is forwarded. -/
def Dev.forwarding (before after : Dev) (n : Nat) (units : List Nat) : Dev :=
  let new := (after.dec n).pics.head?.filter fun (p : Pic) => (before.dec n).pics.head?.all fun (q : Pic) => q.stamp.seq != p.stamp.seq || q.stamp.gen != p.stamp.gen
  let own := match (after.dec n).curStamps.getLast? with
    | some s => some s
    | none => new.map fun (p : Pic) => p.stamp
  match own with
  | some s => after.forwardSlices n units s (new.map fun (p : Pic) => p.stamp)
  | none => after

/-- A SLICE frame feeds a mirror: its units gather by picture, and with all of them and the WHOLE frame the picture is final; a newer picture
takes the place of one that lacks a unit. -/
def Dev.sliceRx (d : Dev) (route row0 nrows : Nat) (whole : Bool) (stamp : Bytes) : Dev :=
  match sourceNumbers.find? fun n => d.mirrorRoute n == some route, d.route route with
  | some n, some r =>
    let s := stampOfWord (leVal stamp)
    let s : Stamp := { s with src := n, gen := d.srcGen n, epoch := d.epoch, taint := s.taint ||| tForwarded ||| taintIf d.holdoverFlag tHoldover }
    let m := ((d.dec n).mirror.filter (·.seq == s.seq)).getD { seq := s.seq }
    let m : MirrorPic :=
      if whole then { m with whole := some s }
      else { m with rows := m.rows ++ ((List.range nrows).map (row0 + ·)).filter fun y => !m.rows.contains y,
                    stamps := m.stamps.filter (·.slice != s.slice) ++ [s] }
    let y0 := r.getD 6 0
    let full := (List.range (r.getD 8 0 + 1 - y0)).all fun i => m.rows.contains (y0 + i)
    match full, m.whole with
    | true, some w =>
      let d := d.modDec n fun x => { x with mirror := none }
      let was := (d.src n).st
      let d := d.modSrc n fun x => { x with st := .running, waitMs := d.get .srcLossMs n }
      let d := d.when (was == .lost) fun d => d.resumedEvent n
      let (_, d) := d.accepted n w.ing
      let d := d.freezeRun n w.check w.cap
      d.publish n { stamp := w, slices := m.stamps, runStart := (d.src n).runStart, expired := m.mark, width := r.getD 7 0 + 1 - r.getD 5 0, height := r.getD 8 0 + 1 - y0 }
    | _, _ => d.modDec n fun x => { x with mirror := some m }
  | _, _ => d

/-! ### Layout images (15 R413 to R416) -/

/-- The items of a device section: ADDR, OFFSET, COUNT and data padded to 4 bytes. -/
def layoutItems : Nat → Bytes → Option (List ParItem)
  | 0, b => if b.isEmpty then some [] else none
  | n + 1, b =>
    let len := leVal ((b.drop 6).take 2)
    let pad := ceilDiv len 4 * 4
    if b.length < 8 + pad then none
    else (layoutItems n (b.drop (8 + pad))).map fun l =>
      { par := parAt (leVal (b.take 4)), offset := leVal ((b.drop 4).take 2), data := (b.drop 8).take len } :: l

/-- The device sections, and the bytes after them. -/
def layoutSections : Nat → Bytes → Option (List (Nat × Nat × List ParItem) × Bytes)
  | 0, b => some ([], b)
  | k + 1, b =>
    let n := leVal ((b.drop 2).take 2)
    let len := leVal ((b.drop 4).take 4)
    if b.length < 8 + len then none
    else match layoutItems n ((b.drop 8).take len), layoutSections k (b.drop (8 + len)) with
    | some items, some (l, rest) => some (((b.getD 0 0).toNat, (b.getD 1 0).toNat, items) :: l, rest)
    | _, _ => none

/-- A route entry (15 R415). -/
def routeOf (b : Bytes) : List Nat :=
  [leVal (b.take 2), (b.getD 2 0).toNat, (b.getD 3 0).toNat, (b.getD 4 0).toNat, (b.getD 5 0).toNat, leVal ((b.drop 8).take 2),
    leVal ((b.drop 10).take 2), leVal ((b.drop 12).take 2), leVal ((b.drop 14).take 2)]

/-- A well-formed image (15 Table 15.4): its parts, with the CHAIN_ID it names; none where it is malformed or its DIGEST does not match. -/
def parseLayout (b : Bytes) : Option (Layout × Nat) :=
  let ndev := (b.getD 5 0).toNat
  let nroute := leVal ((b.drop 6).take 2)
  let len := leVal ((b.drop 16).take 4)
  let id := leVal ((b.drop 12).take 4)
  let body := b.take (len - 48)
  if leVal (b.take 4) ≠ 0x314C5941 ∨ (b.getD 4 0).toNat ≠ 1 ∨ ndev < 2 ∨ 32 < ndev ∨ 256 < nroute ∨ id = 0 ∨ b.length ≠ len ∨ len < 72
      ∨ padTo 48 (Config.sha384 body) ≠ b.drop (len - 48) then none
  else match layoutSections ndev (body.drop 24) with
  | none => none
  | some (sections, rest) =>
    if rest.length ≠ 16 * nroute ∨ (List.range ndev).any (fun p => !sections.any (·.1 == p)) then none
    else some ({ id, ndev, image := b, sections, routes := (List.range nroute).map fun i => routeOf ((rest.drop (16 * i)).take 16) },
      leVal ((b.drop 8).take 4))

/-- The device's mirrors follow a staged layout: GEN advances where a route is set or changed (15 R416, 04 R92); the origin's KIND and CLOCK are
not in the image and stay open. -/
def Dev.setMirrors (d : Dev) (l : Layout) : Dev :=
  d.each sourceNumbers fun d n =>
    let new := (l.routes.find? fun r => r.getD 2 0 == d.chain.position && r.getD 4 0 == n).map fun r => r.getD 0 0
    match new with
    | none => if (d.mirrorRoute n).isSome then (d.put .mdkMirror n 0).disableSrc n else d
    | some r =>
      if d.mirrorRoute n = some r ∧ (d.chain.inForce.any fun o => (o.routes.find? fun x => x.getD 0 0 == r) == l.routes.find? fun x => x.getD 0 0 == r) then d
      else
        let d := d.put .mdkMirror n (0x8000 + r)
        let (v, d) := d.fresh
        let c := d.get .srcCfg n
        let c := setBits (setBits (setBits (setBit c 63 true) 62 58 v) 57 55 0) 7 4 0
        (d.put .srcCfg n c).reassign n

/-- A device stages a layout (15 R414): its mirrors are set and its section's commit passes the checks of 07 Table 7.7, or STAGE_FAIL and the
status that failed go into READY. -/
def Dev.stageLayout (d : Dev) (l : Layout) : Dev :=
  let mask := ((l.sections.find? (·.1 == d.chain.position)).map (·.2.1)).getD 0
  let d := { d with chain := { d.chain with staged := some l, stageFail := 0 } }
  let d := d.setMirrors l
  match (if mask % 256 = 0 then none else (d.commitChecks (d.plan mask true 0) 0).find? (·.1)) with
  | some e => { d with chain := { d.chain with stageFail := e.2 } }
  | none => d

/-! ### Commands -/

/-- Command MDK_FRAME_RX. -/
def execMdkFrameRx (port : Nat) (f : MdkFrame) (s : State) : Host.Outcome State Fault Refusal :=
  onDev (Instr.wellFormed (.mdkFrameRx port f)) (fun d => d.withPorts (mdkFrameOp port f)) s

/-- Command MDK_LINKCTL_RX. -/
def execMdkLinkctlRx (port : Nat) (ack : Bool) (seq : Nat) (s : State) : Host.Outcome State Fault Refusal :=
  onDev (Instr.wellFormed (.mdkLinkctlRx port ack seq)) (fun d => d.withPorts (mdkLinkctlOp port ack seq)) s

/-- Command MDK_ACK_TIMER. -/
def execMdkAckTimer (port : Nat) (s : State) : Host.Outcome State Fault Refusal :=
  onDev (Instr.wellFormed (.mdkAckTimer port)) (mdkAckTimerOp port) s

/-- Command MDK_NAK_REPEAT. -/
def execMdkNakRepeat (port : Nat) (s : State) : Host.Outcome State Fault Refusal :=
  onDev (Instr.wellFormed (.mdkNakRepeat port)) (mdkNakRepeatOp port) s

/-- Command MDK_REPLAY_TIMEOUT. -/
def execMdkReplayTimeout (port : Nat) (s : State) : Host.Outcome State Fault Refusal :=
  onDev (Instr.wellFormed (.mdkReplayTimeout port)) (fun d => d.withPorts (mdkReplayTimeoutOp port)) s

/-- Command MDK_BLOCK_LOCK. -/
def execMdkBlockLock (port lanes : Nat) (aligned : Bool) (inv skew : Nat) (s : State) : Host.Outcome State Fault Refusal :=
  onDev (Instr.wellFormed (.mdkBlockLock port lanes aligned inv skew)) (fun d => d.withPorts (mdkBlockLockOp port lanes aligned inv skew)) s

/-- Command MDK_STARTUP_BURST. -/
def execMdkStartupBurst (port : Nat) (s : State) : Host.Outcome State Fault Refusal :=
  onDev (Instr.wellFormed (.mdkStartupBurst port)) (mdkStartupOp port) s

/-- Command MDK_RECOVERY_TIMEOUT. -/
def execMdkRecoveryTimeout (port : Nat) (s : State) : Host.Outcome State Fault Refusal :=
  onDev (Instr.wellFormed (.mdkRecoveryTimeout port)) (fun d => d.withPorts (mdkRecoveryTimeoutOp port)) s

/-- Command MDK_IDLE_TIMER. -/
def execMdkIdleTimer (port : Nat) (s : State) : Host.Outcome State Fault Refusal :=
  onDev (Instr.wellFormed (.mdkIdleTimer port)) (fun d => d.withPorts (mdkIdleTimerOp port)) s

/-- Command MDK_EIDLE_RX. -/
def execMdkEidleRx (port : Nat) (s : State) : Host.Outcome State Fault Refusal :=
  onDev (Instr.wellFormed (.mdkEidleRx port)) (fun d => d.withPorts (mdkEidleOp port)) s

/-- Command MDK_PEER_RX_UP. -/
def execMdkPeerRxUp (port : Nat) (up : Bool) (s : State) : Host.Outcome State Fault Refusal :=
  onDev (Instr.wellFormed (.mdkPeerRxUp port up)) (fun d => d.withPorts (mdkPeerRxUpOp port up)) s

/-- Command SLICE_DECODED, after the shedding of 05 R122 and with the forwarding of 15 R417. -/
def execSliceDecoded (r : SliceDec) (s : State) : Host.Outcome State Fault Refusal :=
  onDev (Instr.wellFormed (.sliceDecoded r)) (fun d => Dev.forwarding d (sliceDecodedOp r (if r.outcome = .redundant then d else d.shedAhead r.src r.seq)) r.src r.units) s

/-- The first rows of the 8-line units of a picture of this height. -/
def unitRows (height : Nat) : List Nat := (List.range (ceilDiv height 8)).map (8 * ·)

/-- Command DPI_FRAME_RX, with the forwarding of 15 R417. -/
def execDpiFrameRx (input : Nat) (f : DpiFrame) (s : State) : Host.Outcome State Fault Refusal :=
  onDev (Instr.wellFormed (.dpiFrameRx input f)) (fun d =>
    Dev.forwarding d (dpiFrameOp input f d) ((d.srcOn 3 input).getD 192) (unitRows f.fmt.height)) s

/-- Command DISCOVER_SEND. -/
def execDiscoverSend (s : State) : Host.Outcome State Fault Refusal := onDev (Instr.wellFormed .discoverSend) discoverSendOp s

/-- Command SUMMARY_SEND. -/
def execSummarySend (s : State) : Host.Outcome State Fault Refusal := onDev (Instr.wellFormed .summarySend) summarySendOp s

/-- Command RESET_REQ_SEND. -/
def execResetReqSend (position : Nat) (s : State) : Host.Outcome State Fault Refusal :=
  onDev (Instr.wellFormed (.resetReqSend position)) (resetReqSendOp position) s

end Sys2Proof.Machine
end

