-- ==== Sys2Proof/Machine/Ipu.lean ====
section
/-!
DEFINITION. The camera image pipeline (06): frames as they are received, exposure sets, the frame that is written, tap points, reprocessing.
-/

namespace Sys2Proof.Machine

/-- A pipeline counter IPU.STAT[c][k] (06 Table 6.7). -/
def Dev.ipuCount (d : Dev) (c k : Nat) (by_ : Nat := 1) : Dev := d.count2 .ipuStat c k by_

/-- An event of a pipe goes to the owner of its source and every mediator session, with the source's GEN (06 R162). -/
def Dev.ipuEvent (d : Dev) (c k : Nat) (data : Bytes) : Dev :=
  let (owner, gen) := match d.srcOn 4 c with
    | some n => (d.srcOwner n, d.srcGen n)
    | none => (0, 0)
  d.raise (toOwnerMed owner) { code := 0xE600 + k, object := c, gen, data }

/-- The pipe runs: the unit is present and in service, its port is enabled, and the device is not in NIGHT. -/
def Dev.pipeRuns (d : Dev) (c : Nat) : Bool :=
  d.present 20 && d.inService 0x0C && d.flag .ipuPortCfg c 31 && !d.inNight

/-- Exposures per frame under the port configuration that the last FS took. -/
def Pipe.nExp (p : Pipe) : Nat := bits p.port 7 6 + 1

/-- The exposure that arrives on a virtual channel. -/
def Pipe.expOf (p : Pipe) (vc : Nat) : Option Nat :=
  let b := bits p.port 5 2
  if b ≤ vc ∧ vc < b + p.nExp then some (vc - b) else none

/-- The frame that an exposure is being received for. -/
def Pipe.openSet (p : Pipe) (x : Nat) : Option CamSet := p.sets.find? fun s => s.exps.any fun e => e.1 == x && !e.2.closed

/-- The frame with an extended number changed. -/
def Dev.modSet (d : Dev) (c e : Nat) (f : CamSet → CamSet) : Dev :=
  d.modPipe c fun p => { p with sets := p.sets.map fun s => if s.e == e then f s else s }

/-- The exposure of a frame changed. -/
def CamSet.modExp (s : CamSet) (x : Nat) (f : ExpRx → ExpRx) : CamSet :=
  { s with exps := s.exps.map fun e => if e.1 == x then (e.1, f e.2) else e }

/-- `extend(fn)` (06 R160). -/
def Pipe.extend (p : Pipe) (fn : Nat) : Pipe :=
  if fn = 0 then { p with e := (p.e + 1) % 2 ^ 32 }
  else
    let d := match p.fPrev with
      | none => 1
      | some q => (fn + 65536 - q) % 65536
    let d := if d = 0 ∨ 16 < d then 1 else d
    { p with e := (p.e + d) % 2 ^ 32, fPrev := some fn }

/-- Every exposure of a frame has closed: ING_TIME is taken, in the stamp's EPOCH (06 R157); a frame that overran goes whole (R148). -/
def Dev.setReceived (d : Dev) (c e : Nat) : Dev :=
  match (d.pipe c).sets.find? (·.e == e) with
  | none => d
  | some s =>
    if !(s.exps.all fun x => x.2.closed) || s.ing.isSome then d
    else if s.discard then d.modPipe c fun p => { p with sets := p.sets.filter (·.e != e) }
    else d.modSet c e fun s => { s with ing := some ((d.now : Int) - d.stepSum s.epoch).toNat }

/-- An exposure that came ahead of its exposure 0 closes (06 R153, R154). -/
def Dev.closeEarly (d : Dev) (c x : Nat) : Dev :=
  let h := bits (d.pipe c).cam 47 32
  let short := (d.pipe c).early.any fun a => a.exp == x && !a.rx.closed && decide (a.rx.lines < h)
  (d.when short fun d => d.ipuCount c 3).modPipe c fun p =>
    { p with early := p.early.map fun a => if a.exp = x then { a with rx := { a.rx with closed := true }, cropPad := a.cropPad || short } else a }

/-- Exposures that came ahead of an exposure 0 that was lost are discarded, and counted (06 R154). -/
def Dev.dropEarly (d : Dev) (c : Nat) (f : EarlyExp → Bool) : Dev :=
  (d.ipuCount c 6 ((d.pipe c).early.filter f).length).modPipe c fun p => { p with early := p.early.filter fun a => !f a }

/-- An exposure closes (06 R153, R154): lines short of HEIGHT are padded, and with exposure 0 those that have not begun. -/
def Dev.closeExposure (d : Dev) (c x : Nat) : Dev :=
  match (d.pipe c).openSet x with
  | none => d.closeEarly c x
  | some s =>
    let h := bits (d.pipe c).cam 47 32
    let short := s.exps.any fun e => e.1 == x && decide (e.2.lines < h)
    let d := d.when short fun d => d.ipuCount c 3
    let missing := if x = 0 then (List.range (d.pipe c).nExp).filter fun i => !s.exps.any (·.1 == i) else []
    let d := d.modSet c s.e fun s =>
      let s := s.modExp x fun r => { r with closed := true }
      { s with cropPad := s.cropPad || short || !missing.isEmpty, exps := s.exps ++ missing.map fun i => (i, { closed := true }) }
    d.setReceived c s.e

/-- The output format of a pipe (06 R147), in the layout of SRC.FMT. -/
def Dev.pipeFormat (d : Dev) (c : Nat) : Format :=
  let w := d.get .ipuOutCfg c
  { width := bits w 63 48, height := bits w 47 32, sampling := bits w 31 28, depth := bits w 27 24, color := bits w 23 20 }

/-- A WIDTH, HEIGHT or MOSAIC that an FS of exposure 0 takes anew is a format change of the source (06 R147). -/
def Dev.takeCam (d : Dev) (c n : Nat) : Dev :=
  let now := d.get .ipuCamCfg c
  let old := (d.pipe c).cam
  let d := d.modPipe c fun p => { p with cam := now }
  d.when (old != 0 && bits old 63 28 != bits now 63 28 && (d.src n).st == .running) fun d => d.enterFormat n false none

/-- The input buffer overflows: the frame is discarded whole, and counted once (06 R148). -/
def Dev.overrunSet (d : Dev) (c : Nat) (s : CamSet) : Dev :=
  if s.discard then d
  else
    let d := (d.modSet c s.e fun s => { s with discard := true }).ipuCount c 8
    let run := (d.pipe c).overrunRun
    let d := d.modPipe c fun p => { p with overrunRun := true }
    d.when (!run) fun d => d.ipuEvent c 1 (u32 s.e)

/-- A frame start packet (06 R154 to R160). -/
def csiFsOp (c vc fn : Nat) (d : Dev) : Dev :=
  if !d.pipeRuns c then d
  else
    let d := d.modPipe c fun p => { p with port := d.get .ipuPortCfg c }
    match (d.pipe c).expOf vc with
    | none => d
    | some x =>
      let d := (d.closeExposure c x).modPipe c fun p => { p with void := p.void.filter (· != x), stray := smSet 0 p.stray vc 0 }
      let d := d.dropEarly c fun a => if x = 0 then fn == 0 || a.fn != fn else a.exp == x
      if x = 0 then
        match d.srcOn 4 c with
        | none => (d.dropEarly c fun _ => true).modPipe c fun p => { p.extend fn with cam := d.get .ipuCamCfg c }
        | some n =>
          let d := (d.takeCam c n).modPipe c (Pipe.extend · fn)
          let first := (d.pipe c).early
          let s : CamSet :=
            { e := (d.pipe c).e, fn, fs := first.foldl (fun t a => min t a.fs) d.now, epoch := d.epoch, holdover := d.holdoverFlag, gen := d.srcGen n,
              exps := (0, {}) :: first.map fun a => (a.exp, a.rx), cropPad := first.any (·.cropPad) }
          (d.modPipe c fun p => { p with sets := p.sets ++ [s], early := [] }).when (first.any (·.overflow)) fun d => d.overrunSet c s
      else
        let cand := (d.pipe c).sets.filter fun s => fn == 0 || s.fn == fn
        match cand.getLast?.filter fun s => s.ing.isNone && !s.exps.any (·.1 == x) with
        | some s => d.modSet c s.e fun s => { s with exps := s.exps ++ [(x, {})] }
        | none =>
          if fn = 0 then (d.ipuCount c 6).modPipe c fun p => { p with void := x :: p.void }
          else d.modPipe c fun p => { p with early := p.early ++ [{ exp := x, fn, fs := d.now }] }

/-- The counter of a line of pixel data that does not fit (06 R153): `n` lines of the exposure have come before it. -/
def lineCase (cam n : Nat) (l : CsiLine) : Option Nat :=
  let w := bits cam 63 48
  if bits cam 47 32 ≤ n then some 2 else if !l.crcOk then some 4 else if w < l.samples then some 0 else if l.samples < w then some 1 else none

/-- An exposure one line further; lines beyond HEIGHT are discarded. -/
def ExpRx.line (r : ExpRx) (cam : Nat) : ExpRx := if bits cam 47 32 ≤ r.lines then r else { r with lines := r.lines + 1 }

/-- A long packet (06 R143, R146, R153). -/
def csiLineOp (c : Nat) (l : CsiLine) (d : Dev) : Dev :=
  if !d.pipeRuns c then d
  else
    let d := d.ipuCount c 7 l.corrected.toNat
    if !l.supported then d.ipuCount c 5
    else if l.embedded then
      match (d.pipe c).sets.getLast? with
      | some s => if s.ing.isNone && l.crcOk then d.modSet c s.e fun s => { s with emb := l.embVals } else d
      | none => d
    else
      match (d.pipe c).expOf l.vc with
      | none => d
      | some x =>
        let cam := (d.pipe c).cam
        let seen := fun (n : Nat) (d : Dev) => match lineCase cam n l with
          | some k => d.ipuCount c k
          | none => d
        match (d.pipe c).openSet x with
        | none =>
          match (d.pipe c).early.find? fun a => a.exp == x && !a.rx.closed with
          | some a =>
            (seen a.rx.lines d).modPipe c fun p =>
              { p with early := p.early.map fun b =>
                  if b.exp = x then
                    { b with rx := b.rx.line cam, overflow := b.overflow || l.overflow, cropPad := b.cropPad || (lineCase cam a.rx.lines l).isSome }
                  else b }
          | none =>
            if (d.pipe c).void.contains x then d
            else d.modPipe c fun p => { p with stray := smSet 0 p.stray l.vc (smGet 0 p.stray l.vc + 1) }
        | some s =>
          let d := d.when l.overflow fun d => d.overrunSet c s
          let n := ((s.exps.find? (·.1 == x)).map fun e => e.2.lines).getD 0
          (seen n d).modSet c s.e fun s =>
            let s := s.modExp x fun r => r.line cam
            { s with cropPad := s.cropPad || (lineCase cam n l).isSome }

/-- A frame end packet; one without a start discards the lines since the last (06 R154). -/
def csiFeOp (c vc : Nat) (d : Dev) : Dev :=
  if !d.pipeRuns c then d
  else
    match (d.pipe c).expOf vc with
    | none => d
    | some x =>
      if ((d.pipe c).openSet x).isSome || (d.pipe c).early.any (fun a => a.exp == x && !a.rx.closed) then d.closeExposure c x
      else
        let n := if (d.pipe c).void.contains x then 0 else smGet 0 (d.pipe c).stray vc
        (d.ipuCount c 6 n).modPipe c fun p => { p with void := p.void.filter (· != x), stray := smSet 0 p.stray vc 0 }

/-- Twice the frame interval has passed since an exposure's FS (06 R154). -/
def csiTimeoutOp (c x : Nat) (d : Dev) : Dev := d.closeExposure c x

/-! ### Exposure sets (06 R158, R159) -/

/-- The longest exposure of a set in ns, 0 where no set has been applied. -/
def longestExp : Option ExpSet → Nat
  | none => 0
  | some s => ((s.sets.map Exposure.expNs).max?).getD 0

/-- The embedded values of a frame match a set. -/
def ExpSet.matches_ (s : ExpSet) (emb : List Nat) : Bool := s.embedded && s.sets.map Exposure.emb == emb

/-- The set that a frame applies, those that stay pending, and whether its embedded values are unknown. -/
def Pipe.pick (p : Pipe) (e : Nat) (emb : List Nat) : Option ExpSet × List ExpSet × Bool :=
  if bit p.cam 20 then
    let less := fun (l : List ExpSet) => l.map fun s => { s with framesLeft := s.framesLeft - 1 }
    match p.pend.find? fun s => s.matches_ emb with
    | some s => (some s, less (p.pend.filter fun t => t.tag != s.tag), false)
    | none => (none, less p.pend, !(p.inForce.any fun s => s.matches_ emb))
  else
    let due := p.pend.filter fun s => !s.embedded && !serialGt 32 s.target e
    (due.getLast?, p.pend.filter fun s => s.embedded || serialGt 32 s.target e, false)

/-- IPU_EXPOSE: the set is checked, its target fixed, and it is queued. -/
def ipuExposeOp (c : Ctx) (pipe tag : Nat) (sets : List Exposure) (d : Dev) : Answer :=
  let own := (d.srcOn 4 pipe).any fun n => c.owns (d.srcOwner n)
  checked [(!d.present 20, stUnitAbsent), (!own && !c.ses.mediator, stNotPermitted),
    (decide (3 < pipe) || tag == 0 || sets.length != bits (d.get .ipuPortCfg pipe) 7 6 + 1
      || sets.any (fun x => x.expNs == 0 || x.gain == 0), stBadParam)] d fun d =>
  let p := d.pipe pipe
  let cam := d.get .ipuCamCfg pipe
  let embedded := bit cam 20
  let target := if embedded then 0xFFFFFFFF else (p.e + bits cam 19 16) % 2 ^ 32
  let same := fun (s : ExpSet) => !embedded && !s.embedded && s.target == target
  let d := d.each (p.pend.filter same) fun d s => d.ipuEvent pipe 3 (u32 s.target ++ u16 s.tag)
  let new : ExpSet := { tag, sets, target, embedded, port := c.ses.port, session := c.ses.sid, seq := c.seq }
  let d := d.modPipe pipe fun p => { p with pend := p.pend.filter (fun s => !same s) ++ [new] }
  (some { st := stOk, ph := 3, body := u32 target }, d)

/-- A set that has not matched within 16 frames is discarded (06 R159). -/
def exposeTimeoutOp (c tag : Nat) (d : Dev) : Dev :=
  let p := d.pipe c
  if p.pend.any fun s => s.embedded && s.tag == tag && s.framesLeft == 0 then
    (d.modPipe c fun p => { p with pend := p.pend.filter fun s => !(s.embedded && s.tag == tag && s.framesLeft == 0) }).ipuEvent c 4
      (u32 p.e ++ u16 tag)
  else d

/-! ### The finished frame (06 R150, R156, R157, R161) -/

/-- Bytes of a tapped frame at a tap point (06 Table 6.6). -/
def tapBytes (cam t nexp : Nat) : Nat :=
  let n := bits cam 63 48 * bits cam 47 32
  match t with
  | 0 => 2 * n * nexp | 1 => 4 * n * nexp | 2 | 3 => 4 * n
  | 4 => (if bits cam 31 28 = 4 then 8 else 6) * n
  | _ => 6 * n

/-- The stamp that a tap copies: as it stands when the tap's stage completes, so CHECK, PROOF, EVID and HB_CTR, which the pipeline writes after the
last stage (02 R31, 06 R157), stay open. -/
def Dev.tapStamp (d : Dev) (st : Stamp) : Stamp × Dev :=
  let v := fun i => Config.freeValue (d.free + i)
  ({ st with check := v 0 % 2 ^ 32, proof := v 1 % 4, evid := v 2 % 16, hbCtr := v 3 % 65536 }, { d with free := d.free + 4 })

/-- A stamp of which the spec states only PROOF 0 (06 R152). -/
def Dev.unprovenStamp (d : Dev) : Stamp × Dev :=
  let v := fun i => Config.freeValue (d.free + i)
  ({ hbCtr := v 0 % 65536, epoch := v 1 % 16, evid := v 2 % 16, gen := v 3 % 256, check := v 4 % 2 ^ 32, ing := v 5, cap := v 6,
     taint := v 7 % 1024, capsrc := v 8 % 4, proof := 0, slice := v 9 % 256, src := v 10 % 192, seq := v 11 % 2 ^ 32 },
   { d with free := d.free + 12 })

/-- The enabled taps copy the frame with its stamp, each into the next buffer of its ring unless that is still held (06 R150); the samples stay open. -/
def Dev.tapFrame (d : Dev) (c : Nat) (held : List Nat) (st : Stamp) : Dev :=
  d.each ((List.range 6).filter fun t => d.flag .ipuTapEn c t) fun d t =>
    if held.contains t then d.ipuCount c 9
    else
      let ring := d.get .ipuTapRing (6 * c + t)
      let n := max 1 (bits ring 3 0)
      let i := smGet 0 (d.pipe c).tapIdx t
      let a := bits ring 111 64 + i * tapBytes (d.pipe c).cam t (d.pipe c).nExp
      let (st, d) := (d.scribble a (tapBytes (d.pipe c).cam t (d.pipe c).nExp)).tapStamp st
      d.modPipe c fun p =>
        { p with tapIdx := smSet 0 p.tapIdx t ((i + 1) % n), taps := (a, st) :: p.taps.filter (·.1 != a), outs := p.outs.filter (·.1 != a) }

/-- The last output line of a frame is written (06 R157): the stamp becomes final. -/
def frameDoneOp (c : Nat) (f : CamFrame) (d : Dev) : Dev :=
  match (d.pipe c).sets.find? (·.ing.isSome), d.srcOn 4 c with
  | some s, some n =>
    let d := d.modPipe c fun p => { p with sets := p.sets.filter (·.e != s.e), overrunRun := false }
    if s.gen ≠ d.srcGen n then d
    else
      let fmt := d.pipeFormat c
      let (carries, d) := d.formatOf n fmt
      let (seq, d) := d.accepted n (s.ing.getD 0)
      let (set, pend, unknown) := (d.pipe c).pick s.e s.emb
      let wasUnknown := (d.pipe c).unknownRun
      let d := d.modPipe c fun p => { p with inForce := set.or p.inForce, pend, unknownRun := unknown, applied := p.applied || set.isSome }
      let d := match set with
        | some x => d.ipuEvent c 2 (u32 s.e ++ u32 seq ++ u16 x.tag)
        | none => d
      let d := d.when (unknown && !wasUnknown) fun d => d.ipuEvent c 5 (u32 s.e ++ u16 (((d.pipe c).inForce.map fun x => x.tag).getD 0))
      let cap := s.fs - longestExp (d.pipe c).inForce - bits (d.pipe c).cam 15 0 * 1000
      let st : Stamp :=
        { epoch := s.epoch, gen := s.gen, ing := s.ing.getD 0, cap, capsrc := 2, slice := 0, src := n, seq,
          taint := taintIf s.holdover tHoldover + taintIf s.cropPad tCropPad + taintIf carries tFormat + taintIf f.poison tPoison }
      let d := d.placement n
      let d := d.finishUncompressed n st s.e f.check f.sentinels f.grid fmt s.mark
      let d := match (d.dec n).lastOut with
        | some p => d.tapFrame c f.tapsHeld p.stamp
        | none => d
      let was := (d.pipe c).sizeRun
      let d := d.modPipe c fun p => { p with sizeRun := s.cropPad }
      let d := d.when (was != s.cropPad) fun d => d.ipuEvent c 0 (u32 s.e)
      let i := (d.pipe c).statsIdx
      let d := d.ipuCount c 10 (decide (8 ≤ (d.pipe c).stats.length)).toNat
      let taint := (((d.dec n).lastOut.map fun p => p.stamp.taint).getD st.taint)
      let head : StatHead :=
        { seq, frame := s.e, gen := s.gen, cap, tag := ((d.pipe c).inForce.map fun x => x.tag).getD 0, taint }
      let d := d.modPipe c fun p => { p with statsIdx := (i + 1) % 8, stats := (i, head) :: p.stats.filter (·.1 != i) }
      d.ipuEvent c 6 (u32 s.e ++ u32 seq ++ u8 i)
  | _, _ => d

/-! ### Reprocessing (06 R151, R152) -/

/-- IPU_REPROCESS: the input and output lie in the issuer's colour; the frame's bytes follow from the configuration. The reply comes when the output
is written (06 R151, 11 R300: a squashed one replies ABORTED at phase 2). -/
def ipuReprocessOp (c : Ctx) (tap pipe copy inAddr outAddr outFmt : Nat) (config : Bytes) (d : Dev) : Answer :=
  let own := (d.srcOn 4 pipe).any fun n => c.owns (d.srcOwner n)
  let cam := if copy = 1 then leVal (config.take 8) else d.get .ipuCamCfg pipe
  let nin := tapBytes cam tap (bits (d.get .ipuPortCfg pipe) 7 6 + 1)
  let nout := bits outFmt 63 48 * bits outFmt 47 32 * 8
  let colour := d.ownerColour c.act
  let fmtOk := decide (64 ≤ bits outFmt 63 48 ∧ bits outFmt 63 48 ≤ 7680 ∧ 64 ≤ bits outFmt 47 32 ∧ bits outFmt 47 32 ≤ 7680)
    && decide (1 ≤ bits outFmt 31 28 ∧ bits outFmt 31 28 ≤ 3 ∧ bits outFmt 27 24 = 10 ∧ (bits outFmt 23 20 = 1 ∨ bits outFmt 23 20 = 2))
  checked [(!d.present 20, stUnitAbsent), (!own && !c.ses.mediator, stNotPermitted),
    (decide (tap ≤ 4) && decide (0 < nin) && !d.allTagged inAddr nin colour, stNotPermitted),
    (fmtOk && !d.allTagged outAddr nout colour, stNotPermitted),
    (decide (4 < tap) || decide (3 < pipe) || decide (1 < copy) || !fmtOk || decide (nin = 0) || (copy == 1 && decide (config.length < 8)), stBadParam)]
    d fun d =>
  (none, (d.modPipe pipe fun p =>
    { p with reproc := p.reproc ++ [{ port := c.ses.port, session := c.ses.sid, seq := c.seq, inAddr, outAddr, outLen := nout, pipe }] }).phaseDone c.ses.port
      c.ses.sid c.seq 2)

/-- The output of a reprocessing job is written (06 R151, R152): its stamp is its input's, where a tap of a source with the same GEN wrote that,
with CHECK computed afresh; else one with PROOF 0. The samples stay open. What it writes is no longer a tap's buffer. -/
def reprocessDoneOp (c : Nat) (d : Dev) : Dev :=
  match (d.pipe c).reproc with
  | [] => d
  | j :: rest =>
    let tapped := ((List.range 4).filterMap fun i => (d.pipe i).taps.find? (·.1 == j.inAddr)).head?
    let (st, d) : Stamp × Dev := match tapped.filter fun t => t.2.gen == d.srcGen t.2.src with
      | some (_, s) => ({ s with check := d.fresh.1 % 2 ^ 32 }, d.fresh.2)
      | none => d.unprovenStamp
    let d := (d.scribble j.outAddr j.outLen).modPipe c fun p => { p with reproc := rest, outs := (j.outAddr, st) :: p.outs.filter (·.1 != j.outAddr) }
    let d := d.each (List.range 4) fun d i => d.modPipe i fun p => { p with taps := p.taps.filter (·.1 != j.outAddr) }
    d.finishReply j.port j.session j.seq { st := stOk, ph := 3 }

/-! ### Checks of a write (06 R144, R145) -/

/-- A data type of 06 Table 6.1. -/
def dtOk (dt : Nat) : Bool := decide (0x2A ≤ dt ∧ dt ≤ 0x2F) || decide (0x30 ≤ dt ∧ dt ≤ 0x37)

/-- The relational checks of a write of IPU.PORT_CFG[c] (06 R144). -/
def Dev.portCfgOk (d : Dev) (c w : Nat) : Bool :=
  let dt := bits w 13 8
  !(bit w 30 && c % 2 == 1) && dtOk dt && (bits w 1 0 == 0 || decide (0x30 ≤ dt ∧ dt ≤ 0x37))
    && decide (bits w 5 2 + bits w 7 6 + 1 ≤ 16)
    && !(bit w 31 && c % 2 == 1 && d.flag .ipuPortCfg (c - 1) 30)
    && !(bit w 30 && c % 2 == 0 && d.flag .ipuPortCfg (c + 1) 31)

/-- The mosaic period of IPU.CAM_CFG (06 Table 6.4). -/
def mosaicPeriod (w : Nat) : Nat := if bits w 31 28 = 1 ∨ bits w 31 28 = 4 then 4 else 2

/-- The relational checks of a write of IPU.CAM_CFG (06 Table 6.3). -/
def camCfgOk (w : Nat) : Bool :=
  let p := mosaicPeriod w
  decide (bits w 63 48 % p = 0 ∧ bits w 47 32 % p = 0 ∧ bits w 27 24 < p * p)

/-- A write of IPU.PORT_CFG: enabling the pipe starts E at 0 and the runs over (06 R160); disabling drops what is in it. -/
def portCfgWritten (c old : Nat) (d : Dev) : Dev :=
  let now := d.get .ipuPortCfg c
  if bit old 31 = bit now 31 then d
  else d.modPipe c fun p => { port := now, cam := d.get .ipuCamCfg c, statsIdx := p.statsIdx, stats := p.stats, tapIdx := p.tapIdx,
                              taps := p.taps, outs := p.outs, reproc := p.reproc }

/-! ### Commands -/

/-- Command CSI_FRAME_START. -/
def execCsiFrameStart (pipe vc fn : Nat) (s : State) : Host.Outcome State Fault Refusal :=
  onDev (Instr.wellFormed (.csiFrameStart pipe vc fn)) (csiFsOp pipe vc fn) s

/-- Command CSI_LINE_RX. -/
def execCsiLineRx (pipe : Nat) (line : CsiLine) (s : State) : Host.Outcome State Fault Refusal :=
  onDev (Instr.wellFormed (.csiLineRx pipe line)) (csiLineOp pipe line) s

/-- Command CSI_FRAME_END. -/
def execCsiFrameEnd (pipe vc fn : Nat) (s : State) : Host.Outcome State Fault Refusal :=
  onDev (Instr.wellFormed (.csiFrameEnd pipe vc fn)) (csiFeOp pipe vc) s

/-- Command CSI_EXPOSURE_TIMEOUT. -/
def execCsiExposureTimeout (pipe exposure : Nat) (s : State) : Host.Outcome State Fault Refusal :=
  onDev (Instr.wellFormed (.csiExposureTimeout pipe exposure)) (csiTimeoutOp pipe exposure) s

/-- Command IPU_EXPOSE_TIMEOUT. -/
def execIpuExposeTimeout (pipe tag : Nat) (s : State) : Host.Outcome State Fault Refusal :=
  onDev (Instr.wellFormed (.ipuExposeTimeout pipe tag)) (exposeTimeoutOp pipe tag) s

/-- Command IPU_FRAME_DONE, with the forwarding of 15 R417. -/
def execIpuFrameDone (pipe : Nat) (f : CamFrame) (s : State) : Host.Outcome State Fault Refusal :=
  onDev (Instr.wellFormed (.ipuFrameDone pipe f)) (fun d =>
    Dev.forwarding d (frameDoneOp pipe f d) ((d.srcOn 4 pipe).getD 192) (unitRows (d.pipeFormat pipe).height)) s

end Sys2Proof.Machine
end

