-- ==== Sys2Proof/Machine/Boundary.lean ====
section
/-!
DEFINITION. Boundary units (13 R361 to R366): their regions, the check of a page, violation reports, and the regions of the debug master
(17 R468, R469).
-/

namespace Sys2Proof.Machine

/-! ### Regions (13 Table 13.8) -/

/-- Region `r` of master `m` in force. -/
def Dev.bndRegion (d : Dev) (m r : Nat) : Nat := smGet 0 d.mem.regions (m * 32 + r)

/-- Region `r` of master `m` staged and put in force (13 R366). -/
def Dev.setRegion (d : Dev) (m r w : Nat) : Dev :=
  { d with mem := { d.mem with staged := smSet 0 d.mem.staged (m * 32 + r) w, regions := smSet 0 d.mem.regions (m * 32 + r) w } }

/-- A region over pages `[first, last]` with permissions R and W and a KEY_MODE. -/
def regionWord (first last : Nat) (r w : Bool) (mode : Nat) : Nat :=
  ((last % 2 ^ 36) <<< 92) + ((first % 2 ^ 36) <<< 56) + (1 <<< 55) + (r.toNat <<< 54) + (w.toNat <<< 53) + (mode <<< 50)

/-- The permission bit of a kind of access. -/
def permBit : AccKind → Nat
  | .read => 54 | .write => 53 | .fetch => 52

/-- KIND of a report. -/
def kindCode : AccKind → Nat
  | .read => 0 | .write => 1 | .fetch => 2

/-- A region regionHolds a page. -/
def regionHolds (w page : Nat) : Bool := bit w 55 && decide (bits w 91 56 ≤ page ∧ page ≤ bits w 127 92)

/-- The verdict on one page of an access (13 R362): allowed, or denied by a region (63: none matched), with whether the tag
comparison was what denied it. -/
inductive PageCheck where
  | allow
  | deny (region : Nat) (byTag : Bool)
  deriving DecidableEq, Repr

/-- The boundary unit's check of one page. -/
def Dev.checkPage (d : Dev) (m page : Nat) (kind : AccKind) (claim : Nat) : PageCheck :=
  match (List.range 32).find? fun r => regionHolds (d.bndRegion m r) page with
  | none => .deny 63 false
  | some r =>
    let w := d.bndRegion m r
    let t := d.tagOf page
    if !bit w (permBit kind) then .deny r false
    else match bits w 51 50 with
      | 1 => .allow
      | 0 => if t = bits w 49 44 then .allow else .deny r true
      | 2 => if t = claim then .allow else .deny r true
      | _ => .deny r true

/-! ### Reports (13 R365) -/

/-- The 192-bit entry of a report (13 Table 13.9). -/
def Viol.word (v : Viol) : Nat :=
  (datumTime v.time <<< 128) + (v.addr <<< 80) + (v.master <<< 75) + (v.region <<< 69) + (v.kind <<< 67) + (v.claim <<< 61) + (v.tag <<< 55)
    + (v.imprecise.toNat <<< 54) + (v.decode.toNat <<< 53) + (v.ovf.toNat <<< 52) + (v.epoch <<< 48) + (min 65535 v.count <<< 32)

/-- The mediator sessions and the tenancy session whose colour is the claim. -/
def Dev.toClaim (d : Dev) (claim : Nat) (s : Session) : Bool :=
  s.mediator || (s.role != 0 && decide (16 ≤ claim) && d.ownerColour s.role == claim)

/-- A report by the debug master is logged; 64 within 1 s detach the debug port (17 R469; what the entry of the detachment holds is
not stated). -/
def Dev.debugDenied (d : Dev) (entry : Bytes) : Dev :=
  let d := d.audit 0x000C entry
  let recent := d.tim.elapsed :: d.mem.denials.filter fun t => decide (d.tim.elapsed < t + 1000000000)
  let d : Dev := { d with mem := { d.mem with denials := recent.take 64 } }
  if 64 ≤ recent.length && !d.mem.debugDetached then
    let (data, d) := d.freshBytes 24
    Dev.audit { d with mem := { d.mem with debugDetached := true } } 0x000C data
  else d

/-- A report is made: kept in the queue of 16 or discarded, and raised. -/
def Dev.report (d : Dev) (v : Viol) : Dev :=
  let v := { v with time := d.now, epoch := d.epoch, ovf := d.mem.ovfPending }
  let d : Dev :=
    if d.mem.viol.length < 16 then { d with mem := { d.mem with viol := d.mem.viol ++ [v], ovfPending := false } }
    else { d with mem := { d.mem with ovfPending := true } }
  let d := d.raise (d.toClaim v.claim) { code := 0xEE09, object := v.master, data := leBytes 24 v.word }
  d.when (v.master == 23) fun d => d.debugDenied (leBytes 24 v.word)

/-- An imprecise notice (13 R364): further tag denials of the same master and region within 1 ms are merged into it. -/
def Dev.notice (d : Dev) (v : Viol) : Dev :=
  let same (x : Viol) : Bool := x.imprecise && x.master == v.master && x.region == v.region && decide (d.now ≤ x.time + 1000000)
  if d.mem.viol.any same then
    { d with mem := { d.mem with viol := d.mem.viol.map fun x => if same x then { x with count := min 65535 (x.count + 1) } else x } }
  else d.report { v with imprecise := true, addr := 0 }

/-- The masters that post their writes (13 R364). -/
def posts (m : Nat) : Bool := [15, 16, 17, 18, 19, 20, 22].contains m

/-- A piece of an access is denied by the boundary unit: one report (13 R362), imprecise where a posted write had been acknowledged before the
tag comparison denied it, which the spec leaves to the tag cache. -/
def Dev.denied (d : Dev) (m a region : Nat) (kind : AccKind) (claim : Nat) (byTag : Bool) : Dev :=
  let v : Viol := { time := 0, addr := a, master := m, region, kind := kindCode kind, claim, tag := d.tagOf (a / 4096), epoch := 0 }
  if byTag && posts m && kind = .write then
    let (x, d) := d.fresh
    if x % 2 = 1 then d.notice v else d.report v
  else d.report v

/-- The default target answers an access with a decode error and a precise report (13 R356). -/
def Dev.decodeError (d : Dev) (m a : Nat) (kind : AccKind) : Dev :=
  (d.report { time := 0, addr := a, master := m, region := 0, kind := kindCode kind, claim := 0, tag := 0, decode := true, epoch := 0 }).count2
    .xbrStat 11 3

/-! ### The debug master's regions (17 Table 17.7) -/

/-- Pages of an address range. -/
def pagesOf (base last : Nat) (r w : Bool) : Nat := regionWord (base / 4096) (last / 4096) r w 1

/-- The regions of master 23 in a lifecycle state, the cartouche pair's part of core SRAM first. -/
def Dev.debugRegions (d : Dev) : List Nat :=
  let top := dramBase + d.dramBytes
  let dram := decide (0 < d.dramBytes)
  let below (r w : Bool) := if dram then [pagesOf dramBase (top - reserveBytes - 1) r w] else []
  match d.lifecycle with
  | 2 => []
  | 3 =>
    [regionWord Config.cartPart.1 Config.cartPart.2 false false 1, pagesOf 0 0xFFFF true false, pagesOf 0x01000000 0x0101FFFF true false,
      pagesOf chartBase 0x12FFFFFF true false, pagesOf mramBase 0x303FFFFF true false, pagesOf 0x40000000 0x4FFFFFFF true false] ++ below true true
  | _ =>
    [regionWord Config.cartPart.1 Config.cartPart.2 true false 1, pagesOf 0 0xFFFF true true, pagesOf 0x01000000 0x0101FFFF true true,
      pagesOf chartBase 0x12FFFFFF true true, pagesOf cartBase 0x203FFFFF true false, pagesOf mramBase 0x303FFFFF true false,
      pagesOf 0x40000000 0x4FFFFFFF true true] ++ below true true
      ++ (if dram then [pagesOf (top - reserveBytes) (top - 1) true false] else [])

/-- Bursol programs them, at each change of state (17 R468). -/
def Dev.setDebugRegions (d : Dev) : Dev :=
  let l := d.debugRegions
  d.each (List.range 32) fun d r => d.setRegion 23 r (l.getD r 0)

end Sys2Proof.Machine
end

