-- ==== Sys2Proof/Machine/Reset.lean ====
section
/-!
DEFINITION. Resets (16 R425 to R438): what each level clears, the stretch, the option loader, the resets that pins, supplies, cores and timers
take, and the supply sequence (18 R487).
-/

namespace Sys2Proof.Machine

/-! ### SERVICE ends (17 R472) -/

/-- SERVICE ends, for the cause of SERVICE_EXITED (0 command, 1 expiry, 2 tamper, 3 reset): the debug regions are withdrawn, halted cores released,
and the exit is logged. -/
def Dev.endService (d : Dev) (cause : Nat) : Dev :=
  match d.sec.service with
  | none => d
  | some v =>
    let d : Dev := { d with sec := { d.sec with service := none }, rst := { d.rst with halted := [] } }
    let d := d.setDebugRegions
    let d := d.audit 0x0006 (u8 1 ++ u16 cause ++ u32 v.gen)
    d.raise toPartners { code := 0xED02, object := 0, data := u8 cause }

/-! ### What a reset clears (16 Table 16.1) -/

/-- The parameters whose values the AO domain holds (09 R246, 16 R439, 17 R476). -/
def aoPars : List Par := [.bshNightCfg, .bshWakeMs, .rstBackup, .rstAoSram, .secTamperCfg]

/-- A stored slot of such a parameter. -/
def isAoKey (k : Nat) : Bool := aoPars.any fun p => k / 2 / 2 ^ 24 == p.ctorIdx

/-- What a time of the AO domain becomes: a COLD reset clears the AO domain to zero. -/
def keepAo {α : Type} (level : Nat) (zero kept : α) : α := if level = 0 then zero else kept

/-- A reset of SYS, POR or COLD level (2, 1, 0): everything but the AO domain, audit MRAM, the fuses and the flash returns to its reset value.
Port keys are held with what audit MRAM keeps (notes/assumptions/25.md). -/
def Dev.wipe (d : Dev) (level : Nat) : Dev :=
  { units := d.units, p9c := d.p9c, free := d.free, sent := d.sent
    regs := d.regs.filter fun e => keepAo level false (isAoKey e.1)
    ports := (d.ports.filter (·.1 < 6)).filterMap fun p => p.2.key.map fun k => (p.1, { key := some k })
    travLogs := keepAo level [] (d.travLogs.map fun l => (l.1, l.2.map fun r => { r with rst := r.rst || r.inProgress }))
    wits := d.wits.map fun w => (w.1, { slotA := w.2.slotA, slotB := w.2.slotB, writeB := w.2.writeB })
    baseStores := d.baseStores
    mem := { cells := d.mem.cells.filter fun c => decide (mramBase ≤ c.1 ∧ c.1 < 0x30400000)
             trainTemp := d.mem.trainTemp
             debugDetached := d.mem.debugDetached && level == 2 }
    chain := { resetCount := keepAo level 0 d.chain.resetCount }
    flt := { retained := keepAo level [] d.flt.retained }
    rst := { d.rst with
      maintenance := false, pllGood := 0, blkSrst := 0xFF_F3FF_FFFF, blkDefer := 0, deferRaised := 0, blkRun := []
      coreTimes := keepAo level [] d.rst.coreTimes, aoTime := keepAo level 0 d.rst.aoTime
      halted := if level = 2 then d.rst.halted else [], wdtMs := 500, safeResetMs := 5000 }
    sec := { d.sec with
      mailbox := {}, running := {}, cartReleased := false, staging := [], stagedLen := 0, meas := zeros 48, measCount := 0
      challenge := none, service := none, serviceSinceBoot := false, aoPair := none
      tamperLog := keepAo level [] d.sec.tamperLog, tamperUncopied := keepAo level 0 d.sec.tamperUncopied
      tamperSafe := keepAo level false d.sec.tamperSafe, tamperExit := keepAo level false d.sec.tamperExit }
    sup := { d.sup with target := none, raising := false, tries := 0 } }

/-- A CORE reset (16 R435): the control cores, core SRAM and XBR.REMAP; Bursol notes its time. -/
def Dev.coreReset (d : Dev) : Dev :=
  { d with mem := { d.mem with remap := false }
           sec := { d.sec with cartReleased := false, running := { d.sec.running with coreReset := true } }
           rst := { d.rst with coreTimes := (d.rst.aoTime :: d.rst.coreTimes).take 3 } }

/-- Where the supplies are off, as in STANDBY, a reset starts as from power-on: SUPPLY_EN is driven high and the stretch waits for PGOOD (09 R247,
18 R487). -/
def Dev.powerUp (d : Dev) : Dev :=
  if d.sup.supplyEn then d
  else Dev.send { d with sup := { d.sup with supplyEn := true, pgood := false, started := false, vcore := 750 }
                         rst := { d.rst with waitSupply := true } } (.supplyEn true)

/-- A reset of a cause and level (0 COLD, 1 POR, 2 SYS, 3 CORE) is taken (16 R426 to R429). During another reset the stretch restarts and the deeper
level applies, with its cause. SERVICE ends first. -/
def Dev.resetTo (d : Dev) (cause level : Nat) : Dev :=
  let during := d.rst.stage != .idle
  let keepCause := during && decide (d.rst.level < level)
  let d := d.endService 3
  let loading := d.rst.stage == .loading || d.rst.wasLoading
  let d := if level = 3 then d.coreReset else (d.wipe level).powerUp
  let old := if cause = 1 ∨ cause = 2 then 0 else d.rst.history
  let rst := { d.rst with
    cause := if keepCause then d.rst.cause else cause
    level := if during then min d.rst.level level else level
    history := old ||| 2 ^ (cause - 1)
    aoCleared := level == 0 || (keepCause && d.rst.aoCleared)
    stage := .stretch, wasLoading := loading, rstOutLow := true, bursol := false }
  Dev.send { d with rst } (.rstOut false)

/-- A reset that would be the third CORE reset within 60 s is taken as a SYS reset with cause CORE_REPEAT (16 R448). -/
def Dev.takeReset (d : Dev) (cause level : Nat) : Dev :=
  if level = 3 ∧ 2 ≤ d.coreResets.length then d.resetTo 0x08 2 else d.resetTo cause level

/-! ### The stretch ends, the loader runs (16 R427, R431, R436) -/

/-- The stretch ends unless the supplies or the thermal sensors hold the reset: after a CORE reset RSTOUT_N goes high, else the loader starts,
again if it was cut short. -/
def stretchEndOp (d : Dev) : Dev :=
  if d.rst.stage != .stretch || d.rst.thermalHold || d.rst.waitSupply then d
  else if d.rst.level = 3 then Dev.send { d with rst := { d.rst with stage := .idle, rstOutLow := false, wasLoading := false } } (.rstOut true)
  else
    { d with rst := { d.rst with stage := .loading, wasLoading := false,
                                 loadRestarts := if d.rst.wasLoading then min 15 (d.rst.loadRestarts + 1) else 0 } }

/-- The role that the option words give (15 R399): as CHAIN_ROLE applies it. -/
def Dev.loadRole (d : Dev) (w : Nat) : Dev :=
  let role := bits w 7 0
  let d := { d with chain := { d.chain with role, position := bits w 15 8, chainId := bits w 63 32, listening := role == 1 } }
  let p := d.get .sesPortCfg 5
  if role ≤ 1 then d else d.put .sesPortCfg 5 (setBit (setBit p 63 true) 62 true)

/-- The option registers are written in one cycle from the words of a copy, absent ones at their safe defaults (16 Table 16.8). -/
def Dev.loadWords (d : Dev) (ws : List Nat) : Dev :=
  let w1 := ws.getD 1 0x2020
  let w3 := ws.getD 3 (500 + 65536 * 5000)
  let vr := ws.getD 4 0x40A00000
  let d := (((d.put .memDramCfg 0 (ws.getD 0 0)).put .lnkH0Bar2Size 0 (bits w1 7 0)).put .lnkH1Bar2Size 0 (bits w1 15 8)).loadRole (ws.getD 2 0)
  let d := ((d.put .rstWdtMs 0 (bits w3 15 0)).put .rstSafeResetMs 0 (bits w3 31 16)).put .clkVrCfg 0 vr
  let d := d.each [0, 1] fun d h => d.modPcie h fun e => { e with bar2Log := d.get (if h = 0 then .lnkH0Bar2Size else .lnkH1Bar2Size) }
  { d with rst := { d.rst with wdtMs := bits w3 15 0, safeResetMs := bits w3 31 16 }, sup := { d.sup with vr } }

/-- The loader completes (16 R436, R438; 13 R335): it uses the newer valid copy, or safe defaults where there is none or where the copy
describes DRAM that cannot be trained; the fuses are sensed and RSTOUT_N goes high. -/
def optionLoadOp (d : Dev) : Dev :=
  if d.rst.stage != .loading then d
  else
    let use := d.optUse.filter fun u => (dramGibOf (u.2.2.getD 0 0)).isSome
    let d := d.loadWords ((use.map fun u => u.2.2).getD [])
    let src := match use with
      | some u => u.1.toNat
      | none => 2
    let rst := { d.rst with
      stage := .idle, rstOutLow := false, optSrc := src
      tornA := (d.optCopy false).isNone, tornB := (d.optCopy true).isNone
      maintenance := src == 2 || d.lifecycle == 4 }
    Dev.send { d with rst, units := Config.unitsFused, p9c := Config.isP9C } (.rstOut true)

/-! ### Resets of supplies and pins (16 Table 16.2, 18 R487) -/

/-- VDD_AO has risen above 1.55 V for 1 ms: COLD, and SUPPLY_EN is driven high. -/
def coldPowerOnOp (d : Dev) : Dev := Dev.takeReset { d with sup := { d.sup with supplyEn := false } } 0x01 0

/-- VDD_CORE or VDD_SRAM falls below 90 %, outside STANDBY and once the stretch has begun. -/
def supplyDropOp (d : Dev) : Dev := if d.bsh.st = .standby || d.rst.waitSupply then d else d.takeReset 0x03 1

/-- RESET_N is low: a pulse below 2 µs is ignored, one of 2.5 µs or more is taken, one between may be either; from STANDBY the cause is
STANDBY_WAKE (09 R247). -/
def resetPinOp (lowNs : Nat) (d : Dev) : Dev :=
  let (v, d) := if 2000 ≤ lowNs ∧ lowNs < 2500 then d.fresh else (if 2500 ≤ lowNs then 1 else 0, d)
  if v % 2 = 1 then d.takeReset (if d.bsh.st = .standby then 0x05 else 0x04) 1 else d

/-- The watchdog of a control core expires (16 R448); it pauses while a debugger halts the core, and runs only once Bursol does. -/
def watchdogOp (coreIdx : Nat) (d : Dev) : Dev := if d.rst.halted.contains coreIdx || !d.alive then d else d.takeReset 0x06 3

/-- The two cores of a pair disagree at a compare. -/
def lockstepOp (d : Dev) : Dev := d.takeReset 0x07 3

/-- RST.SAFE_RESET_MS has passed in SAFE (16 R447); 0 holds SAFE. -/
def safeResetOp (d : Dev) : Dev := if d.flt.safe && d.rst.safeResetMs != 0 then d.takeReset 0x0B 2 else d

/-- Every thermal sensor has read below 105 °C for 100 ms: a THERMAL reset is no longer held. -/
def thermalReleaseOp (d : Dev) : Dev := { d with rst := { d.rst with thermalHold := false } }

/-- PGOOD has been asserted for 1 ms: the stretch starts (18 R487). -/
def pgoodOp (d : Dev) : Dev :=
  if d.sup.supplyEn && !d.sup.started then
    { d with sup := { d.sup with pgood := true, started := true }, rst := { d.rst with waitSupply := false } }
  else { d with sup := { d.sup with pgood := true } }

/-- No PGOOD within 500 ms of SUPPLY_EN: SUPPLY_EN goes low for 100 ms and the power-up starts again. -/
def pgoodTimeoutOp (d : Dev) : Dev :=
  if d.sup.supplyEn && !d.sup.started then (d.send (.supplyEn false)).send (.supplyEn true) else d

/-! ### Commands -/

/-- Command COLD_POWER_ON. -/
def execColdPowerOn (s : State) : Host.Outcome State Fault Refusal := onDev (Instr.wellFormed .coldPowerOn) coldPowerOnOp s

/-- Command BROWNOUT. -/
def execBrownout (s : State) : Host.Outcome State Fault Refusal := onDev (Instr.wellFormed .brownout) (fun d => d.takeReset 0x02 0) s

/-- Command SUPPLY_DROP. -/
def execSupplyDrop (s : State) : Host.Outcome State Fault Refusal := onDev (Instr.wellFormed .supplyDrop) supplyDropOp s

/-- Command RESET_PIN. -/
def execResetPin (lowNs : Nat) (s : State) : Host.Outcome State Fault Refusal := onDev (Instr.wellFormed (.resetPin lowNs)) (resetPinOp lowNs) s

/-- Command WATCHDOG. -/
def execWatchdog (coreIdx : Nat) (s : State) : Host.Outcome State Fault Refusal :=
  onDev (Instr.wellFormed (.watchdog coreIdx)) (watchdogOp coreIdx) s

/-- Command LOCKSTEP. -/
def execLockstep (pair : Nat) (s : State) : Host.Outcome State Fault Refusal := onDev (Instr.wellFormed (.lockstep pair)) lockstepOp s

/-- Command SAFE_RESET_EXPIRE. -/
def execSafeResetExpire (s : State) : Host.Outcome State Fault Refusal := onDev (Instr.wellFormed .safeResetExpire) safeResetOp s

/-- Command RESET_STRETCH_END. -/
def execResetStretchEnd (s : State) : Host.Outcome State Fault Refusal := onDev (Instr.wellFormed .resetStretchEnd) stretchEndOp s

/-- Command THERMAL_RESET_RELEASE. -/
def execThermalResetRelease (s : State) : Host.Outcome State Fault Refusal :=
  onDev (Instr.wellFormed .thermalResetRelease) thermalReleaseOp s

/-- Command OPTION_LOAD. -/
def execOptionLoad (s : State) : Host.Outcome State Fault Refusal := onDev (Instr.wellFormed .optionLoad) optionLoadOp s

/-- Command PGOOD_ASSERT. -/
def execPgoodAssert (s : State) : Host.Outcome State Fault Refusal := onDev (Instr.wellFormed .pgoodAssert) pgoodOp s

/-- Command PGOOD_TIMEOUT. -/
def execPgoodTimeout (s : State) : Host.Outcome State Fault Refusal := onDev (Instr.wellFormed .pgoodTimeout) pgoodTimeoutOp s

end Sys2Proof.Machine
end

