-- ==== Sys2Proof/Machine/Faults.lean ====
section
/-!
DEFINITION. The fault logic (16 R440 to R448), units leaving and entering service, block resets (16 R432 to R434), clock-good, SAFE, and the tally
channels (16 R449 to R453).
-/

namespace Sys2Proof.Machine

/-! ### Records (16 Table 16.12) -/

/-- The severity of a unit's faults (16 Table 16.11): 1 LOW, 2 HIGH, 3 CRITICAL. -/
def faultSeverity (unit : Nat) : Nat :=
  if unit = 0x0B ∨ 0x30 ≤ unit then 3 else if unit ≤ 8 ∨ unit = 0x0C ∨ (0x20 ≤ unit ∧ unit ≤ 0x27) then 2 else 1

/-- The codes that Table 16.11 lets be reported and queued. -/
def reportable (unit : Nat) : Bool := decide (unit ≤ 0x28 ∨ (0x30 ≤ unit ∧ unit ≤ 0x33) ∨ (0x38 ≤ unit ∧ unit ≤ 0x3E))

/-- SUB tells units apart only for front-ends, haptic drivers and tally channels. -/
def subOf (unit sub : Nat) : Nat := if unit = 0x0D then sub % 4 else if unit = 0x0E then sub % 8 else if unit = 0x28 then sub % 16 else 0

/-- The 128 bits of a record. -/
def FaultRec.word (f : FaultRec) : Nat :=
  (datumTime f.time <<< 64) + (f.unit <<< 56) + (f.sub <<< 48) + (f.code <<< 40) + (f.severity <<< 38) + (f.verdict <<< 36) + (f.epoch <<< 32)
    + (min 65535 f.merged <<< 16) + f.seq % 2 ^ 16

/-- Its 16 bytes. -/
def FaultRec.bytes (f : FaultRec) : Bytes := leBytes 16 f.word

/-- An event of the faults group on every partner session (16 R454). -/
def Dev.faultEvent (d : Dev) (k object : Nat) (data : Bytes) (on : Bool := false) : Dev :=
  d.raise toPartners { code := 0xEE00 + k, object, data, on }

/-- A handled record moves to FLT.LOG and to the audit log (16 R445). -/
def Dev.logFault (d : Dev) (f : FaultRec) : Dev :=
  Dev.audit { d with flt := { d.flt with log := (f :: d.flt.log).take 64 } } 0x000E f.bytes

/-! ### Units leave service (16 Table 16.11, R434 step 1) -/

/-- The frames in every pipe are discarded and the pipes' sources reach LOST. -/
def Dev.ipuOut (d : Dev) : Dev :=
  d.each [0, 1, 2, 3] fun d c =>
    let d := d.modPipe c fun p => { p with sets := [], stray := [], void := [], early := [] }
    match d.srcOn 4 c with
    | some n => d.enterLost n
    | none => d

/-- The recorder's private memory is lost: what waits is given up, and each output's next record starts a new segment from its newest
checkpoint (08 R217; notes/assumptions/26.md). -/
def Dev.witOut (d : Dev) : Dev := d.each outputNumbers fun d o => d.modWit o fun w => { w with started := false, pend := [], recs := [], ckptPending := none }

/-- The link of an output goes off, which is recorded as off under 07 R191 rule 4. -/
def Dev.dpoOut (d : Dev) (o : Nat) : Dev :=
  if d.flagF .lnkDpCfg o 63 then ((d.dpDown o).modOut o fun x => { x with offNext := true }).audit 0x000A (u8 o ++ u8 1) else d.dpDown o

/-- A unit is taken out of service as on a lasting fault. -/
def Dev.outOfService (d : Dev) (unit sub : Nat) : Dev :=
  if unit < 4 then d.failover unit 0
  else if unit = 4 then d.spareLost
  else if unit < 9 then d.engineOut (unit - 5)
  else if unit < 0x0B then d.placeStreams
  else if unit = 0x0B then d.witOut
  else if unit = 0x0C then d.ipuOut
  else if unit = 0x0D then (d.cancelTouches sub fun _ => true).modFe sub fun fe => { fe with starting := [] }
  else if unit = 0x0E then
    let d := (d.flushPlays sub 2).modHap sub fun h => { h with stopped := true }
    d.raise (toOwnerMed (d.hapOwner sub)) { code := 0xEA07, object := sub, tenancy := d.hapOwner sub, data := u16 (d.hap sub).peak }
  else if unit = 0x0F then d
  else if unit < 0x18 then ethLinkDownOp (unit - 0x10) d
  else if unit < 0x1A then d.withPorts fun d => d.mdkEnter (unit - 0x18) .down
  else if unit < 0x1C then pcieResetOp (unit - 0x1A) .linkDown d
  else if unit < 0x20 then
    match d.srcOn 3 (unit - 0x1C) with
    | some n => d.enterLost n
    | none => d
  else if unit < 0x28 then d.dpoOut (unit - 0x20)
  else d

/-- A block as a whole leaves service: all front-ends, all drivers. -/
def Dev.blockOut (d : Dev) (b : Nat) : Dev :=
  if b = 13 then d.each [0, 1, 2, 3, 4] fun d t => d.outOfService 0x0D t
  else if b = 14 then d.each [0, 1, 2, 3, 4, 5, 6, 7] fun d v => d.flushPlays v 1
  else d.outOfService b 0

/-- A unit is back in service: pinned sources return (05 R135), streams are placed again, PLS is available, links start training. -/
def Dev.backInService (d : Dev) (b : Nat) : Dev :=
  if b = 4 then (d.raise toPartners { code := 0xE309, object := 4, data := u8 d.spareOk.toNat }).spareFree
  else if b < 4 then d
  else if b < 9 then d.engineBack (b - 5)
  else if b < 0x0B then d.placeStreams
  else if b = 0x18 ∨ b = 0x19 then
    let c := d.get .mdkCfg (b - 0x18)
    if bit c 31 && d.inService b then d.withPorts fun d => d.mdkEnter (b - 0x18) (if bits c 21 20 = 0 then .startup else .test) else d
  else if 0x20 ≤ b ∧ b < 0x28 then d.dpTrain (b - 0x20)
  else d

/-! ### Block resets (16 R432 to R434) -/

/-- A block's private part of chart memory (13 Table 13.3), the parts lying in the table's order (notes/assumptions/14.md): base and size. -/
def chartPart (b : Nat) : Option (Nat × Nat) :=
  let mib := 2 ^ 20
  if b < 5 then some (chartBase + 3 * mib * b, 3 * mib)
  else if b < 11 then some (chartBase + 15 * mib + 3 * mib / 2 * (b - 5), 3 * mib / 2)
  else if b = 12 then some (chartBase + 24 * mib, 6 * mib)
  else if b = 11 then some (chartBase + 30 * mib, 2 * mib)
  else none

/-- The unit bit on which a block depends (00 Table 0.2), if any. -/
def blockUnit (b : Nat) : Option Nat :=
  if b < 5 then some (4 + b) else if b < 11 then some (4 + b) else if b = 12 then some 20 else if b = 13 then some 19
  else if b = 14 then some 18 else if b = 15 then some 17 else if b = 24 ∨ b = 25 then some (b - 9) else if 28 ≤ b ∧ b < 32 then some (b - 28) else none

/-- A block belongs to a present unit. -/
def Dev.blockPresent (d : Dev) (b : Nat) : Bool :=
  match blockUnit b with
  | some u => d.present u
  | none => true

/-- A block reset begins: in service, the block first leaves it; it is held in reset until BLOCK_RESET_DONE. `cmd` is true where a command asked for it,
false where the fault logic did. -/
def Dev.blockReset (d : Dev) (b : Nat) (cmd : Bool) : Dev :=
  let d := d.when (cmd && d.inService b) fun d => d.blockOut b
  { d with rst := { d.rst with blkSrst := setBit d.rst.blkSrst b false, blkRun := (b, cmd) :: d.rst.blkRun.filter (·.1 != b) } }

/-- A block reset completes: its private chart memory is zero; a plate may recover (07 R196); a commanded reset returns the block to service. -/
def blockResetDoneOp (b : Nat) (d : Dev) : Dev :=
  match d.rst.blkRun.find? (·.1 == b) with
  | none => d
  | some (_, cmd) =>
    let d := { d with rst := { d.rst with blkRun := d.rst.blkRun.filter (·.1 != b) } }
    let d := match chartPart b with
      | some (a, n) => d.zeroFill a n
      | none => d
    let d := d.when (decide (b < 4)) fun d => d.modPlate b fun p => { p with resetDone := p.failover }
    d.when cmd fun d => d.backInService b

/-- The release of a block is deferred because its PLL has not locked (16 R433). -/
def Dev.deferRelease (d : Dev) (b : Nat) : Dev :=
  let d : Dev := { d with rst := { d.rst with blkDefer := setBit d.rst.blkDefer b true, deferRaised := setBit d.rst.deferRaised b true } }
  d.faultEvent 6 b (u64 d.rst.blkDefer)

/-- The command pair writes RST.BLK_SRST: a bit set takes the block out of service and holds it, a bit cleared releases it at its clock-good; a
bit of an absent unit stays 1. -/
def blkSrstOp (value : Nat) (d : Dev) : Dev :=
  d.each (List.range 40) fun d b =>
    let was := bit d.rst.blkSrst b
    let now := bit value b || !d.blockPresent b
    if was == now then d
    else if now then
      let d := d.when (d.inService b) fun d => d.blockOut b
      { d with rst := { d.rst with blkSrst := setBit d.rst.blkSrst b true, deferRaised := setBit d.rst.deferRaised b false } }
    else
      let d : Dev := { d with rst := { d.rst with blkSrst := setBit d.rst.blkSrst b false } }
      let d := d.when (decide (b < 4)) fun d => d.modPlate b fun p => { p with resetDone := p.failover }
      if bit d.rst.pllGood (pllOf b) then d.backInService b else d.deferRelease b

/-- A PLL reports clock-good: blocks whose release it deferred leave reset. -/
def pllLockOp (pll : Nat) (d : Dev) : Dev :=
  let d : Dev := { d with rst := { d.rst with pllGood := setBit d.rst.pllGood pll true } }
  d.each ((List.range 40).filter fun b => bit d.rst.deferRaised b && pllOf b == pll) fun d b =>
    Dev.backInService { d with rst := { d.rst with deferRaised := setBit d.rst.deferRaised b false } } b

/-! ### Reporting and handling (16 R442, R443) -/

/-- SAFE is entered (16 R447, 17 R476). -/
def Dev.enterSafe (d : Dev) : Dev :=
  if d.flt.safe then d
  else Dev.faultEvent { d with flt := { d.flt with safe := true, handling := false } } 4 0 (u8 d.flt.queue.length)

/-- A unit is quarantined: its work moves, and the fault logic resets its block where it has one of its own. -/
def Dev.quarantine (d : Dev) (unit sub : Nat) : Dev :=
  if d.quarantined unit sub then d
  else
    let d : Dev := { d with flt := { d.flt with quar := (unit, sub) :: d.flt.quar } }
    let d := d.faultEvent 2 unit (u8 sub) true
    let d := d.outOfService unit sub
    if unit = 0x0D ∨ unit = 0x0E then d else d.blockReset unit false

/-- The response to a lasting fault at its severity (16 Table 16.10). A CRITICAL one takes a SYS reset, the handled records first written to
retained SRAM; an unreserved tally channel is disabled. -/
def Dev.respondLasting (d : Dev) (f : FaultRec) : Dev :=
  let d := d.logFault f
  if f.severity = 3 then Dev.takeReset { d with flt := { d.flt with retained := d.flt.log } } 0x0A 2
  else if f.unit = 0x28 then d.put .talCfg f.sub (setBit (d.get .talCfg f.sub) 63 false)
  else d.quarantine f.unit f.sub

/-- Handling passes to the next record: the most severe, and of those the oldest. -/
def Dev.nextFault (d : Dev) : Dev :=
  match argMax (fun (f : FaultRec) => f.severity) d.flt.queue with
  | none => { d with flt := { d.flt with handling := false } }
  | some f =>
    { d with flt := { d.flt with handling := true, queue := f :: d.flt.queue.filter (·.seq != f.seq) } }

/-- The verdict on the record being handled: 1 transient, 2 lasting. -/
def Dev.verdictOn (d : Dev) (f : FaultRec) (v : Nat) : Dev :=
  let f := { f with verdict := v }
  let d : Dev := { d with flt := { d.flt with queue := d.flt.queue.drop 1, handling := false } }
  let d := d.faultEvent 1 f.unit f.bytes
  let d := if v = 2 then d.respondLasting f else d.logFault f
  if d.flt.safe || d.rst.stage != .idle then d else d.nextFault

/-- A fault is counted and not queued. -/
def Dev.countFault (d : Dev) (unit : Nat) : Dev :=
  { d with flt := { d.flt with counted := smSet 0 d.flt.counted unit (smGet 0 d.flt.counted unit + 1) } }

/-- The unit that a tally channel's fault concerns (16 R441): the plate that drives the output it is reserved for. -/
def Dev.faultUnit (d : Dev) (unit sub : Nat) : Nat :=
  if unit = 0x28 ∧ d.flagF .pltOutCfg (sub % 8) 31 = true then d.driver (sub % 8) else unit

/-- A unit reports a fault (16 R441, R443): merged with the one being handled, escalated, or queued; in SAFE, or where the severity were NOTE, only
counted. -/
def Dev.reportFault (d : Dev) (unit sub code : Nat) : Dev :=
  let unit := d.faultUnit unit sub
  let sub := subOf unit sub
  let d := d.when (decide (unit < 4) && (d.plate unit).failover) fun d => d.modPlate unit fun p => { p with run := 0 }
  if !reportable unit then d
  else if d.flt.safe then d.countFault unit
  else
    let h := if d.flt.handling then d.flt.queue.head? else none
    if h.any fun h => h.unit == unit && h.sub == sub then
      match h with
      | some h => d.verdictOn { h with merged := min 65535 (h.merged + 1) } 2
      | none => d
    else
      let f : FaultRec := { time := d.now, unit, sub, code, severity := faultSeverity unit, verdict := 0, epoch := d.epoch, seq := d.flt.seq }
      let d : Dev := { d with flt := { d.flt with seq := (d.flt.seq + 1) % 2 ^ 16 } }
      let d := d.faultEvent 0 unit f.bytes
      match h.filter fun h => decide (h.severity ≤ f.severity) with
      | some h =>
        let f := { f with severity := min 3 (h.severity + 1), verdict := 3 }
        (d.faultEvent 3 unit f.bytes).respondLasting f
      | none =>
        if 16 ≤ d.flt.queue.length then d.enterSafe
        else
          let d : Dev := { d with flt := { d.flt with queue := d.flt.queue ++ [f] } }
          if d.flt.handling then d else d.nextFault

/-- The retry of the record being handled completes (16 R442); a DRAM channel's fault was lasting when it was reported (13 R343, R344). -/
def faultRetryOp (ok : Bool) (d : Dev) : Dev :=
  match d.flt.queue with
  | f :: _ =>
    if d.flt.handling && !d.flt.safe then
      let ok := ok && !(decide (0x30 ≤ f.unit ∧ f.unit ≤ 0x33) && (smGet {} d.mem.chans (f.unit - 0x30)).faulted)
      let d := d.when (ok && f.unit == 0x0E) fun d => (d.modHap f.sub fun h => { h with stopped := false }).startPlay f.sub
      d.verdictOn f (if ok then 1 else 2)
    else d
  | [] => d

/-- An error in critical state is not queued (16 R444): its record goes to retained SRAM, and a SYS reset is taken at once. -/
def criticalStateOp (sub code : Nat) (d : Dev) : Dev :=
  let f : FaultRec := { time := d.now, unit := 0x3F, sub, code, severity := 3, verdict := 2, epoch := d.epoch, seq := d.flt.seq }
  let d := d.logFault f
  Dev.takeReset { d with flt := { d.flt with retained := d.flt.log } } 0x09 2

/-- No clock-good 1 ms after a release that waits for it: the PLL is reported as faulty (16 R433). -/
def clockTimeoutOp (pll : Nat) (d : Dev) : Dev :=
  if !bit d.rst.pllGood pll && (List.range 40).any (fun b => bit d.rst.deferRaised b && pllOf b == pll) then d.reportFault (0x38 + pll) 0 5 else d

/-- A peak above 1.0 A stops a driver and flushes its queue (12 R326); the fault is then retried. -/
def overcurrentOp (v peak : Nat) (d : Dev) : Dev :=
  let d := (d.flushPlays v 2).modHap v fun h => { h with stopped := true, peak }
  (d.count2 .hapStat v 1).reportFault 0x0E v 4

/-! ### FLT.QUAR, FAULT_READ, FAULT_CLEAR, RESET (16 R445, R446) -/

/-- FLT.QUAR (16 Table 16.13): a driver and a front-end set only their own bits. -/
def Dev.fltQuar (d : Dev) : Nat :=
  (d.flt.quar.map fun q => 2 ^ (if q.1 = 0x0E then 48 + q.2 else if q.1 = 0x0D then 44 + q.2 else q.1)).sum

/-- FAULT_READ. -/
def faultReadOp (c : Ctx) (d : Dev) : Answer :=
  checked [(!c.partner, stNotPermitted)] d fun d =>
  (some (rRead (u8 d.flt.queue.length ++ u8 d.flt.log.length ++ zeros 2 ++ d.flt.queue.flatMap (·.bytes) ++ d.flt.log.flatMap (·.bytes))), d)

/-- FAULT_CLEAR. -/
def faultClearOp (c : Ctx) (w : Nat) (d : Dev) : Answer :=
  let unit := w % 256
  let sub := w / 256 % 256
  checked [(!c.ses.mediator || decide (unit < 4), stNotPermitted), (!d.quarantined unit sub, stBadParam),
    (d.rst.blkRun.any (·.1 == unit), stBusyRetry)] d fun d =>
  let d : Dev := { d with flt := { d.flt with quar := d.flt.quar.filter (· != (unit, sub)) } }
  let d := d.when (unit == 0x0E) fun d => d.modHap sub fun h => { h with stopped := false }
  (some rOk, (d.faultEvent 2 unit (u8 sub) false).backInService unit)

/-- RESET (10 Table 10.9) replies at phase 1: LEVEL 0 resets a block at once; a deeper one is taken once the reply is recorded (`resetAfter`). -/
def resetOp (c : Ctx) (level block : Nat) (d : Dev) : Answer :=
  checked [(decide (level = 0 ∧ block < 40) && !d.blockPresent block, stUnitAbsent), (!c.ses.mediator, stNotPermitted),
    (decide (3 < level ∨ (level = 0 ∧ 40 ≤ block)), stBadParam)] d fun d =>
  (some { st := stOk, ph := 1 }, if level = 0 then d.blockReset block true else d)

/-- The reset that a RESET command of LEVEL 1 (CORE), 2 (SYS) or 3 (POR) takes. -/
def Dev.resetAfter (d : Dev) (level : Nat) : Dev := if level = 0 ∨ 3 < level then d else d.takeReset 0x0D (4 - level)

/-! ### Tally channels (16 R449 to R453) -/

/-- A channel is reserved: its output is enabled (02 R53). -/
def Dev.talReserved (d : Dev) (ch : Nat) : Bool := d.flagF .pltOutCfg (ch % 8) 31

/-- The bytes of a message that a stream channel takes: those whose 4 bytes at OFF, masked, equal VALUE. -/
def talMatches (m : Nat) (msg : Bytes) : Bool :=
  let four := (msg.drop (bits m 79 64)).take 4
  four.length == 4 && (leVal four &&& bits m 63 32) == bits m 31 0

/-- A channel closes a message: its check value, its count, its alive counter. -/
def tallyOp (ch : Nat) (msg : Bytes) (d : Dev) : Dev :=
  let cfg := d.get .talCfg ch
  if !bit cfg 63 || d.talReserved ch || (bits cfg 60 59 == 2 && !talMatches (d.get .talMatch ch) msg) then d
  else
    let d := (d.put .talValue ch (tallyCrc (bits cfg 62 61) msg)).count .talCount ch
    if !bit cfg 51 then d
    else
      let two := (msg.drop (bits cfg 50 40)).take 2
      let t := d.tal ch
      if two.length < 2 then d.setTal ch { t with short := t.short + 1 }
      else
        let a := leVal two
        let d := d.setTal ch { t with alive := some a, lastAlive := a }
        match t.alive with
        | none => d
        | some p =>
          let diff := (a + 65536 - p) % 65536
          let ev := fun (k : Nat) (d : Dev) =>
            d.raise toMediators { code := 0xEE00 + k, object := ch, data := u16 p ++ u16 a ++ u32 (d.get .talCount ch) }
          if diff = 1 then d
          else if diff = 0 then (d.modTal ch fun t => { t with rep := true }).when (!t.rep) (ev 11)
          else (d.modTal ch fun t => { t with gap := true }).when (!t.gap) (ev 12)

/-- TAL.STATUS of a channel (16 R453); for a reserved one, ALIVE is the low 16 bits of PLT.OUT_FRAME. -/
def Dev.talStatus (d : Dev) (ch : Nat) : Nat :=
  if d.talReserved ch then ((d.out (ch % 8)).frame % 65536) <<< 16
  else let t := d.tal ch; (t.lastAlive <<< 16) + (t.gap.toNat <<< 1) + t.rep.toNat

/-- TAL.CFG as it reads (16 R450): a reserved channel with POLY 0, SOURCE 0b11 and its output. -/
def Dev.talCfgRead (d : Dev) (ch : Nat) : Nat :=
  if d.talReserved ch then (1 <<< 63) + (3 <<< 59) + ((ch % 8) <<< 54) + (2 <<< 52) else d.get .talCfg ch

/-- DIAG_TALLY_READ. -/
def diagTallyOp (c : Ctx) (ch : Nat) (d : Dev) : Answer :=
  checked [(!c.partner, stNotPermitted), (decide (16 ≤ ch), stBadParam)] d fun d =>
  let st := d.talStatus ch
  (some (rRead (u64 (d.get .talValue ch) ++ u16 (bits st 31 16) ++ u16 (bits st 1 0))), d)

/-! ### Commands -/

/-- Command PLL_LOCK. -/
def execPllLock (pll : Nat) (s : State) : Host.Outcome State Fault Refusal := onDev (Instr.wellFormed (.pllLock pll)) (pllLockOp pll) s

/-- Command TALLY_MESSAGE. -/
def execTallyMessage (channel : Nat) (msg : Bytes) (s : State) : Host.Outcome State Fault Refusal :=
  onDev (Instr.wellFormed (.tallyMessage channel msg)) (tallyOp channel msg) s

end Sys2Proof.Machine
end

