-- ==== Sys2Proof/Machine/Bushel.lean ====
section
/-!
DEFINITION. The Bushel scheduler (09 R226 to R242), the thermal sensors, and the device states (09 R243 to R247) with the core voltage
(18 R485, R486).
-/

namespace Sys2Proof.Machine

/-! ### Budgets -/

/-- B_host in mW, of BSH.CFG as the frame in progress took it (09 R227). -/
def Bushel.host (b : Bushel) : Nat := bits b.cfg 63 48

/-- TARGET_C and HIGH_C in °C. -/
def Bushel.target (b : Bushel) : Nat := bits b.cfg 47 40
/-- HIGH_C. -/
def Bushel.high (b : Bushel) : Nat := bits b.cfg 39 32

/-- The budget in grains of a frame of a length in ns at a power in mW: 1 mW for 1 s is 1 grain (09 R226: 45 W over a 60 Hz frame are 750). -/
def budget (mw ns : Nat) : Rat := ((mw * ns : Nat) : Rat) / 1000000000

/-- THERM_LIMIT: B_therm is below B_host. -/
def Bushel.limited (b : Bushel) : Bool := decide (b.bTherm < b.host)

/-- An energy in units of 0.1 grain, saturating at a width. -/
def tenths (w : Nat) (e : Rat) : Nat := min (2 ^ w - 1) (e * 10).floor.toNat

/-- An event of the scheduler, on every partner session (09 R251). -/
def Dev.bshEvent (d : Dev) (k object : Nat) (data : Bytes) (on : Bool := false) : Dev :=
  d.raise toPartners { code := 0xE900 + k, object, data, on }

/-- A scheduler counter (09 R250). -/
def Dev.bshCount (d : Dev) (k : Nat) (n : Nat := 1) : Dev := d.count .bshStat k n

/-- A change of the scheduler that raises THERMAL_LIMIT where THERM_LIMIT changes. -/
def Dev.withLimit (d : Dev) (f : Bushel → Bushel) : Dev :=
  let was := d.bsh.limited
  let d : Dev := { d with bsh := f d.bsh }
  if d.bsh.limited == was then d else d.bshEvent 4 0 (u32 d.bsh.bTherm)

/-- B_therm held within 10,000 mW and B_host (09 R231). -/
def clampTherm (host x : Nat) : Nat := max 10000 (min host x)

/-! ### Suspension (09 R240) -/

/-- A source is suspended: the picture in progress finishes, queued and later pictures are discarded undecoded. -/
def Dev.suspendSrc (d : Dev) (n : Nat) : Dev :=
  let d : Dev := { d with bsh := { d.bsh with suspended := n :: d.bsh.suspended } }
  let d := (d.modDec n fun x => { x with suspended := true, queue := [] }).bshCount 6
  d.raise (fun s => toPartners s || toOwnerMed (d.srcOwner n) s)
    { code := 0xE901, object := n, gen := d.srcGen n, tenancy := d.srcOwner n, data := u8 d.bsh.level }

/-- A source resumes, its taint state set as after a reassignment. -/
def Dev.resumeSrc (d : Dev) (n : Nat) : Dev :=
  let d : Dev := { d with bsh := { d.bsh with suspended := d.bsh.suspended.filter (· != n) } }
  let d := (d.modDec n fun x => { x with suspended := false }).taintReset n
  d.raise (fun s => toPartners s || toOwnerMed (d.srcOwner n) s)
    { code := 0xE902, object := n, gen := d.srcGen n, tenancy := d.srcOwner n, data := u8 d.bsh.level }

/-- A suspended source that forwards slices resumes at once (09 R252). -/
def Dev.resumeForwarding (d : Dev) : Dev :=
  d.each d.bsh.suspended fun d n => if (d.routesOf n).isEmpty then d else d.resumeSrc n

/-- The source to suspend next: the lowest PRIO, then the largest forecast, then the highest index. -/
def Dev.nextVictim (d : Dev) (l : List (Nat × Nat)) : Option (Nat × Nat) :=
  let prio := fun (x : Nat × Nat) => d.fld .bshSrcPrio x.1 1 0
  let lowest := (l.map prio).min?.getD 0
  let at_ := l.filter fun x => prio x == lowest
  let most := (at_.map (·.2)).max?.getD 0
  argMax (fun (x : Nat × Nat) => x.1) (at_.filter fun x => x.2 == most)

/-- As many sources as LEVEL asks for are suspended, and no more; `fuel` bounds the sources that change. -/
def Dev.matchLevel : Nat → List (Nat × Nat) → Dev → Dev
  | 0, _, d => d
  | fuel + 1, l, d =>
    let want := d.bsh.level - 12
    if d.bsh.suspended.length < want then
      match d.nextVictim (l.filter fun x => !d.bsh.suspended.contains x.1) with
      | some x => Dev.matchLevel fuel l (d.suspendSrc x.1)
      | none => d
    else if want < d.bsh.suspended.length then
      match d.bsh.suspended with
      | n :: _ => Dev.matchLevel fuel l (d.resumeSrc n)
      | [] => d
    else d

/-! ### The accounting frame (09 R226, R238, R239) -/

/-- The frame that ends: its budget by its actual length, the debt it leaves, C_OVER, the account and the counters. -/
def Dev.endAccount (d : Dev) (endedNs : Nat) : Dev :=
  if !d.bsh.running then d
  else
    let x := d.bsh
    let b := budget (min x.host x.bThermFrame) endedNs
    let e := x.base + x.c + x.l + x.a
    let debt := min (b / 4) (max 0 (e - b))
    let isOver := decide (b < x.base + x.c)
    let d := (((d.bshCount 0).bshCount 1 (decide (0 < x.level)).toNat).bshCount 2 isOver.toNat).bshCount 3 x.limited.toNat
    let d := d.put .bshAccount 0 ((tenths 16 x.base <<< 48) + (tenths 16 x.c <<< 32) + (tenths 16 x.l <<< 16) + tenths 16 x.a)
    let d := d.put .bshDebt 0 (tenths 16 debt)
    let d : Dev := { d with bsh := { d.bsh with debt, cOver := isOver } }
    if isOver == x.cOver then d else d.bshEvent 3 0 (u32 (tenths 32 (x.base + x.c))) isOver

/-- need(v) of the forecast, in grains. -/
def needAt (f : Forecast) (v : Nat) : Rat := ((f.need.getD v 0 : Nat) : Rat) / 1000

/-- LEVEL and the fitting frames after the allowance of a frame is known (09 R238). -/
def nextLevel (f : Forecast) (top level fits : Nat) (allow : Rat) : Nat × Nat :=
  let lo := ((List.range (top + 1)).find? fun v => decide (needAt f v ≤ allow)).getD top
  if level < lo then (lo, 0)
  else if 0 < level ∧ needAt f (level - 1) ≤ allow * 9 / 10 then (if fits + 1 = 8 then (level - 1, 0) else (level, fits + 1))
  else (level, 0)

/-- ACCOUNTING_FRAME_START: the old frame is settled; BSH.CFG as written comes into force; the allowance and LEVEL are set. -/
def accountingOp (f : Forecast) (d : Dev) : Dev :=
  let d := d.endAccount f.endedNs
  let cfg := d.get .bshCfg
  let d := d.withLimit fun b => { b with cfg, bTherm := clampTherm (bits cfg 63 48) b.bTherm }
  let d := d.resumeForwarding
  let x := d.bsh
  let b := budget (min x.host x.bTherm) f.frameNs
  let cRes := max (b / 20) (((f.c : Nat) : Rat) / 1000)
  let allow := b - ((f.base : Nat) : Rat) / 1000 - cRes - x.debt
  let cand := f.sources.filter fun s => (d.routesOf s.1).isEmpty
  let (level, fits) := nextLevel f (12 + cand.length) x.level x.fits allow
  let d : Dev := { d with bsh := { x with
    running := true, bThermFrame := x.bTherm, bFrame := b, allow, level, fits, base := 0, c := 0, l := 0, a := 0 } }
  let d := if level = x.level then d
    else d.bshEvent 0 0 (u8 x.level ++ u8 level ++ zeros 2 ++ u32 (ofSigned 32 (allow * 10).floor))
  Dev.matchLevel 192 cand d

/-- One activity's energy in grains (09 R228): counters 0 to 10 at their cost, and energy that no counter measures (leakage, PHYs, DRAM background)
given as k = 11 in units of 2⁻¹⁶ grain. -/
def Dev.energyOf (d : Dev) (a : Activity) : Rat := ((a.count * (if a.k < 11 then d.get .bshCost a.k else 1) : Nat) : Rat) / 65536

/-- ENERGY_TICK: each increment is charged to base energy or to the class of its job. -/
def energyTickOp (acts : List Activity) (d : Dev) : Dev :=
  d.each acts fun d a =>
    let e := d.energyOf a
    let b := d.bsh
    { d with bsh := match a.cls with
      | 1 => { b with c := b.c + e }
      | 2 => { b with l := b.l + e }
      | 3 => { b with a := b.a + e }
      | _ => { b with base := b.base + e } }

/-- JOB_LATEST_START (09 R239), of class `cls` (0: a job of source `src`, whose class is that of R234): a C job always runs; an L job runs while the L and A energy spent is below the allowance, or while debt is below
b / 4, and else misses its deadline; an A job runs only if its forecast still fits. -/
def latestStartOp (src cost cls : Nat) (d : Dev) : Dev :=
  let b := d.bsh
  let cls := if cls = 0 then d.srcClass src else cls
  if cls = 1 then d
  else if cls = 2 then if b.l + b.a < b.allow ∨ b.debt < b.bFrame / 4 then d else d.bshCount 4
  else if b.l + b.a + ((cost : Nat) : Rat) / 1000 ≤ b.allow then d else d.bshCount 5

/-! ### Islands and PLLs (09 R241) -/

/-- An engine island is woken: one power-gate cycle is over. -/
def islandWakeOp (island : Nat) (d : Dev) : Dev :=
  if d.inNight then d
  else
    let d : Dev := { d with bsh := { d.bsh with islandsOn := if d.bsh.islandsOn.contains island then d.bsh.islandsOn else island :: d.bsh.islandsOn } }
    (d.bshCount 7).send (.powerGate island true)

/-- A stopped PLL_PLT or PLL_COD is started again. -/
def pllRestartOp (pll : Nat) (d : Dev) : Dev := { d with bsh := { d.bsh with pllStopped := d.bsh.pllStopped.filter (· != pll) } }

/-! ### Thermal control (09 R230 to R232) -/

/-- THERMAL_SAMPLE: the readings, the sensors excluded, T_max, THERMAL_HIGH, and the trip at two readings of 115 °C in a row. -/
def thermalOp (t : Temps) (d : Dev) : Dev :=
  let idx := List.range 12
  let good := idx.filterMap fun k => (t.getD k none).map fun v => (k, v)
  let bad := idx.filter fun k => (t.getD k none).isNone
  let d := d.each good fun d e => d.put .bshTemp e.1 (ofSigned 16 e.2)
  let was := d.bsh.excluded
  let d : Dev := { d with bsh := { d.bsh with excluded := bad } }
  let d := d.each (idx.filter fun k => bad.contains k != was.contains k) fun d k => d.bshEvent 6 k [] (bad.contains k)
  let top := argMax (fun (e : Nat × Int) => (e.2 + 2 ^ 20).toNat) good
  let b := d.bsh
  let (tMax, at_) := match top with
    | some e => (e.2 + (if bad.isEmpty then 0 else 80), e.1)
    | none => (b.tMax, b.tMaxSensor)
  let trips := if top.isSome && decide (115 * 16 ≤ tMax) then b.tripRun + 1 else 0
  let d : Dev := { d with bsh := { b with tMax, tMaxSensor := at_, tripRun := trips } }
  let high : Int := (16 * b.high : Nat)
  let d :=
    if !b.highRaised && decide (high ≤ tMax) then
      Dev.bshEvent { d with bsh := { d.bsh with highRaised := true } } 5 at_ (u16 (ofSigned 16 tMax)) true
    else if b.highRaised && decide (tMax < high - 48) then
      Dev.bshEvent { d with bsh := { d.bsh with highRaised := false } } 5 at_ (u16 (ofSigned 16 tMax)) false
    else d
  if 2 ≤ trips ∧ !d.rst.thermalHold then
    let d := d.takeReset 0x0C 2
    { d with rst := { d.rst with thermalHold := true } }
  else d

/-- BTHERM_UPDATE (09 R231). -/
def bthermOp (d : Dev) : Dev :=
  d.withLimit fun b =>
    let x := if ((16 * b.target : Nat) : Int) < b.tMax then b.bTherm - 500
      else if b.tMax < ((16 * b.target : Nat) : Int) - 32 then b.bTherm + 100 else b.bTherm
    { b with bTherm := clampTherm b.host x }

/-! ### The core voltage (18 R485, R486) -/

/-- Bursol commands VDD_CORE, where CLK.VR_CFG as loaded has EN; `raising` marks the raise on a wake from NIGHT. -/
def Dev.setVcore (d : Dev) (mv : Nat) (raising : Bool) : Dev :=
  if bit d.sup.vr 31 then Dev.send { d with sup := { d.sup with target := some mv, raising, tries := 0 } } (.vout mv) else d

/-- The device's state has changed: POWER_STATE_CHANGED with the outputs that failed training, and the end of the command that asked for it. -/
def Dev.powerDone (d : Dev) (st : PowSt) (failed : Nat) : Dev :=
  let d : Dev := { d with bsh := { d.bsh with st, phase := 4 } }
  let d := d.bshEvent 7 0 (u8 st.code ++ u8 failed)
  match d.bsh.cmd with
  | some c => Dev.finish { d with bsh := { d.bsh with cmd := none } } c.port c.session c.seq stOk 4
  | none => d

/-- The phase of the transition's command. -/
def Dev.powerPhase (d : Dev) (ph : Nat) : Dev :=
  let d : Dev := { d with bsh := { d.bsh with phase := ph } }
  match d.bsh.cmd with
  | some c => d.phaseDone c.port c.session c.seq ph
  | none => d

/-! ### NIGHT and STANDBY (09 R245 to R247) -/

/-- NIGHT to ACTIVE starts: VDD_CORE is raised. -/
def Dev.startWake (d : Dev) (cmd : Option PowCmd) : Dev :=
  Dev.setVcore { d with bsh := { d.bsh with st := .waking, phase := 1, cmd, wakeQueued := false } } Config.vcoreFuse true

/-- A wake source (09 R246, R252): in NIGHT the exit starts, in STANDBY the device starts as from power-on, during an entry the exit follows it. -/
def Dev.wake (d : Dev) : Dev :=
  match d.bsh.st with
  | .night => d.startWake none
  | .enterNight | .enterStandby => { d with bsh := { d.bsh with wakeQueued := true } }
  | .standby => d.takeReset 0x05 1
  | .active | .waking => d

/-- The outputs that compose, as a mask. -/
def Dev.composingMask (d : Dev) : Nat := ((outputNumbers.filter d.composes).map (2 ^ ·)).sum

/-- A transition into NIGHT (or, with `standby`, STANDBY) starts; from NIGHT itself the engines are already off. -/
def Dev.startEntry (d : Dev) (standby : Bool) (cmd : Option PowCmd) : Dev :=
  let before := if d.bsh.st = .night then d.bsh.composedBefore else d.composingMask
  { d with bsh := { d.bsh with st := if standby then .enterStandby else .enterNight, phase := 1, cmd, composedBefore := before } }

/-- An output ends its last frame on the way into NIGHT: its OUTPUT_OFF record, no composition, no link. -/
def Dev.outputNight (d : Dev) (o : Nat) : Dev :=
  if !(d.out o).raster then d
  else ((d.recorderOff o).modOut o fun x => { x with raster := false, frameLocked := false }).dpDown o

/-- A recorder's chain is checkpointed (09 Table 9.9): the checkpoint is signed and written to audit MRAM. -/
def Dev.checkpointNow (d : Dev) (o : Nat) : Dev :=
  let w := d.wit o
  if !w.started then d
  else ckptWriteOp o (d.modWit o fun w => { w with ckptPending := some { segment := w.segment, rseq := w.rseq, chain := w.chain } })

/-- An enabled source enters LOST for the night; one that had not yet received anything as well. -/
def Dev.sourceNight (d : Dev) (n : Nat) : Dev :=
  if !d.srcEn n then d
  else if (d.src n).st = .seeking then d.modSrc n fun s => { s with st := .lost, lostAt := d.tim.elapsed } else d.enterLost n

/-- Phase 2: outputs off, checkpoints written, sources LOST, touches and plays ended. -/
def Dev.nightPhase2 (d : Dev) : Dev :=
  let d := d.each outputNumbers fun d o => d.outputNight o
  let d := d.consoleNight
  let d := d.each outputNumbers fun d o => d.checkpointNow o
  (d.each sourceNumbers fun d n => d.sourceNight n).powerPhase 2

/-- Phase 3: engines off, PLL_PLT and PLL_COD stopped. -/
def Dev.nightPhase3 (d : Dev) : Dev :=
  Dev.powerPhase { d with bsh := { d.bsh with islandsOn := [], pllStopped := [0, 1] } } 3

/-- STANDBY: SUPPLY_EN goes low, and only the AO domain, audit MRAM, fuses and flash keep anything. -/
def Dev.enterStandby (d : Dev) : Dev :=
  let queued := d.bsh.wakeQueued
  let d := (d.powerDone .standby 0).wipe 1
  let d : Dev := { d with bsh := { d.bsh with st := .standby }
                          sup := { d.sup with supplyEn := false, pgood := false, started := false }
                          rst := { d.rst with stage := .idle, bursol := false } }
  let d := d.send (.supplyEn false)
  d.when queued fun d => d.wake

/-- Phase 4: Ethernet ports that are not kept lose their link, VDD_CORE is lowered, the device is in NIGHT. -/
def Dev.nightPhase4 (d : Dev) : Dev :=
  let d := d.each (List.range 8) fun d p => if d.flag .bshNightCfg 0 (24 + p) then d else ethLinkDownOp p d
  ((d.setVcore 600 false).bshCount 8).powerDone .night 0

/-- What waited for a transition to complete: a wake source, then queued commands (09 R252). -/
def Dev.afterTransition (d : Dev) : Dev :=
  if d.bsh.st = .night ∧ d.bsh.wakeQueued then d.startWake none
  else match d.bsh.queued with
  | [] => d
  | (t, c) :: rest =>
    let d : Dev := { d with bsh := { d.bsh with queued := rest } }
    if t = d.bsh.st.code / 2 then (d.finish c.port c.session c.seq stOk 4)
    else if t = 0 then d.startWake (some c) else d.startEntry (t == 2) (some c)

/-- NIGHT_ENTRY_STEP: the next phase completes. -/
def nightEntryOp (d : Dev) : Dev :=
  let entering := d.bsh.st = .enterNight || d.bsh.st = .enterStandby
  if !entering then d
  else if d.bsh.phase = 1 then d.nightPhase2
  else if d.bsh.phase = 2 then d.nightPhase3
  else if d.bsh.st = .enterStandby then d.enterStandby
  else d.nightPhase4.afterTransition

/-- The outputs that composed before NIGHT start their rasters again (09 Table 9.9), and the device is ACTIVE. -/
def Dev.wakeDone (d : Dev) (failed : Nat) : Dev :=
  let d := d.each (outputNumbers.filter fun o => bit d.bsh.composedBefore o && d.flagF .pltOutCfg o 31) fun d o =>
    d.modOut o fun x => { x with raster := true, frameLocked := false }
  (d.placeStreams.powerDone .active (failed % 256)).afterTransition

/-- NIGHT_EXIT_STEP: phase 2 (PLLs, DRAM, lanes) once the voltage stands, phase 3 (engines, ingest, all commands), phase 4 or 500 ms. -/
def nightExitOp (failed : Nat) (d : Dev) : Dev :=
  if d.bsh.st != .waking then d
  else if d.bsh.phase = 1 then
    if d.sup.raising && d.sup.target.isSome then d else Dev.powerPhase { d with bsh := { d.bsh with pllStopped := [] } } 2
  else if d.bsh.phase = 2 then
    let d := d.powerPhase 3
    let d := d.each (sourceNumbers.filter d.srcEn) fun d n => d.taintReset n
    d.each (outputNumbers.filter fun o => bit d.bsh.composedBefore o) fun d o => d.dpTrain o
  else d.wakeDone failed

/-- VCORE_SETTLE (18 R486): the monitor reads a voltage, and the transaction succeeded or failed. A failed one is repeated up to three times; a
lowering that fails leaves the higher voltage, a raising that fails leaves the device in NIGHT. -/
def vcoreSettleOp (mv : Nat) (ok : Bool) (d : Dev) : Dev :=
  match d.sup.target with
  | none => d
  | some t =>
    let settled := ok && decide (97 * t ≤ 100 * mv ∧ 100 * mv ≤ 103 * t)
    if settled then { d with sup := { d.sup with vcore := t, target := none, raising := false } }
    else if !ok && decide (d.sup.tries < 3) then Dev.send { d with sup := { d.sup with tries := d.sup.tries + 1 } } (.vout t)
    else
      let raising := d.sup.raising
      let d : Dev := { d with sup := { d.sup with target := none, raising := false } }
      if raising && d.bsh.st == .waking then d.powerDone .night 0 else d

/-- WAKE_TIMER_EXPIRE (09 R246): BSH.WAKE_MS has passed since NIGHT or STANDBY was reached; 0 disables it, and STANDBY also needs TIMER_WAKE. -/
def wakeTimerOp (d : Dev) : Dev :=
  if d.get .bshWakeMs = 0 then d
  else if d.bsh.st = .night || (d.bsh.st = .standby && d.flag .bshNightCfg 0 19) then d.wake else d

/-- POWER_STATE (09 R244, R252; 17 R471; 15 R423). -/
def powerStateOp (c : Ctx) (target : Nat) (d : Dev) : Answer :=
  let anyTen := tenNumbers.any d.tenExists
  let wallUp := d.acting && d.chain.ready.any fun r => r.1 != d.chain.position && decide (r.1 < d.ndev) && !bit r.2.flags 3
  checked [(!c.ses.mediator || (target == 2 && anyTen) || d.sec.service.isSome || (target == 1 && wallUp), stNotPermitted),
    (decide (2 < target), stBadParam)] d fun d =>
  let cmd : PowCmd := { port := c.ses.port, session := c.ses.sid, seq := c.seq }
  let toward := match d.bsh.st with
    | .active | .waking => 0
    | .night | .enterNight => 1
    | .standby | .enterStandby => 2
  let moving := d.bsh.st != .active && d.bsh.st != .night && d.bsh.st != .standby
  if target = toward then (some { st := if moving then stAccepted else stOk, ph := d.bsh.phase.max (if moving then 1 else 4) }, d)
  else if moving then (some (rAccepted 1), { d with bsh := { d.bsh with queued := d.bsh.queued ++ [(target, cmd)] } })
  else if target = 0 then (some (rAccepted 1), d.startWake (some cmd))
  else (some (rAccepted 1), d.startEntry (target == 2) (some cmd))

/-- BSH.STATUS (09 Table 9.12). -/
def Dev.bshStatus (d : Dev) : Nat :=
  let b := d.bsh
  (b.st.code <<< 61) + (min 255 b.level <<< 53) + (min b.host b.bTherm <<< 37) + (ofSigned 10 (b.tMax / 4) <<< 27) + (b.tMaxSensor <<< 23)
    + (b.limited.toNat <<< 22) + (b.cOver.toNat <<< 21) + (b.suspended.length <<< 13)

/-! ### Commands -/

/-- Command ACCOUNTING_FRAME_START. -/
def execAccountingFrameStart (f : Forecast) (s : State) : Host.Outcome State Fault Refusal :=
  onDev (Instr.wellFormed (.accountingFrameStart f)) (accountingOp f) s

/-- Command ENERGY_TICK. -/
def execEnergyTick (acts : List Activity) (s : State) : Host.Outcome State Fault Refusal :=
  onDev (Instr.wellFormed (.energyTick acts)) (energyTickOp acts) s

/-- Command JOB_LATEST_START. -/
def execJobLatestStart (src cost cls : Nat) (s : State) : Host.Outcome State Fault Refusal :=
  onDev (Instr.wellFormed (.jobLatestStart src cost cls)) (latestStartOp src cost cls) s

/-- Command ISLAND_WAKE. -/
def execIslandWake (island : Nat) (s : State) : Host.Outcome State Fault Refusal :=
  onDev (Instr.wellFormed (.islandWake island)) (islandWakeOp island) s

/-- Command PLL_RESTART. -/
def execPllRestart (pll : Nat) (s : State) : Host.Outcome State Fault Refusal := onDev (Instr.wellFormed (.pllRestart pll)) (pllRestartOp pll) s

/-- Command BTHERM_UPDATE. -/
def execBthermUpdate (s : State) : Host.Outcome State Fault Refusal := onDev (Instr.wellFormed .bthermUpdate) bthermOp s

end Sys2Proof.Machine
end

