-- ==== Sys2Proof/Machine/Tenancy.lean ====
section
/-!
DEFINITION. Tenancies (11): the grant block and its checks, creation, configuration, teardown and freeze; what they do at commit points, and the
drain and squash of a tenancy's commands.
-/

namespace Sys2Proof.Machine

/-! ### Grants (11 R291, R292) -/

/-- Byte `k` of a grant block. -/
def gb (g : Bytes) (k : Nat) : Nat := (g.getD k 0).toNat
/-- A little-endian field of a grant block. -/
def gf (g : Bytes) (k len : Nat) : Nat := leVal ((g.drop k).take len)

/-- The DRAM that a grant block takes: its first byte and its length, host region and pool (11 R293). -/
def grantSpan (g : Bytes) : Nat × Nat := (gf g 8 8, (gf g 16 4 + gf g 20 4) * 2 ^ 20)

/-- Touch region `i` of a grant block: front-end, X0, Y0, X1, Y1. -/
def grantRegion (g : Bytes) (i : Nat) : Nat × Nat × Nat × Nat × Nat :=
  let k := 80 + 12 * i
  (gb g k, gf g (k + 2) 2, gf g (k + 4) 2, gf g (k + 6) 2, gf g (k + 8) 2)

/-- The touch regions in use. -/
def grantRegions (g : Bytes) : List (Nat × Nat × Nat × Nat × Nat) := (List.range (gb g 34)).map (grantRegion g)

/-- Two touch regions share a point. -/
def regionsMeet (a b : Nat × Nat × Nat × Nat × Nat) : Bool :=
  a.1 == b.1 && decide (a.2.1 ≤ b.2.2.2.1 ∧ b.2.1 ≤ a.2.2.2.1 ∧ a.2.2.1 ≤ b.2.2.2.2 ∧ b.2.2.1 ≤ a.2.2.2.2)

/-- A value or an order that Table 11.2 does not allow; the reserved bytes must be zero. -/
def grantBad (g : Bytes) : Bool :=
  let inR := fun (v lo hi : Nat) => decide (lo ≤ v ∧ v ≤ hi)
  g.length != 176 || !inR (gb g 0) 0 1 || !inR (gb g 1) 1 8 || !inR (gb g 2) 16 63 || !inR (gb g 3) 0 1 || !inR (gf g 4 2) 0 256
    || !inR (gb g 6) 0 192 || !inR (gb g 7) 0 8 || gf g 8 8 % 2 ^ 21 != 0 || !inR (gf g 16 4) 64 65536 || gf g 16 4 % 2 != 0
    || !inR (gf g 20 4) 0 16384 || gf g 20 4 % 2 != 0 || !inR (gb g 34) 0 8 || gb g 35 != 0 || gf g 76 4 != 0
    || (gb g 25 ||| gb g 24) != gb g 24
    || (outputNumbers.any fun o => bit (gb g 24) o && (decide (gb g (37 + 2 * o) < gb g (36 + 2 * o)) || decide (63 < gb g (37 + 2 * o))))
    || ((List.range (gb g 34)).any fun i =>
         let r := grantRegion g i
         decide (3 < r.1 ∨ r.2.2.2.1 < r.2.1 ∨ r.2.2.2.2 < r.2.2.1) || gb g (81 + 12 * i) != 0 || gf g (90 + 12 * i) 2 != 0)

/-- A number that exists, or whose creation has begun: what it holds is taken. -/
def Dev.tenTaken (d : Dev) (n : Nat) : Bool := !(d.ten n).grant.isEmpty

/-- The first address that Bursol reserves: the partner pool lies directly below the Bursol reserve (13 R359; notes/assumptions/27.md). -/
def Dev.dramLimit (d : Dev) : Nat := dramBase + d.dramBytes - reserveBytes - d.get .memPartnerMib * 2 ^ 20

/-- Two spans of memory share a byte. -/
def spansMeet (a b : Nat × Nat) : Bool := decide (max a.1 b.1 < min (a.1 + a.2) (b.1 + b.2))

/-- What another tenancy holds stands against a grant block (11 Table 11.3 NOT_PERMITTED). -/
def grantClash (g h : Bytes) : Bool :=
  gb g 2 == gb h 2 || spansMeet (grantSpan g) (grantSpan h) || (gb g 25 &&& gb h 25) != 0 || (gb g 26 &&& gb h 26) != 0
    || (gb g 27 &&& gb h 27) != 0 || (gf g 28 4 &&& gf h 28 4) != 0 || (gf g 32 2 &&& gf h 32 2) != 0
    || (outputNumbers.any fun o => bit (gb g 24 &&& gb h 24) o
         && decide (max (gb g (36 + 2 * o)) (gb h (36 + 2 * o)) ≤ min (gb g (37 + 2 * o)) (gb h (37 + 2 * o))))
    || ((grantRegions g).any fun r => (grantRegions h).any fun q => regionsMeet r q)

/-- The checks of R292 on a grant block of tenancy `n` in class `cls`, in the order of Table 11.3. -/
def Dev.grantChecks (d : Dev) (n cls : Nat) (g : Bytes) : List (Bool × Nat) :=
  let others := (tenNumbers.filter fun m => m != n && d.tenTaken m).map fun m => (d.ten m).grant
  let span := grantSpan g
  let rings := d.fld .sesPortCfg 0 59 56 + d.fld .sesPortCfg 1 59 56 + gb g 1 + (others.map fun h => gb h 1).sum
  let layers := gf g 4 2 + (others.map fun h => gf h 4 2).sum
  [((gb g 27 != 0 && !d.present 18) || ((gf g 32 2 != 0 || gb g 34 != 0) && !d.present 19)
      || ((gf g 28 4 != 0 || bit (gb g 3) 0) && !d.present 17), stUnitAbsent),
   (grantBad g, stBadParam),
   (cls != 0 && (gb g 26 != 0 || bit (gb g 3) 0), stNotPermitted),
   (decide (span.1 < dramBase ∨ d.dramLimit < span.1 + span.2), stNotPermitted),
   (others.any (grantClash g), stNotPermitted),
   (decide (64 < rings ∨ 256 < layers), stNotPermitted)]

/-! ### Status (11 Table 11.1) -/

/-- The STATE code. -/
def TenSt.code : TenSt → Nat
  | .absent => 0 | .creating => 1 | .active => 2 | .frozen => 3 | .resetting => 4 | .removing => 5 | .incomplete => 6

/-- The layers of a tenancy that are enabled in a copy of the configuration. -/
def Dev.tenLayers (d : Dev) (n : Nat) (inForce : Bool) : List Nat :=
  layerNumbers.filter fun l =>
    let w := if inForce then d.getF .pltLayerCfg l else d.get .pltLayerCfg l
    bit w 63 && bits w 7 4 == n

/-- TEN.STATUS; element 0 reads zero. -/
def Dev.tenStatus (d : Dev) (n : Nat) : Nat :=
  let t := d.ten n
  if n = 0 ∨ t.st = .absent then 0
  else (t.st.code <<< 29) + (t.cls <<< 27) + ((d.ses (0x10 + n)).isSome.toNat <<< 26) + (t.restored.toNat <<< 25) + (gb t.grant 0 <<< 24)
    + (gb t.grant 1 <<< 20) + (gb t.grant 2 <<< 14) + ((d.tenLayers n true).length <<< 5)

/-- The enabled source entries of a tenancy. -/
def Dev.tenSources (d : Dev) (n : Nat) : List Nat := sourceNumbers.filter fun s => d.srcEn s && d.srcOwner s == n

/-- The enabled monitoring streams of a tenancy. -/
def Dev.tenMonitors (d : Dev) (n : Nat) : List Nat := outputNumbers.filter fun m => d.monEn m && d.monOwner m == n

/-- An event of a tenancy (11 Table 11.7), on every mediator session. -/
def Dev.tenEvent (d : Dev) (n k : Nat) (data : Bytes) : Dev := d.raise toMediators { code := 0xE700 + k, object := n, tenancy := n, data }

/-! ### The runs of background commands -/

/-- A run replaced, known by the command that started it. -/
def Dev.setRun (d : Dev) (n : Nat) (r : TenRun) : Dev :=
  d.modTen n fun t => { t with runs := t.runs.map fun x => if x.cmds.head? = r.cmds.head? then r else x }

/-- A phase of a run completes. -/
def Dev.runPhase (d : Dev) (n : Nat) (r : TenRun) (ph : Nat) : Dev :=
  (d.each r.cmds fun d c => d.phaseDone c.1 c.2.1 c.2.2 ph).setRun n { r with phase := ph }

/-- A command ends: with its reply, or after it. -/
def Dev.endCmd (d : Dev) (c : Nat × Nat × Nat) (r : Res) : Dev :=
  match d.recOf c.1 c.2.1 c.2.2 with
  | none => d
  | some x => if x.replied then d.finish c.1 c.2.1 c.2.2 r.st r.ph (r.st == stAborted) else d.finishReply c.1 c.2.1 c.2.2 r

/-- A run ends, and its commands with it. -/
def Dev.endRun (d : Dev) (n : Nat) (r : TenRun) (x : Res) : Dev :=
  (d.modTen n fun t => { t with runs := t.runs.filter fun q => q.cmds.head? != r.cmds.head? }).each r.cmds fun d c => d.endCmd c x

/-- A run of a job. -/
def Ten.run (t : Ten) (j : TenJob) : Option TenRun := t.runs.find? fun r => r.job = j

/-- The commands of a tenancy that are in flight: those of its own session, open or closed (notes/assumptions/28.md). -/
def Dev.tenInFlight (d : Dev) (n : Nat) : List (Nat × Nat × Nat) :=
  let p := 0x10 + n
  (match d.ses p with
   | some s => (s.recs.filter (·.slot == .run)).map fun r => (p, s.sid, r.seq)
   | none => []) ++ d.orphans.filter (·.1 == p)

/-- An armed commit is never withdrawn (11 R300). -/
def Rec.armed (r : Rec) : Bool := r.replied && (r.opcode == 0x0300 || r.opcode == 0x0404)

/-- One command is squashed (11 R300): one that waits at phase 0, one that runs at the phase it reached; reprocessing and exposure sets of it go. -/
def Dev.squashCmd (d : Dev) (c : Nat × Nat × Nat) : Dev :=
  match d.recOf c.1 c.2.1 c.2.2 with
  | none => d
  | some r =>
    let d := d.modSes c.1 fun s => if s.sid = c.2.1 then { s with waiting := s.waiting.filter (·.h.seq != c.2.2) } else s
    let d := d.each [0, 1, 2, 3] fun d i => d.modPipe i fun p =>
      { p with reproc := p.reproc.filter fun j => (j.port, j.session, j.seq) != c, pend := p.pend.filter fun j => (j.port, j.session, j.seq) != c }
    d.endCmd c { st := stAborted, ph := r.phase }

/-- The in-flight commands of a tenancy are squashed; how many there were. -/
def Dev.squash (d : Dev) (n : Nat) : Nat × Dev :=
  let l := (d.tenInFlight n).filter fun c => (d.recOf c.1 c.2.1 c.2.2).any fun r => !r.armed
  (l.length, d.each l fun d c => d.squashCmd c)

/-! ### What is owned (11 R294 phase 4, R295 phase 3, R298 phase 7; 07 R187) -/

/-- OUT_CFG.OWNER of an output becomes `n` (with `take`), or 0 again where it is `n`; in both copies. -/
def Dev.passOutput (d : Dev) (n o : Nat) (take_ : Bool) : Dev :=
  let f := fun (w : Nat) => if take_ then setBits w 17 14 n else if bits w 17 14 = n then setBits w 17 14 0 else w
  (d.put .pltOutCfg o (f (d.get .pltOutCfg o))).putF .pltOutCfg o (f (d.getF .pltOutCfg o))

/-- The cartouche of an output passes to tenancy `n`, or from it to the mediator sessions. -/
def Dev.passCart (d : Dev) (n o : Nat) (take_ : Bool) : Dev :=
  if take_ then d.put .carState o (setBits (d.get .carState o) 31 28 n)
  else if d.cartOwner o = n then d.put .carState o (setBits (d.get .carState o) 31 28 0) else d

/-- The outputs on which a teardown acts at a commit point: those with a layer of the tenancy and those it owns. -/
def Dev.withdrawMask (d : Dev) (n : Nat) : Nat :=
  ((outputNumbers.filter fun o => (d.tenLayers n true).any (fun l => bits (d.getF .pltLayerCfg l) 62 60 == o) || d.outOwner o == n).map
    (2 ^ ·)).sum

/-- EN of every layer of a tenancy is cleared in the shadow copies, and POST_LUT_EN of the outputs it owns. -/
def Dev.withdrawShadow (d : Dev) (n : Nat) : Dev :=
  let d := d.each (d.tenLayers n false) fun d l => d.put .pltLayerCfg l (setBit (d.get .pltLayerCfg l) 63 false)
  d.each (outputNumbers.filter fun o => d.outOwner o == n) fun d o => d.put .pltOutCfg o (setBit (d.get .pltOutCfg o) 27 false)

/-- Phase 4 of a teardown on one output: a device-armed commit (11 R301). -/
def Dev.withdrawOn (d : Dev) (n o : Nat) : Dev :=
  let mine := (d.tenLayers n true).filter fun l => bits (d.getF .pltLayerCfg l) 62 60 == o
  let d := d.each mine fun d l => d.putF .pltLayerCfg l (setBit (d.getF .pltLayerCfg l) 63 false)
  let d := d.when (d.outOwner o == n) fun d => d.putF .pltOutCfg o (setBit (d.getF .pltOutCfg o) 27 false)
  (d.outCount o 6).modOut o fun x => { x with commitFlag := true, over_ := x.over_.filter fun e => e.2.owner != n }

/-- A run's action at a commit point of an output that it waits for. -/
def Dev.runAt (d : Dev) (n o : Nat) (r : TenRun) : Dev :=
  let d := match r.job with
    | .reset | .remove => if r.erased then (d.passOutput n o false).passCart n o false else d.withdrawOn n o
    | .create => d.passOutput n o true
    | .configure =>
      let d := d.when (bit (gb r.given 0) o) fun d => d.passOutput n o (bit (d.gByte n 25) o)
      d.when (bit (gb r.given 1) o) fun d => d.passCart n o (bit (d.gByte n 26) o)
    | .freeze | .restore | .thaw => d
  d.setRun n { r with outs := setBit r.outs o false }

/-- The device-armed actions of the tenancies at a commit point of output `o`, after its commits. -/
def Dev.tenAtCommit (d : Dev) (o : Nat) : Dev :=
  d.each tenNumbers fun d n => d.each ((d.ten n).runs.filter fun r => bit r.outs o) fun d r => d.runAt n o r

/-! ### Release (11 Table 11.4 phase 5) -/

/-- A source entry is disabled, and its port leaves a group that no entry uses any longer. -/
def Dev.disableAndLeave (d : Dev) (s : Nat) : Dev :=
  let g := d.groupOf s
  let d := d.disableSrc s
  match g with
  | some (p, a) => d.membership p a
  | none => d

/-- Mixer input `i` is silenced. -/
def Dev.silence (d : Dev) (i : Nat) : Dev := d.put .audInCfg i (setBit (d.get .audInCfg i) 31 false)

/-- The alert channel is silenced. -/
def Dev.silenceAlert (d : Dev) : Dev :=
  let d := d.put .audAlertCfg 0 (setBit (d.get .audAlertCfg) 31 false)
  if d.aud.alertActive then Dev.alertEvent { d with aud := { d.aud with alertActive := false, emptySince := none } } false else d

/-- The bits of a mask below `n`. -/
def maskBits (n m : Nat) : List Nat := (List.range n).filter (bit m)

/-- The rings of a tenancy's page, its event ring and its report ring are disabled. -/
def Dev.ringsOff (d : Dev) (n : Nat) : Dev :=
  let page := d.tenEp n * 16 + n
  let d := d.each (List.range 8) fun d r => d.setRng (page * 8 + r) {}
  (d.setEvr page {}).put .grtRing n (setBit (d.get .grtRing n) 11 false)

/-- Phases 4 and 5 of a teardown once the layers are withdrawn: monitoring streams, sources, pool, taps, audio, haptics, touch, rings, session. -/
def Dev.release (d : Dev) (n : Nat) : Dev :=
  let g := (d.ten n).grant
  let d := d.each (d.tenMonitors n) fun d m => d.put .encMonCfg m (setBit (d.get .encMonCfg m) 63 false)
  let d := d.placeStreams
  let srcs := d.tenSources n
  let pipes := (srcs.filter fun s => d.srcKind s == 4).map d.srcPort
  let d := d.each srcs fun d s => d.disableAndLeave s
  let d := d.modTen n fun t => { t with pool := [] }
  let d := d.each pipes fun d c => (d.put .ipuTapEn c 0).modPipe c fun p => { p with reproc := [] }
  let d := d.each (maskBits 32 (gf g 28 4)) fun d i => d.silence i
  let d := d.when (bit (gb g 3) 0) fun d => d.silenceAlert
  let d := d.each (maskBits 8 (gb g 27)) fun d v => d.flushPlays v 1
  let d := d.withdrawTouches n fun _ _ => false
  (d.ringsOff n).closeSession (0x10 + n) 0

/-! ### How the runs advance -/

/-- A tenancy's admission opens or closes (11 Table 11.4 phase 2). -/
def Dev.setTenSt (d : Dev) (n : Nat) (st : TenSt) (closed : Bool) : Dev := d.modTen n fun t => { t with st, closed }

/-- Everything of a removed tenancy is gone: ABSENT, no key, no grant. -/
def Dev.forgetTen (d : Dev) (n : Nat) : Dev := (d.setTen n {}).setPrt (0x10 + n) {}

/-- A removal that waited behind a reset starts with its phases 2 to 6 complete, and replies (11 R301). -/
def Dev.removeAfterReset (d : Dev) (n : Nat) (l : List ((Nat × Nat × Nat) × Nat)) : Dev :=
  match l with
  | [] => d
  | x :: _ =>
    let run : TenRun := { job := .remove, cmds := l.map (·.1), mode := x.2, phase := 6 }
    let d := (d.setTenSt n .removing true).modTen n fun t => { t with runs := t.runs ++ [run] }
    (d.each (l.map (·.1)) fun d c => d.finishReply c.1 c.2.1 c.2.2 (rAccepted 6)).closeSession (0x10 + n) 0

/-- One run as far as it can go: the next phase, where nothing keeps it. -/
def Dev.advance (d : Dev) (n : Nat) (r : TenRun) : Dev :=
  let g := (d.ten n).grant
  match r.job with
  | .create =>
    if r.phase = 3 ∧ r.outs = 0 then
      ((d.runPhase n r 4).tenEvent n 0 (u8 (d.ten n).cls ++ u8 (gb g 2) ++ zeros 2 ++ u64 (gf g 8 8))).endRun n r { st := stOk, ph := 4 }
    else d
  | .configure =>
    if r.phase = 2 ∧ r.outs = 0 then
      ((d.runPhase n r 3).tenEvent n 1 (u32 ((r.cmds.head?.map (·.2.2)).getD 0))).endRun n r { st := stOk, ph := 3 }
    else d
  | .reset | .remove =>
    if r.phase = 2 ∧ (d.tenInFlight n).isEmpty then (d.withdrawShadow n).runPhase n { r with outs := d.withdrawMask n } 3
    else if r.phase = 3 ∧ r.outs = 0 then ((d.withdrawShadow n).release n).runPhase n r 5
    else if r.erased ∧ r.outs = 0 then
      (((d.runPhase n r 7).endRun n r { st := stOk, ph := 7 }).forgetTen n).tenEvent n 3 (u8 r.mode ++ u8 0 ++ u16 r.squashed)
    else d
  | .freeze =>
    if r.phase = 2 ∧ (d.tenInFlight n).isEmpty then
      let d := d.raise (toOwnerMed n) { code := 0xE704, object := n, tenancy := n }
      ((d.setTenSt n .frozen true).runPhase n r 4).endRun n r { st := stOk, ph := 4 }
    else d
  | .thaw =>
    if r.phase = 2 ∧ r.outs = 0 then
      let d := (d.runPhase n r 3).modTen n fun t => { t with restored := false }
      (d.raise (toOwnerMed n) { code := 0xE705, object := n, tenancy := n }).endRun n r { st := stOk, ph := 3 }
    else d
  | .restore => d

/-- Outputs without a raster take a run's action at once (07 R181). -/
def Dev.runNow (d : Dev) (n : Nat) (r : TenRun) : Dev :=
  d.each (outputNumbers.filter fun o => bit r.outs o && !(d.out o).raster) fun d o =>
    match (d.ten n).runs.find? fun x => x.cmds.head? = r.cmds.head? with
    | some r => d.runAt n o r
    | none => d

/-- Every run of every tenancy advances as far as it can: at most four moves each. -/
def Dev.tenSettle (d : Dev) : Dev :=
  iter 4 (fun d => d.each tenNumbers fun d n => d.each (d.ten n).runs fun d r =>
    let d := d.runNow n r
    match (d.ten n).runs.find? fun x => x.cmds.head? = r.cmds.head? with
    | some r => d.advance n r
    | none => d) d

/-! ### The opcodes -/

/-- The command of a context. -/
def Ctx.cmd (c : Ctx) : Nat × Nat × Nat := (c.ses.port, c.ses.sid, c.seq)

/-- What every tenancy opcode checks first: a mediator session, a tenancy number. -/
def tenGate (c : Ctx) (n : Nat) : List (Bool × Nat) := [(!c.ses.mediator, stNotPermitted), (decide (n < 1 ∨ 8 < n), stBadParam)]

/-- TENANCY_CREATE (11 R294): `grant` is the grant block and the key of the tenancy session. -/
def tenCreateOp (c : Ctx) (n cls : Nat) (grant : Bytes) (d : Dev) : Answer :=
  let g := grant.take 176
  checked (tenGate c n ++ [(d.tenTaken n, stNotPermitted), (decide (2 < cls) || grant.length != 208, stBadParam),
    (cls == 0 && (tenNumbers.any fun m => d.tenTaken m && (d.ten m).cls == 0), stNotPermitted)] ++ d.grantChecks n cls g) d fun d =>
  (some (rAccepted 1), d.setTen n { cls, grant := g, closed := true, runs := [{ job := .create, cmds := [c.cmd], given := grant.drop 176 }] })

/-- A grant that withdraws something still in use (11 R295). -/
def Dev.grantInUse (d : Dev) (n : Nat) (g : Bytes) : Bool :=
  let used := d.tenLayers n true
  let cfg := fun l => d.getF .pltLayerCfg l
  let page := d.tenEp n * 16 + n
  decide (gf g 4 2 < used.length)
    || (used.any fun l => let o := bits (cfg l) 62 60
                          let z := bits (cfg l) 59 54
                          !bit (gb g 24) o || decide (z < gb g (36 + 2 * o) ∨ gb g (37 + 2 * o) < z))
    || ((List.range 8).any fun r => decide (gb g 1 ≤ r) && (d.rng (page * 8 + r)).cfg.en)
    || decide (gb g 6 < (d.tenSources n).length) || decide (gb g 7 < (d.tenMonitors n).length)
    || (used.any fun l => let s := bits (cfg l) 51 44
                          bits (cfg l) 53 52 == 0 && d.srcOwner s != n && !bit (gb g (52 + s / 8)) (s % 8))

/-- A contact stays with a tenancy under a new grant: its region stands unchanged, or every channel of its group is held. -/
def Dev.keepsTouch (d : Dev) (old new : Bytes) (t : Nat) (k : Contact) : Bool :=
  if t < 4 then decide (k.region < gb new 34) && grantRegion new k.region == grantRegion old k.region
  else (groupChannels (d.get .grtSelfGroup k.id)).all (bit (gf new 32 2))

/-- TENANCY_CONFIGURE (11 R295). -/
def tenConfigureOp (c : Ctx) (n : Nat) (g : Bytes) (d : Dev) : Answer :=
  let old := (d.ten n).grant
  let st := (d.ten n).st
  let same := fun (k len : Nat) => gf g k len == gf old k len
  let fixed := same 0 1 && same 2 1 && same 8 8 && same 16 4 && same 20 4
  let gc := d.grantChecks n (d.ten n).cls g
  checked (tenGate c n ++ [(st != .active && st != .frozen, stNotPermitted)] ++ gc.take 2 ++ [(!fixed, stBadParam)] ++ gc.drop 2
    ++ [(d.grantInUse n g, stNotPermitted)]) d fun d =>
  let gone := fun (k len : Nat) => gf old k len - (gf old k len &&& gf g k len)
  let d := d.withdrawTouches n (d.keepsTouch old g)
  let d := d.each (maskBits 8 (gone 27 1)) fun d v => d.flushPlays v 1
  let d := d.each (maskBits 32 (gone 28 4)) fun d i => d.silence i
  let d := d.when (bit (gone 3 1) 0) fun d => d.silenceAlert
  let d := d.modTen n fun t => { t with grant := g }
  let own := gb old 25 ^^^ gb g 25
  let cart := gb old 26 ^^^ gb g 26
  let outs := own ||| cart
  if outs = 0 ∨ (d.ten n).restored then (some { st := stOk, ph := 3 }, d.tenEvent n 1 (u32 c.seq))
  else (some (rAccepted 2), d.modTen n fun t => { t with runs := t.runs ++ [{ job := .configure, cmds := [c.cmd], phase := 2, outs, given := u8 own ++ u8 cart }] })

/-- A teardown starts: phases 1 and 2; from FROZEN nothing is in flight, and phase 3 follows at once. In squash mode the commands in flight go now. -/
def Dev.tearDown (d : Dev) (n mode : Nat) (remove : Bool) (cmd : Nat × Nat × Nat) : Dev :=
  let run : TenRun := { job := if remove then .remove else .reset, cmds := [cmd], mode, phase := 2 }
  let d := (d.setTenSt n (if remove then .removing else .resetting) true).modTen n fun t =>
    { t with runs := t.runs ++ [run] }
  if mode = 1 then
    let (k, d) := d.squash n
    d.setRun n { run with squashed := k }
  else d

/-- TENANCY_RESET and TENANCY_REMOVE (11 R298, R301). -/
def tenTearOp (c : Ctx) (n mode : Nat) (remove : Bool) (d : Dev) : Answer :=
  let t := d.ten n
  let rst := t.run .reset
  let rem := t.run .remove
  checked (tenGate c n ++ [(decide (1 < mode), stBadParam), (t.st == .absent || t.st == .creating, stNotPermitted),
    (t.st == .incomplete && !remove, stNotPermitted), (rem.isSome && !remove, stNotPermitted), ((t.run .freeze).isSome, stBusyRetry)]) d fun d =>
  match if remove then rem else rst with
  | some r => (some (rAccepted r.phase), d.setRun n { r with cmds := r.cmds ++ [c.cmd] })
  | none =>
    match rst with
    | some r => (none, d.setRun n { r with removes := r.removes ++ [(c.cmd, mode)] })
    | none => (some (rAccepted 2), d.tearDown n mode remove c.cmd)

/-- TENANCY_FREEZE (11 R303): it replies once, at its end; a second one while it runs gets the same reply. -/
def tenFreezeOp (c : Ctx) (n : Nat) (d : Dev) : Answer :=
  let t := d.ten n
  checked (tenGate c n ++ [(t.st != .active, stNotPermitted)]) d fun d =>
  match t.run .freeze with
  | some r => (none, d.setRun n { r with cmds := r.cmds ++ [c.cmd] })
  | none =>
    let d := d.phaseDone c.ses.port c.ses.sid c.seq 2
    (none, (d.setTenSt n .active true).modTen n fun t => { t with runs := t.runs ++ [{ job := .freeze, cmds := [c.cmd], phase := 2 }] })

/-- FREEZE_DRAIN_TIMEOUT (11 R303): admission reopens, LAST_PHASE returns to 1, and the command replies BUSY_RETRY. -/
def freezeTimeoutOp (n : Nat) (d : Dev) : Dev :=
  match (d.ten n).run .freeze with
  | some r => (d.setTenSt n .active false).endRun n r { st := stBusyRetry, ph := 1 }
  | none => d

/-- TENANCY_DRAIN_EXPIRED (11 R299): what is still in flight is squashed. -/
def drainExpiredOp (n : Nat) (d : Dev) : Dev :=
  match ((d.ten n).run .reset).or ((d.ten n).run .remove) with
  | some r =>
    if r.phase = 2 ∧ r.mode = 0 ∧ !(d.tenInFlight n).isEmpty then
      let (k, d) := d.squash n
      ((d.setRun n { r with squashed := k }).tenEvent n 6 (u16 k)).tenSettle
    else d
  | none => d

/-- TENANCY_QUIESCED (11 Table 11.4 phase 6): a reset fills the pool with zeros and ends; a removal waits for its zero-fill. -/
def quiescedOp (n : Nat) (d : Dev) : Dev :=
  let t := d.ten n
  match (t.run .reset).or (t.run .remove) with
  | some r =>
    if r.phase ≠ 5 then d
    else if r.job = .reset then
      let g := t.grant
      let d := d.zeroFill (gf g 8 8 + gf g 16 4 * 2 ^ 20) (gf g 20 4 * 2 ^ 20)
      let d := (d.runPhase n r 6).setTenSt n .active false
      let d := (d.endRun n r { st := stOk, ph := 6 }).tenEvent n 2 (u8 r.mode ++ u8 0 ++ u16 r.squashed)
      d.removeAfterReset n r.removes
    else d.runPhase n r 6
  | none => d

/-! ### Memory and regions -/

/-- Masters 17 and 18 carry the inbound accesses of H0 and H1: region `n` is the host region of tenancy `n`, for its claim (13 R361;
notes/assumptions/29.md). -/
def Dev.hostRegion (d : Dev) (n : Nat) (on : Bool) : Dev :=
  let g := (d.ten n).grant
  let first := gf g 8 8 / 4096
  d.setRegion (17 + gb g 0 % 2) n (if on then regionWord first (first + gf g 16 4 * 256 - 1) true true 2 else 0)

/-- Phase 2 of a creation or a restore: the memory is filled with zeros and takes the colour, the boundary region is set (13 R360). -/
def Dev.reserveTen (d : Dev) (n : Nat) : Dev :=
  let g := (d.ten n).grant
  let s := grantSpan g
  ((d.zeroFill s.1 s.2).retag (s.1 / 4096) ((s.1 + s.2) / 4096 - 1) (gb g 2)).hostRegion n true

/-- Phase 7 of a removal: the memory is erased and takes the colour of free memory, the boundary region, the colour and the page go. -/
def Dev.eraseTen (d : Dev) (n : Nat) (r : TenRun) : Dev :=
  let g := (d.ten n).grant
  let s := grantSpan g
  let d := ((d.zeroFill s.1 s.2).retag (s.1 / 4096) ((s.1 + s.2) / 4096 - 1) 15).hostRegion n false
  let d := d.modTen n fun t => { t with grant := g.take 1 ++ zeros 2 ++ (g.drop 3).take 5 ++ zeros 16 ++ g.drop 24 }
  d.setRun n { r with erased := true, outs := gb g 25 ||| gb g 26 }

/-- Phases 2 and 3 of a creation: STATE CREATING, then the grants in force, the key set, the page assigned, STATE ACTIVE. -/
def Dev.createdTen (d : Dev) (n : Nat) (r : TenRun) : Dev :=
  let g := (d.ten n).grant
  let d := (d.reserveTen n).setTenSt n .creating true
  let d := (d.runPhase n r 2).setTenSt n .active false
  let d := d.setPrt (0x10 + n) { key := some { kind := 0, salt := zeros 16, key := r.given } }
  let d := d.each (maskBits 8 (gb g 26)) fun d o => d.passCart n o true
  d.runPhase n { r with outs := gb g 25, given := [] } 3

/-! ### Commands -/

end Sys2Proof.Machine
end

