-- ==== Sys2Proof/Machine/TenImage.lean ====
section
/-!
DEFINITION. Saving, restoring and thawing a tenancy (11 R304 to R306): the saved image, and the completion of zero-fills.
-/

namespace Sys2Proof.Machine

/-! ### Parameters as bytes -/

/-- A run of stored slots of a parameter: the parameter, the first slot, how many. -/
abbrev Slots := Par × Nat × Nat

/-- Element `e` of a parameter. -/
def elemSlots (e : Nat) (p : Par) : Slots := (p, e * p.info.units, p.info.units)

/-- The bytes of a run of slots. -/
def slotsLen (x : Slots) : Nat := x.2.2 * x.1.info.unit

/-- A run of slots as bytes, in force or in the shadow copy. -/
def Dev.slotBytes (d : Dev) (inForce : Bool) (x : Slots) : Bytes :=
  (List.range x.2.2).flatMap fun i => leBytes x.1.info.unit (if inForce then d.getF x.1 (x.2.1 + i) else d.get x.1 (x.2.1 + i))

/-- Runs of slots written from bytes, one after the other. -/
def Dev.putSlots (d : Dev) : List Slots → Bytes → Dev
  | [], _ => d
  | x :: l, b =>
    let u := x.1.info.unit
    let d := d.each (List.range x.2.2) fun d i => d.put x.1 (x.2.1 + i) (leVal ((b.drop (i * u)).take u))
    Dev.putSlots d l (b.drop (slotsLen x))

/-- The bytes of runs of slots. -/
def runsLen (l : List Slots) : Nat := (l.map slotsLen).sum

/-- A source entry (11 Table 11.6 type 1). -/
def srcSlots (n : Nat) : List Slots :=
  [Par.srcCfg, .srcName, .srcDst, .srcFilter, .srcSsrc, .srcMediaOff, .srcFmt, .srcAllow, .srcJbMs, .srcLateMs, .srcLossMs, .srcBufKib, .datProofCfg,
    .decCfg, .bshSrcPrio].map (elemSlots n)

/-- A layer (type 2). -/
def laySlots (n : Nat) : List Slots :=
  [Par.pltLayerCfg, .pltLayerDst, .pltLayerCrop, .pltLayerBuf, .pltLayerFill, .pltLayerLive, .pltPreLut].map (elemSlots n)

/-- An output (type 3). -/
def outSlots (o : Nat) : List Slots := [Par.pltOutCfg, .pltOutPhase, .pltPostLut].map (elemSlots o)

/-- A monitoring stream (type 4). -/
def monSlots (m : Nat) : List Slots := [elemSlots m .encMonCfg, (.encRc, 6 * m, 6), elemSlots m .encDst, elemSlots m .encUdpPort]

/-- A camera pipe (type 5), before its exposure set. -/
def camSlots (c : Nat) : List Slots := [Par.ipuPortCfg, .ipuCamCfg, .ipuOutCfg, .ipuMergeSat, .ipuMergeBand].map (elemSlots c)

/-- A console object (type 6) by its kind: 0 a self-capacitance group, 1 a haptic driver with its waveforms, 2 a mixer input. -/
def conSlots (kind i : Nat) : List Slots :=
  if kind = 0 then [elemSlots i .grtSelfGroup]
  else if kind = 1 then [elemSlots i .hapCfg, (.hapWave, 8 * i, 8)]
  else [elemSlots i .audInBuf, elemSlots i .audInCfg]

/-! ### The image (11 Table 11.5, Table 11.6; notes/assumptions/30.md) -/

/-- An address field of a word moved by the difference of two bases, modulo its 48 bits. -/
def rebase (hi lo : Nat) (sub add w : Nat) : Nat := setBits w hi lo (bits w hi lo + 2 ^ 48 - sub % 2 ^ 48 + add)

/-- A section: TYPE, LEN, the body padded to 4 bytes. -/
def imgSection (s : Nat × Bytes) : Bytes := u16 s.1 ++ u16 s.2.length ++ padTo (ceilDiv s.2.length 4 * 4) s.2

/-- A byte string cut into pieces of 32 KiB, each with its offset. -/
def pieces : Nat → Nat → Bytes → List (Nat × Bytes)
  | 0, _, _ => []
  | fuel + 1, off, b => if b.isEmpty then [] else (off, b.take 32768) :: pieces fuel (off + 32768) (b.drop 32768)

/-- The cartouche of output `o` as sections: first the descriptor bank in force, its glyph bank and its lookup table, then the pixel ranges it references. -/
def Dev.cartSections (d : Dev) (o : Nat) : List Bytes :=
  let bank := (d.out o).cartBank
  let ctl := d.cartCtl o bank
  let a := cartSlot o
  let head := u8 o ++ u8 0 ++ d.peekN (a + 0x77100 + bank * 128) 128 ++ d.peekN (a + 0x6E000 + bits ctl 30 30 * 0x4000) 0x4000
    ++ d.peekN (a + 0x76000 + bits ctl 31 31 * 0x800) 0x800
  let ranges := (d.cartRects o bank).map rectRange
  head :: ranges.flatMap fun r => (pieces 16 r.1 (d.peekN (a + r.1) r.2)).map fun p => u8 o ++ u8 1 ++ zeros 2 ++ u32 p.1 ++ p.2

/-- An exposure set as bytes. -/
def expBytes (s : Option ExpSet) : Bytes :=
  match s with
  | none => [0]
  | some s => u8 s.sets.length ++ u16 s.tag ++ u32 s.target ++ u8 s.embedded.toNat ++ s.sets.flatMap fun x => u32 x.expNs ++ u16 x.gain ++ u32 x.emb

/-- The sections of tenancy `n`: its enabled sources and layers, the outputs it owns, its streams, cameras, console objects and cartouches. -/
def Dev.imgSections (d : Dev) (n : Nat) : List (Nat × Bytes) :=
  let g := (d.ten n).grant
  let base := gf g 8 8
  let src := (d.tenSources n).map fun s =>
    let b := (srcSlots s).flatMap (d.slotBytes true)
    (1, u8 s ++ u64 (leVal (b.take 8) - bits (leVal (b.take 8)) 15 4 * 16) ++ b.drop 8)
  let lay := (d.tenLayers n true).map fun l =>
    let v := d.putF .pltLayerBuf l (rebase 47 0 base 0 (d.getF .pltLayerBuf l))
    (2, u8 l ++ (laySlots l).flatMap (v.slotBytes true))
  let out := (maskBits 8 (gb g 25)).map fun o => (3, u8 o ++ (outSlots o).flatMap (d.slotBytes true))
  let mon := (d.tenMonitors n).map fun m => (4, u8 m ++ (monSlots m).flatMap (d.slotBytes true))
  let cam := (((d.tenSources n).filter fun s => d.srcKind s == 4).map d.srcPort).map fun c =>
    (5, u8 c ++ (camSlots c).flatMap (d.slotBytes true) ++ expBytes (d.pipe c).inForce)
  let con := (((List.range 16).filter fun i => bit (d.get .grtSelfGroup i) 15 && (groupChannels (d.get .grtSelfGroup i)).all (bit (gf g 32 2))).map
      fun i => (0, i)) ++ (maskBits 8 (gb g 27)).map (fun v => (1, v)) ++ (maskBits 32 (gf g 28 4)).map fun i => (2, i)
  let con := con.map fun (k, i) =>
    let v := if k = 2 then d.put .audInBuf i (rebase 63 16 base 0 (d.get .audInBuf i)) else d
    (6, u8 k ++ u8 i ++ (conSlots k i).flatMap (v.slotBytes false))
  let cart := (maskBits 8 (gb g 26)).flatMap fun o => (d.cartSections o).map fun b => (7, b)
  src ++ lay ++ out ++ mon ++ cam ++ con ++ cart

/-- NEEDS: units whose state the image holds (GRT, HAP, IPU, AUD). -/
def imgNeeds (g : Bytes) (secs : List (Nat × Bytes)) : Nat :=
  (gf g 32 2 != 0 || gb g 34 != 0).toNat + 2 * (gb g 27 != 0).toNat + 4 * (secs.any (·.1 == 5)).toNat + 8 * (gf g 28 4 != 0 || bit (gb g 3) 0).toNat

/-- The saved image of tenancy `n`. -/
def Dev.tenImage (d : Dev) (n : Nat) : Bytes :=
  let t := d.ten n
  let secs := d.imgSections n
  let body := secs.flatMap imgSection
  let len := 224 + body.length + 240
  let head := u32 0x31544E49 ++ u8 1 ++ u8 t.cls ++ u16 (imgNeeds t.grant secs) ++ u32 len ++ u16 secs.length ++ zeros 2 ++ padTo 16 Config.serial
    ++ u32 d.sec.running.release ++ tm d.now ++ zeros 4 ++ padTo 176 t.grant
  let whole := head ++ body ++ padTo 96 Config.idPublicKey
  let digest := padTo 48 (Config.sha384 whole)
  whole ++ digest ++ padTo 96 (Config.ecdsaSign 0 digest)

/-- An address range lies in the outbound window of an endpoint (01 Table 1.7). -/
def Dev.inWindowOf (d : Dev) (port a len : Nat) : Bool :=
  decide (port < 2) && d.targetOf a == 9 + port && d.targetOf (a + (len - 1)) == 9 + port

/-- TENANCY_SAVE (11 R304). -/
def tenSaveOp (c : Ctx) (n dest maxLen : Nat) (d : Dev) : Answer :=
  let img := d.tenImage n
  checked (tenGate c n ++ [((d.ten n).st != .frozen, stNotPermitted), (!d.inWindowOf c.ses.port dest img.length, stNotPermitted)]) d fun d =>
  if maxLen < img.length ∨ 2097152 < img.length then (some { rErr stBadParam with body := u32 img.length }, d)
  else (some { st := stOk, ph := 3 }, d.busWrite dest img)

/-! ### Restoring -/

/-- The sections of an image, NSECT of them, and nothing after them. -/
def parseSections : Nat → Bytes → Option (List (Nat × Bytes))
  | 0, b => if b.isEmpty then some [] else none
  | n + 1, b =>
    let len := gf b 2 2
    let padded := ceilDiv len 4 * 4
    if b.length < 4 + padded then none
    else (parseSections n (b.drop (4 + padded))).map fun l => (gf b 0 2, (b.drop 4).take len) :: l

/-- The body of a section has the length that its type needs. -/
def sectionOk (s : Nat × Bytes) : Bool :=
  let k := gb s.2 0
  let i := gb s.2 1
  match s.1 with
  | 1 => s.2.length == 1 + runsLen (srcSlots 0)
  | 2 => s.2.length == 1 + runsLen (laySlots 0)
  | 3 => decide (k < 8) && s.2.length == 1 + runsLen (outSlots 0)
  | 4 => decide (k < 8) && s.2.length == 1 + runsLen (monSlots 0)
  | 5 => decide (k < 4) && decide (1 + runsLen (camSlots 0) < s.2.length)
  | 6 => decide (k < 3) && decide (i < 32) && s.2.length == 2 + runsLen (conSlots k 0)
  | 7 => decide (k < 8) && (if i = 0 then s.2.length == 2 + 128 + 0x4000 + 0x800 else decide (8 ≤ s.2.length ∧ gf s.2 4 4 + (s.2.length - 8) ≤ 0x6E000))
  | _ => false

/-- An image read as Table 11.5 lays it out: its class, NEEDS, grant and sections; none where the layout is wrong. -/
def parseImage (b : Bytes) : Option (Nat × Nat × Bytes × List (Nat × Bytes)) :=
  if gf b 0 4 != 0x31544E49 || gb b 4 != 1 || gf b 8 4 != b.length || decide (b.length < 464) || decide (2097152 < b.length) then none
  else match parseSections (gf b 12 2) ((b.take (b.length - 240)).drop 224) with
  | none => none
  | some l => if l.all sectionOk then some (gb b 5, gf b 6 2, (b.drop 48).take 176, l) else none

/-- DIGEST and SIGNATURE hold under PUBKEY. -/
def imageGenuine (b : Bytes) : Bool :=
  let key := (b.drop (b.length - 240)).take 96
  let digest := (b.drop (b.length - 144)).take 48
  digest == padTo 48 (Config.sha384 (b.take (b.length - 144))) && Config.ecdsaVerify (Config.sha256 key) digest (b.drop (b.length - 96))

/-- The lowest colour from 16 that no tenancy holds. -/
def Dev.freeColour (d : Dev) : Nat :=
  let used := (tenNumbers.filter d.tenTaken).map fun m => gb (d.ten m).grant 2
  ((List.range 48).map (16 + ·)).find? (fun k => !used.contains k) |>.getD 64

/-- The lowest 2 MiB-aligned DRAM address with room for `len` bytes; 0 where there is none. -/
def Dev.freeBase (d : Dev) (len : Nat) : Nat :=
  let held := (tenNumbers.filter d.tenTaken).map fun m => grantSpan (d.ten m).grant
  let held := held.filter fun s => decide (0 < s.2)
  let cands := dramBase :: held.map fun s => s.1 + s.2
  let ok := fun (a : Nat) => decide (a + len ≤ d.dramLimit) && held.all fun s => !spansMeet (a, len) s
  (argMin id (cands.filter ok)).getD 0

/-- A grant with its colour and its base replaced. -/
def replant (g : Bytes) (colour base : Nat) : Bytes := g.take 2 ++ u8 colour ++ (g.drop 3).take 5 ++ u64 base ++ g.drop 16

/-- The free source entries, layers and monitoring streams. -/
def Dev.freeSources (d : Dev) : List Nat := sourceNumbers.filter fun s => !d.srcEn s
/-- Layers enabled in neither copy. -/
def Dev.freeLayers (d : Dev) : List Nat := layerNumbers.filter fun l => !d.flag .pltLayerCfg l 63 && !d.flagF .pltLayerCfg l 63
/-- Streams that are not enabled. -/
def Dev.freeMonitors (d : Dev) : List Nat := outputNumbers.filter fun m => !d.monEn m

/-- The bodies of a type, with the new index that each takes: the lowest free ones, in image order. -/
def placed (secs : List (Nat × Bytes)) (type : Nat) (free : List Nat) : List (Nat × Bytes) :=
  free.zip ((secs.filter (·.1 == type)).map (·.2))

/-- A units bit of NEEDS that is absent. -/
def Dev.needsAbsent (d : Dev) (needs : Nat) : Bool :=
  (bit needs 0 && !d.present 19) || (bit needs 1 && !d.present 18) || (bit needs 2 && !d.present 20) || (bit needs 3 && !d.present 17)

/-- TENANCY_RESTORE (11 R305): checked against the image; the reply comes at phase 3, once the memory is filled with zeros. -/
def tenRestoreOp (c : Ctx) (n src len : Nat) (image : Bytes) (d : Dev) : Answer :=
  let img := padTo len image
  let p := parseImage img
  let (cls, needs, g, secs) := p.getD (0, 0, [], [])
  let g := replant g d.freeColour (d.freeBase (grantSpan g).2)
  let count := fun (k : Nat) => (secs.filter (·.1 == k)).length
  checked (tenGate c n ++ [(d.tenTaken n, stNotPermitted), (!d.inWindowOf c.ses.port src len, stNotPermitted), (p.isNone || decide (2 < cls), stBadParam),
    (!imageGenuine img, stIntegrity), (d.needsAbsent needs, stUnitAbsent)] ++ d.grantChecks n cls g
    ++ [(cls == 0 && (tenNumbers.any fun m => d.tenTaken m && (d.ten m).cls == 0), stNotPermitted),
      (decide (d.freeSources.length < count 1 ∨ d.freeLayers.length < count 2 ∨ d.freeMonitors.length < count 4), stNotPermitted)]) d fun d =>
  let d := d.phaseDone c.ses.port c.ses.sid c.seq 1
  (none, d.setTen n { cls, grant := g, closed := true, runs := [{ job := .restore, cmds := [c.cmd], given := img }] })

/-- A source entry of an image written at index `s` and enabled as a reassignment (04 R92). -/
def Dev.restoreSrc (d : Dev) (n s : Nat) (b : Bytes) : Dev :=
  let gen := d.srcGen s
  let d := d.putSlots (srcSlots s) (b.drop 1)
  let d := d.put .srcCfg s (setBits (setBits (d.get .srcCfg s) 15 8 gen) 7 4 n)
  let d := d.reassign s
  match d.groupOf s with
  | some (p, a) => d.membership p a
  | none => d

/-- A layer of an image as shadow values at index `l`: its owner, its source's new index, its buffer at the new base. -/
def Dev.restoreLayer (d : Dev) (n l : Nat) (moved : List (Nat × Nat)) (base : Nat) (b : Bytes) : Dev :=
  let d := d.putSlots (laySlots l) (b.drop 1)
  let w := d.get .pltLayerCfg l
  let s := ((moved.find? (·.1 == bits w 51 44)).map (·.2)).getD (bits w 51 44)
  (d.put .pltLayerCfg l (setBits (setBits w 51 44 s) 7 4 n)).put .pltLayerBuf l (rebase 47 0 0 base (d.get .pltLayerBuf l))

/-- The exposure set that bytes hold. -/
def expOf (b : Bytes) : Option ExpSet :=
  if gb b 0 = 0 then none
  else some { tag := gf b 1 2, target := gf b 3 4, embedded := gb b 7 == 1,
              sets := (List.range (gb b 0)).map fun i => { expNs := gf b (8 + 10 * i) 4, gain := gf b (12 + 10 * i) 2, emb := gf b (14 + 10 * i) 4 } }

/-- A cartouche section of an image: into the banks that the descriptor in force does not use, and the pixel store. -/
def Dev.restoreCart (d : Dev) (b : Bytes) : Dev :=
  let o := gb b 0
  let a := cartSlot o
  let now := d.cartCtl o (d.out o).cartBank
  if gb b 1 = 0 then
    let lut := 1 - bits now 31 31
    let gly := 1 - bits now 30 30
    let ctl := setBits (setBits (gf b 2 8) 31 31 lut) 30 30 gly
    let d := d.poke (a + 0x77100 + (1 - (d.out o).cartBank % 2) * 128) (u64 ctl ++ (b.drop 10).take 120)
    let d := d.poke (a + 0x6E000 + gly * 0x4000) ((b.drop 130).take 0x4000)
    d.poke (a + 0x76000 + lut * 0x800) (b.drop (130 + 0x4000))
  else d.poke (a + gf b 4 4) (b.drop 8)

/-- One of the other sections of an image. -/
def Dev.restoreOther (d : Dev) (n base : Nat) (s : Nat × Bytes) : Dev :=
  let b := s.2
  match s.1 with
  | 3 =>
    let o := gb b 0
    let d := d.putSlots (outSlots o) (b.drop 1)
    d.put .pltOutCfg o (setBits (d.get .pltOutCfg o) 17 14 n)
  | 5 =>
    let c := gb b 0
    let old := d.get .ipuPortCfg c
    let d := portCfgWritten c old (d.putSlots (camSlots c) (b.drop 1))
    d.modPipe c fun p => { p with inForce := expOf (b.drop (1 + runsLen (camSlots 0))) }
  | 6 =>
    let k := gb b 0
    let i := gb b 1
    let d := d.putSlots (conSlots k i) (b.drop 2)
    if k = 2 then d.put .audInBuf i (rebase 63 16 0 base (d.get .audInBuf i)) else d
  | 7 => d.restoreCart b
  | _ => d

/-- Phases 2 and 3 of a restore: reserved, then written; STATE FROZEN, and the reply with the new indices. -/
def Dev.restoredTen (d : Dev) (n : Nat) (r : TenRun) : Dev :=
  let d := (d.reserveTen n).runPhase n r 2
  let t := d.ten n
  let g := t.grant
  let base := gf g 8 8
  let secs := ((parseImage r.given).map (·.2.2.2)).getD []
  let srcs := placed secs 1 d.freeSources
  let lays := placed secs 2 d.freeLayers
  let mons := placed secs 4 d.freeMonitors
  let moved := srcs.map fun x => (gb x.2 0, x.1)
  let d := d.each srcs fun d x => d.restoreSrc n x.1 x.2
  let d := d.each lays fun d x => d.restoreLayer n x.1 moved base x.2
  let d := d.each mons fun d x => (d.putSlots (monSlots x.1) (x.2.drop 1)).modMon x.1 fun r => { r with owner := n }
  let d := d.each secs fun d s => d.restoreOther n base s
  let d := (d.each (maskBits 8 (gb g 26)) fun d o => d.passCart n o true).placeStreams
  let d := (d.modTen n fun t => { t with st := .frozen, restored := true, closed := true }).setPrt (0x10 + n) {}
  let body := u8 n ++ u8 (gb g 2) ++ u8 srcs.length ++ u8 lays.length ++ u64 base
    ++ (srcs ++ lays).flatMap fun x => u8 (gb x.2 0) ++ u8 x.1
  (d.tenEvent n 0 (u8 t.cls ++ u8 (gb g 2) ++ zeros 2 ++ u64 base)).endRun n r { st := stOk, ph := 3, body }

/-- ZERO_FILL_DONE (11 R294, R298, R305): the fill of a creation, a restore or a removal has completed. -/
def zeroFillOp (n : Nat) (d : Dev) : Dev :=
  match (d.ten n).runs.find? fun r => ((r.job = .create ∨ r.job = .restore) ∧ r.phase = 1) ∨ (r.job = .remove ∧ r.phase = 6 ∧ !r.erased) with
  | none => d
  | some r =>
    (match r.job with
     | .create => d.createdTen n r
     | .restore => d.restoredTen n r
     | _ => d.eraseTen n r).tenSettle

/-! ### Thawing (11 R306) -/

/-- The commit of a restored tenancy: its layers and the outputs it owns. -/
def Dev.thawPlan (d : Dev) (n : Nat) : Plan :=
  let own := gb (d.ten n).grant 25
  let lays := (d.tenLayers n false).map fun l => (l, d.layerSh l)
  let mask := (outputNumbers.filter fun o => bit own o || lays.any fun l => l.2.out == o).map (2 ^ ·)
  { mask := mask.sum, outs := (maskBits 8 own).map fun o => (o, d.outSh o), layers := lays }

/-- TENANCY_THAW: admission reopens; a restored tenancy's configuration is committed, or refused with the status of the first check that fails. -/
def tenThawOp (c : Ctx) (n : Nat) (d : Dev) : Answer :=
  checked (tenGate c n ++ [((d.ten n).st != .frozen, stNotPermitted)]) d fun d =>
  let d := d.setTenSt n .active false
  let d := match d.ses (0x10 + n) with
    | some s => d.eventSpaceBack s.port
    | none => d
  if !(d.ten n).restored then
    (some { st := stOk, ph := 3 }, d.raise (toOwnerMed n) { code := 0xE705, object := n, tenancy := n })
  else
    let p := d.thawPlan n
    let carts := maskBits 8 (gb (d.ten n).grant 26)
    let bank := fun (o : Nat) => 1 - (d.out o).cartBank % 2
    let bad := if p.mask = 0 then none else (d.commitChecks p n).find? (·.1)
    let bad := bad.or (if carts.any fun o => !d.cartFits o (bank o) then some (true, stBadParam) else none)
    match bad with
    | some x => (some { st := x.2, ph := 2 }, d)
    | none =>
      let d := d.phaseDone c.ses.port c.ses.sid c.seq 2
      let d := d.when (p.mask != 0) fun d => d.arm 0xFF 0 0 n false p
      let d := d.each carts fun d o => d.computeExpected o (bank o) true
      let d : Dev := { d with carts := d.carts ++ carts.map fun o =>
        ({ port := 0xFF, session := 0, seq := 0, bank := bank o, mask := 2 ^ o, left := 2 ^ o } : ArmedCart) }
      let outs := p.mask ||| gb (d.ten n).grant 26
      (none, d.modTen n fun t => { t with runs := t.runs ++ [{ job := .thaw, cmds := [c.cmd], phase := 2, outs }] })

/-! ### Commands -/

end Sys2Proof.Machine
end

