-- ==== Sys2Proof/Machine/Memory.lean ====
section
/-!
DEFINITION. The crossbar and the memories (13): routing, boundary checks and ECC of an access, the DRAM controller's own work, scrubbers, tags,
remap and region commits.
-/

namespace Sys2Proof.Machine

/-! ### The crossbar (01 R15 to R20, 13 R352 to R356) -/

/-- A master reaches a target (01 Table 1.6, R16). -/
def canReach (m t : Nat) (kind : AccKind) : Bool :=
  match t with
  | 0 | 3 | 4 => [0, 1, 23].contains m
  | 1 | 5 | 6 | 7 | 8 => true
  | 2 => if kind = .write then m == 1 else [1, 6, 7, 8, 9, 10, 13, 23].contains m
  | 9 | 10 => [0, 11, 12, 21].contains m
  | _ => false

/-- An access divided at every 2 KiB boundary (01 R20): the address and length of each part. -/
def parts : Nat → Nat → Nat → List (Nat × Nat)
  | 0, _, _ => []
  | fuel + 1, a, n =>
    if n = 0 then []
    else
      let k := min n (2048 - a % 2048)
      (a, k) :: parts fuel (a + k) (n - k)

/-- The parts of an access of `n` bytes from `a`. -/
def partsOf (a n : Nat) : List (Nat × Nat) := parts (n / 2048 + 2) a n

/-- The claim of an access: masters 0, 1 and 23 carry 0 (13 R361). -/
def claimOf (m claim : Nat) : Nat := if m = 0 ∨ m = 1 ∨ m = 23 then 0 else claim % 64

/-- The QoS that a master's write carries: its default, or 15 for a plate whose output is in panic (01 Table 1.5, 13 R342). -/
def Dev.qosOf (d : Dev) (m : Nat) : Nat :=
  if 6 ≤ m ∧ m ≤ 9 ∧ d.mem.panics.any (fun o => plateOf o == m - 6) then 15 else d.get .xbrQos m

/-- A grant at a target is counted (13 Table 13.5): parked where the target last granted the same master, and as a burst of QoS 15. -/
def Dev.grantAt (d : Dev) (t m qos : Nat) : Dev :=
  let d := d.count2 .xbrStat t 0
  let d := d.when (smGet 24 d.mem.lastGrant t == m) fun d => d.count2 .xbrStat t 1
  let d := d.when (qos == 15) fun d => d.count2 .xbrStat t 2
  { d with mem := { d.mem with lastGrant := smSet 24 d.mem.lastGrant t m } }

/-- How a part of an access fares: its target where the boundary unit allows it and the crossbar has a route; without one the default target is
granted it and answers (01 R15, 13 R356). -/
def Dev.routePart (d : Dev) (m a qos : Nat) (kind : AccKind) (claim : Nat) : Option Nat × Dev :=
  match d.checkPage m (a / 4096) kind (claimOf m claim) with
  | .deny r byTag => (none, d.denied m a r kind (claimOf m claim) byTag)
  | .allow =>
    let t := d.targetOf a
    if canReach m t kind then (some t, d) else (none, (d.grantAt 11 m qos).decodeError m a kind)

/-! ### ECC and poison (13 R346, R348) -/

/-- The DRAM channel of a target. -/
def Dev.chan (d : Dev) (c : Nat) : DramCh := smGet {} d.mem.chans c

/-- A DRAM channel changed. -/
def Dev.modChan (d : Dev) (c : Nat) (f : DramCh → DramCh) : Dev :=
  { d with mem := { d.mem with chans := smSet {} d.mem.chans c (f (d.chan c)) } }

/-- A beat of DRAM is marked, or its mark cleared. -/
def Dev.markBeat (d : Dev) (beat : Nat) (p : Bool) : Dev := { d with mem := { d.mem with poison := smSet false d.mem.poison beat p } }

/-- The beats that a range touches. -/
def beatsOf (a n : Nat) : List Nat := if n = 0 then [] else (List.range ((a + n - 1) / 4 - a / 4 + 1)).map fun i => (a / 4 + i) * 4

/-- A beat carries the poison mark. -/
def Dev.poisoned (d : Dev) (beat : Nat) : Bool := smGet false d.mem.poison beat

/-- The controller finds an error in the beat at `a` of channel `c` (13 R346). -/
def Dev.eccDram (d : Dev) (c a : Nat) (e : EccResult) : Dev :=
  let beat := a / 4 * 4
  if d.poisoned beat then d
  else match e with
  | .clean => d
  | .corrected => d.count2 .memStat c 0
  | .transient => d.count2 .memStat c 1
  | .lasting =>
    let d := ((d.markBeat beat true).count2 .memStat c 2).put .memEccLast 0 a
    d.faultEvent 7 c (u64 a)

/-- The block whose private part of chart memory holds an address. -/
def privateBlock (a : Nat) : Option Nat :=
  (List.range 13).find? fun b => match chartPart b with
    | some (lo, n) => decide (lo ≤ a ∧ a < lo + n)
    | none => false

/-- Chart memory has an error at `a` (13 R349): uncorrectable in a private part it is a fault of that engine, in a shared part poison. -/
def Dev.eccChart (d : Dev) (a : Nat) (e : EccResult) : Dev :=
  if e = .lasting then
    match privateBlock a with
    | some b => d.reportFault b 0 1
    | none => d.markBeat (a / 4 * 4) true
  else d

/-- Cartouche memory has an error at `a` (13 R350); there is no second read. -/
def Dev.eccCart (d : Dev) (a : Nat) (e : EccResult) : Dev :=
  if e = .transient ∨ e = .lasting then
    let w := a / 8 * 8
    { d with mem := { d.mem with cartBad := if d.mem.cartBad.contains w then d.mem.cartBad else w :: d.mem.cartBad } }
  else d

/-! ### Reads and writes -/

/-- What reading and writing the parameter fabric does for a master at an address, given by the caller: the bytes read, the effect of a write, and
whether the answer is an error response (19 R503, R509). -/
structure Fabric where
  read : Dev → Nat → Nat → Nat → (Bytes × Bool) × Dev
  write : Dev → Nat → Nat → Bytes → Bool × Dev

/-- A part of a read at its target: data, whether the answer is an error, and whether the data is poisoned (13 R345, R346). -/
def Dev.readAt (d : Dev) (fab : Fabric) (m t a n : Nat) (e : EccResult) : (Bytes × Bool × Bool) × Dev :=
  if 5 ≤ t ∧ t ≤ 8 then
    if (d.chan (t - 5)).faulted then (let (b, d) := d.freshBytes n; ((b, false, true), d))
    else
      let d := d.eccDram (t - 5) a e
      let bad := ((beatsOf a n).filter d.poisoned).length
      ((d.peekN a n, false, decide (0 < bad)), d.count2 .memStat (t - 5) 3 bad)
  else if t = 4 then
    let ((b, err), d) := fab.read d m a n
    ((b, err, false), d)
  else if t = 9 ∨ t = 10 then
    let (b, d) := d.freshBytes n
    ((b, false, false), d)
  else
    let d := if t = 1 then d.eccChart a e else if t = 2 then d.eccCart a e else d
    ((d.peekN (d.homeOf m a) n, false, t == 1 && (beatsOf a n).any d.poisoned), d)

/-- A part of a write at its target: a write that covers a beat clears its mark, poisoned data sets it (13 R346, R348). It tells whether the answer
is an error. -/
def Dev.writeAt (d : Dev) (fab : Fabric) (m t a : Nat) (data : Bytes) (bad : Bool) : Bool × Dev :=
  let marks := fun (d : Dev) => d.each (beatsOf a data.length) fun d b =>
    if bad then d.markBeat b true else if a ≤ b ∧ b + 4 ≤ a + data.length then d.markBeat b false else d
  if 5 ≤ t ∧ t ≤ 8 then (false, if (d.chan (t - 5)).faulted then d else (marks d).poke a data)
  else if t = 1 then (false, (marks d).poke a data)
  else if t = 4 then fab.write d m a data
  else if t = 9 ∨ t = 10 then (false, d.busWrite a data)
  else if t = 0 then
    let h := d.homeOf m a
    (false, if 0x01010000 ≤ h then d.poke h data else d)
  else (false, d.poke a data)

/-- The parts of a read, each answered by itself (13 R363): data, zeros with an error, or poisoned data. -/
def Dev.readParts (d : Dev) (fab : Fabric) (m qos claim : Nat) (kind : AccKind) (e : EccResult) :
    List (Nat × Nat) → List (Nat × Bytes × Bool × Bool) × Dev
  | [] => ([], d)
  | (a, n) :: l =>
    let (t, d) := d.routePart m a qos kind claim
    let (one, d) := match t with
      | none => ((a, zeros n, true, false), d)
      | some t =>
        let ((b, err, p), d) := (d.grantAt t m qos).readAt fab m t a n e
        ((a, if err then zeros n else b, err, p), d)
    let (rest, d) := Dev.readParts d fab m qos claim kind e l
    (one :: rest, d)

/-- A posted write that fails had been acknowledged before (13 R356, R364): it passed the region and permission checks, and its target, or the tag
comparison that waited on the tag cache, came after. -/
def Dev.ackedFirst (d : Dev) (m a claim : Nat) : Bool :=
  posts m && match d.checkPage m (a / 4096) .write (claimOf m claim) with
    | .allow => true
    | .deny _ byTag => byTag && d.fresh.1 % 2 == 1

/-- The parts of a write, each by itself: whether it failed, and whether its acknowledgement says so. -/
def Dev.writeParts (d : Dev) (fab : Fabric) (m claim : Nat) (data : Bytes) (bad : Bool) : List (Nat × Nat) → List (Nat × Bool × Bool) × Dev
  | [] => ([], d)
  | (a, n) :: l =>
    let acked := d.ackedFirst m a claim
    let (t, d) := d.routePart m a (d.qosOf m) .write claim
    let (err, d) := match t with
      | none => (true, d)
      | some t => (d.grantAt t m (d.qosOf m)).writeAt fab m t a (data.take n) bad
    let (rest, d) := Dev.writeParts d fab m claim (data.drop n) bad l
    ((a, err, err && !acked) :: rest, d)

/-- The debug port of a part that detached it makes no access (17 R469). -/
def Dev.detached (d : Dev) (m : Nat) : Bool := m == 23 && d.mem.debugDetached

/-- MEM_READ. -/
def memReadOp (fab : Fabric) (m addr len qos claim : Nat) (fetch : Bool) (e : EccResult) (d : Dev) : Dev :=
  if d.detached m then d
  else
    let (l, d) := d.readParts fab m qos claim (if fetch then .fetch else .read) e (partsOf addr len)
    d.each l fun d x => d.send (.memData m x.1 x.2.1 x.2.2.1 x.2.2.2)

/-- MEM_WRITE. -/
def memWriteOp (fab : Fabric) (m addr claim : Nat) (data : Bytes) (bad : Bool) (d : Dev) : Dev :=
  if d.detached m then d
  else
    let (l, d) := d.writeParts fab m claim data bad (partsOf addr data.length)
    d.each l fun d x => d.send (.memAck m x.1 x.2.2)

/-! ### The DRAM controller (13 R337 to R345) -/

/-- A lasting fault of a channel (13 R345): told, reported, and its reads poisoned from now on. The kind of fault that the record gives for write
CRC is not stated. -/
def Dev.channelFault (d : Dev) (c cause : Nat) : Dev :=
  let d := (d.modChan c fun x => { x with faulted := true }).faultEvent 8 c (u8 cause)
  if cause = 0 then d.reportFault (0x30 + c) 0 2
  else
    let (v, d) := d.fresh
    d.reportFault (0x30 + c) 0 (v % 8)

/-- ALERT_n for a CA parity error (13 R343): replayed, or lasting where it comes during that replay. -/
def caParityOp (c : Nat) (again : Bool) (d : Dev) : Dev :=
  if !d.mem.trained || !bit (d.get .memDramCfg) 56 then d else if again then d.channelFault c 0 else d.count2 .memStat c 4

/-- A write-CRC alert (13 R344): the writes of the window are reissued, or the channel faults on a reissued one. -/
def writeCrcOp (c : Nat) (again : Bool) (d : Dev) : Dev :=
  if !d.mem.trained || !bit (d.get .memDramCfg) 55 then d else if again then d.channelFault c 1 else d.count2 .memStat c 5

/-- A refresh falls due (13 R338, R342): postponed during a panic, four at most, and else made with those postponed. -/
def refreshOp (c : Nat) (d : Dev) : Dev :=
  if !d.mem.trained then d
  else if d.mem.panics.isEmpty then d.modChan c fun x => { x with postponed := 0 }
  else if (d.chan c).postponed < 4 then (d.modChan c fun x => { x with postponed := x.postponed + 1 }).count2 .memStat c 7
  else d

/-- A ZQ calibration falls due (13 R337): deferred while a panic stands. -/
def zqOp (c rank : Nat) (d : Dev) : Dev :=
  if !d.mem.trained then d
  else d.modChan c fun x =>
    { x with zqDeferred := x.zqDeferred.filter (· != rank) ++ if d.mem.panics.isEmpty then [] else [rank] }

/-- A plate raises or clears a panic for an output (13 R342); with the last one, what was deferred runs. -/
def panicOp (o : Nat) (raised : Bool) (d : Dev) : Dev :=
  let was := d.mem.panics.contains o
  if raised then
    if was then d
    else
      let d := d.each [0, 1, 2, 3] fun d c => d.count2 .memStat c 6
      { d with mem := { d.mem with panics := o :: d.mem.panics } }
  else
    let d : Dev := { d with mem := { d.mem with panics := d.mem.panics.filter (· != o) } }
    if d.mem.panics.isEmpty then d.each [0, 1, 2, 3] fun d c => d.modChan c fun x => { x with postponed := 0, zqDeferred := [] } else d

/-- The patrol scrubber reads a line (13 R347); the last line of a channel completes a pass of it. -/
def patrolOp (a : Nat) (e : EccResult) (d : Dev) : Dev :=
  let t := d.targetOf a
  if t < 5 ∨ 8 < t then d
  else
    let c := t - 5
    let d := if (d.chan c).faulted then d else d.eccDram c a e
    let last := dramBase + d.dramBytes - (4 - c) * 2048 + 1984
    if a / 64 * 64 = last then d.count2 .memStat c 8 else d

/-- Training ends (13 R337): by the stored results where they suit, in full otherwise. A failure is a fault of a DRAM channel (which one, and the
kind in its record, are not stated), no unit can use DRAM, and the device is in MAINTENANCE (16 R438). -/
def trainingOp (ok : Bool) (temp : Int) (d : Dev) : Dev :=
  if d.mem.trained || d.rst.stage != .idle || d.rst.maintenance || (dramGibOf (d.get .memDramCfg)).isNone || !bit d.rst.pllGood 4 then d
  else if ok then { d with mem := { d.mem with trained := true, trainTemp := some temp } }
  else
    let (v, d) := d.fresh
    let d := Dev.audit { d with rst := { d.rst with maintenance := true } } 0x000F (u32 (d.rstStatus ||| 2 ^ 31))
    d.reportFault (0x30 + v % 4) 0 (v / 4 % 8)

/-! ### On-die memories, tags, remap, regions -/

/-- The chart scrubber reads a word (13 R349). -/
def chartScrubOp (a : Nat) (e : EccResult) (d : Dev) : Dev := if d.targetOf a = 1 then d.eccChart a e else d

/-- The cartouche scrubber reads a word (13 R350). -/
def cartScrubOp (a : Nat) (e : EccResult) (d : Dev) : Dev := if d.targetOf a = 2 then d.eccCart a e else d

/-- The cartouche pair rewrites an uncorrectable word from its copy and counts the repair (13 R350). -/
def cartRepairOp (a : Nat) (d : Dev) : Dev :=
  let w := a / 8 * 8
  if d.mem.cartBad.contains w then
    { d with mem := { d.mem with cartBad := d.mem.cartBad.filter (· != w), cartRepairs := d.mem.cartRepairs + 1 } }
  else d

/-- TAG_RETAG (13 R360): pages `base` to `limit`; a zero-fill requested with it completes first. -/
def retagOp (base limit tag : Nat) (fill : Bool) (d : Dev) : Dev :=
  if limit < base then d
  else (d.when fill fun d => d.zeroFill (base * 4096) ((limit + 1 - base) * 4096)).retag base limit (tag % 64)

/-- A write of XBR.REMAP (13 R357): only master 0 may. -/
def remapOp (m value : Nat) (d : Dev) : Dev := if m = 0 then { d with mem := { d.mem with remap := value % 2 == 1 } } else d

/-- BND.COMMIT (13 R366): the staged regions of each named master go in force; only the command pair writes it. -/
def bndCommitOp (m mask : Nat) (d : Dev) : Dev :=
  if m ≠ 0 then d
  else d.each ((List.range 24).filter (bit mask)) fun d k =>
    d.each (List.range 32) fun d r =>
      { d with mem := { d.mem with regions := smSet 0 d.mem.regions (k * 32 + r) (smGet 0 d.mem.staged (k * 32 + r)) } }

/-! ### Commands -/

/-- Command DRAM_REFRESH. -/
def execDramRefresh (channel : Nat) (hot : Bool) (s : State) : Host.Outcome State Fault Refusal :=
  onDev (Instr.wellFormed (.dramRefresh channel hot)) (refreshOp channel) s

/-- Command ZQ_CALIBRATION. -/
def execZqCalibration (channel rank : Nat) (s : State) : Host.Outcome State Fault Refusal :=
  onDev (Instr.wellFormed (.zqCalibration channel rank)) (zqOp channel rank) s

/-- Command SCANOUT_PANIC. -/
def execScanoutPanic (out : Nat) (raised : Bool) (s : State) : Host.Outcome State Fault Refusal :=
  onDev (Instr.wellFormed (.scanoutPanic out raised)) (panicOp out raised) s

/-- Command CA_PARITY_ALERT. -/
def execCaParityAlert (channel : Nat) (duringReplay : Bool) (s : State) : Host.Outcome State Fault Refusal :=
  onDev (Instr.wellFormed (.caParityAlert channel duringReplay)) (caParityOp channel duringReplay) s

/-- Command WRITE_CRC_ALERT. -/
def execWriteCrcAlert (channel : Nat) (again : Bool) (s : State) : Host.Outcome State Fault Refusal :=
  onDev (Instr.wellFormed (.writeCrcAlert channel again)) (writeCrcOp channel again) s

/-- Command PATROL_SCRUB. -/
def execPatrolScrub (addr : Nat) (ecc : EccResult) (s : State) : Host.Outcome State Fault Refusal :=
  onDev (Instr.wellFormed (.patrolScrub addr ecc)) (patrolOp addr ecc) s

/-- Command CHART_SCRUB. -/
def execChartScrub (addr : Nat) (ecc : EccResult) (s : State) : Host.Outcome State Fault Refusal :=
  onDev (Instr.wellFormed (.chartScrub addr ecc)) (chartScrubOp addr ecc) s

/-- Command CART_SCRUB. -/
def execCartScrub (addr : Nat) (ecc : EccResult) (s : State) : Host.Outcome State Fault Refusal :=
  onDev (Instr.wellFormed (.cartScrub addr ecc)) (cartScrubOp addr ecc) s

/-- Command CARTOUCHE_REPAIR. -/
def execCartoucheRepair (addr : Nat) (s : State) : Host.Outcome State Fault Refusal :=
  onDev (Instr.wellFormed (.cartoucheRepair addr)) (cartRepairOp addr) s

/-- Command DRAM_TRAINING. -/
def execDramTraining (ok : Bool) (temp : Int) (s : State) : Host.Outcome State Fault Refusal :=
  onDev (Instr.wellFormed (.dramTraining ok temp)) (trainingOp ok temp) s

/-- Command TAG_RETAG. -/
def execTagRetag (base limit tag : Nat) (zeroFill : Bool) (s : State) : Host.Outcome State Fault Refusal :=
  onDev (Instr.wellFormed (.tagRetag base limit tag zeroFill)) (retagOp base limit tag zeroFill) s

/-- Command REMAP_WRITE. -/
def execRemapWrite (master value : Nat) (s : State) : Host.Outcome State Fault Refusal :=
  onDev (Instr.wellFormed (.remapWrite master value)) (remapOp master value) s

/-- Command BND_COMMIT. -/
def execBndCommit (master mask : Nat) (s : State) : Host.Outcome State Fault Refusal :=
  onDev (Instr.wellFormed (.bndCommit master mask)) (bndCommitOp master mask) s

end Sys2Proof.Machine
end

