-- ==== Sys2Proof/Machine/Frames.lean ====
section
/-!
DEFINITION. The frames of an output (07 R165, R166, R181, R192 to R199; 02 R54 to R66): commit points, frame starts, the bands that leave with
their check values, the hold reader, the glyph and sink checks, and the compares of the spare plate.
-/

namespace Sys2Proof.Machine

/-! ### Faults of a plate found by its output -/

/-- A plate (or PLS, 4) fails for good without a further retry (07 R193, R195): failover with its cause, and a fault record judged lasting.
CODE is not stated. -/
def Dev.failNow (d : Dev) (unit cause : Nat) : Dev :=
  let d := d.when (decide (unit < 4)) fun d => d.failover unit cause
  let (c, d) := d.fresh
  let d := d.reportFault unit 0 (c % 256)
  match (if d.flt.handling then d.flt.queue.head? else none) with
  | some f => if f.unit = unit then d.verdictOn f 2 else d
  | none => d

/-- Who hears of a glyph or sink check (02 R67): partner sessions, the tenancy that owns the output and the one that owns its cartouche. -/
def Dev.toOutput (d : Dev) (o : Nat) (s : Session) : Bool :=
  toPartners s || (d.outOwner o != 0 && toOwner (d.outOwner o) s) || (d.cartOwner o != 0 && toOwner (d.cartOwner o) s)

/-! ### The commit point (07 R166, R181) -/

/-- The barrier of 02 R66 on an output: held for the frame at which the device first misses, barred with reason B from the next frame until it rejoins. -/
def Dev.barrierAt (d : Dev) (o : Nat) : Dev :=
  let missed := d.chain.role != 0 && d.chain.missed
  d.modOut o fun x => { x with barrierHold := missed && !(x.barrierHold || x.barrierOut), barrierOut := missed && (x.barrierHold || x.barrierOut) }

/-- A plate begins the frame of an output from band 0, so that armed commits apply (07 R181, 15 R410). -/
def Dev.takesCommits (d : Dev) (o : Nat) : Bool := d.plateComposes o && !(d.out o).barrierHold && !(d.out o).barrierOut

/-- The armed commits, cartouche commits and device-armed actions of an output apply. -/
def Dev.applyAll (d : Dev) (o : Nat) : Dev := ((d.applyCommits o).applyCarts o).tenAtCommit o

/-- FRAME_COMMIT_POINT: commits apply, the SERVICE notice is drawn or not (17 R471), and what the frame shows is selected. -/
def frameCommitOp (o : Nat) (d : Dev) : Dev :=
  if !(d.out o).raster then d
  else
    let d := d.barrierAt o
    let d := if d.takesCommits o then d.applyAll o else d
    let d := d.commitsDone.cartsDone.tenSettle
    let comp := d.composes o && d.plateComposes o && !(d.out o).barrierHold
    let d := d.when (d.plateComposes o && !(d.out o).barrierHold) fun d => d.modOut o fun x => { x with noticeDrawn := d.sec.service.isSome }
    let d := d.when comp fun d => (d.select o).outCount o 0
    d.modOut o fun x => { x with fromBand0 := comp, cp := x.cpNext, cpNext := x.cpNext + 1 }

/-! ### The frame start (07 R165, R191, R196) -/

/-- Frame lock (07 R165, R200): while LOCK is 1 and the time unit is not in FREE_RUN, an error of one line or more re-phases the frame by a line. -/
def Dev.lockFrame (d : Dev) (o : Nat) (errNs : Int) : Dev :=
  let w := d.timing o
  let follows := d.flagF .pltOutCfg o 30 && d.tim.st != .freeRun
  let off := decide (tmHtotal w * 1000000000 ≤ errNs.natAbs * tmPclk w)
  let d := d.when (follows && off) fun d => d.outCount o 5
  let locked := follows && !off
  let was := (d.out o).frameLocked
  let d := d.modOut o fun x => { x with errNs, frameLocked := locked }
  d.when (locked != was) fun d => d.raise toPartners { code := 0xE306, object := o, out := o, data := leBytes 4 (ofSigned 32 errNs), on := locked }

/-- What the frame that has left leaves behind: its FRAME record, its held run, and the heartbeat counters of monitoring streams. -/
def Dev.frameLeft (d : Dev) (o : Nat) : Dev :=
  let d := d.modOut o fun x => { x with heldRun := if x.witnessHeld then x.heldRun + 1 else 0 }
  let d := d.when (!(d.out o).witnessBands.isEmpty) fun d => d.monFrame o
  d.frameRecord o (d.out o).ref0

/-- Composition or the link of the output goes off here (07 R191 rule 4, 08 R223). -/
def Dev.outputOff (d : Dev) (o : Nat) : Dev :=
  if (d.out o).offNext then ((d.modOut o fun x => { x with offNext := false, offCause := true }).recorderOff o).placeStreams else d

/-- The raster of an output stops (07 R181): what is armed on it applies at once. -/
def Dev.stopRaster (d : Dev) (o : Nat) : Dev :=
  ((d.modOut o fun x => { x with raster := false, stopping := false, frameLocked := false }).settleCommits).tenSettle

/-- The next frame begins to leave. -/
def Dev.nextFrame (d : Dev) (o : Nat) : Dev :=
  let band := bits (d.cartCtl o (d.out o).cartBank) 47 32 / 64
  d.modOut o fun x =>
    { x with frame := x.cp, curCommit := x.commitFlag, curCart := x.cartFlag, commitFlag := false, cartFlag := false, witnessTiles := [],
             witnessBands := [], witnessPx := [], witnessHeld := false, glyphBand := band, glyphOk := false }

/-- A plate whose way back is clear takes its outputs back (07 R196, R197). -/
def Dev.takeBack (d : Dev) (p : Nat) : Dev :=
  if (d.plate p).backAtFrame && (d.plate p).resetDone && !d.inReset p then d.failback p else d

/-- FRAME_START: `errNs` is how far the first active line lies from its schedule. -/
def frameStartOp (o : Nat) (errNs : Int) (d : Dev) : Dev :=
  if !(d.out o).raster then d
  else
    let d := (d.frameLeft o).outputOff o
    if (d.out o).stopping then d.stopRaster o
    else (((d.nextFrame o).takeBack (plateOf o)).lockFrame o errNs)

/-! ### The hold reader (02 R64, 07 R194, 16 R447) -/

/-- Bit HOLD of a tile summary. -/
abbrev sumHold : Nat := 0x400
/-- Reason H of a tile summary. -/
abbrev sumH : Nat := 0x20000

/-- A stripe pixel as it is sent on an output. -/
def Dev.stripeSent (d : Dev) (o x y : Nat) : Rgb :=
  let c := stripe (d.depth o) x y
  if d.flagF .lnkDpCfg o 55 then toYcc (d.depth o) c else c

/-- The check value of pixels as sent (02 R54). -/
def checkOf (l : List SentPx) : Nat := crc32c (l.flatMap fun p => (⟨p.r, p.g, p.b⟩ : Rgb).bytes)

/-- The hold reader's band: tiles, pixels and check value. Without a fully witnessed frame, stripes cover the whole active area with reason H. -/
def Dev.heldBand (d : Dev) (o band : Nat) (tRef : Ns) : List (Nat × TileSt) × List SentPx × Nat :=
  let x := d.out o
  let w := d.timing o
  match x.holdFrame with
  | none =>
    let ts := (List.range (d.cols o)).map fun c => (tileKey band c, ({ summary := 0xFFFF <<< 48 ||| sumHold ||| sumH ||| ((d.epoch % 16) <<< 4) } : TileSt))
    let lines := min 64 (tmVactive w - 64 * band)
    let px := (List.range lines).flatMap fun j => (List.range (tmHactive w)).map fun i =>
      let c := d.stripeSent o i (64 * band + j)
      (⟨i, 64 * band + j, c.r, c.g, c.b, false⟩ : SentPx)
    (ts, px, checkOf px)
  | some _ =>
    let past := fun (t : TileSt) => d.flt.safe || t.expiry.any fun e => decide (e < tRef)
    let held := x.holdTiles.filter fun e => e.1 / 32 == band
    let ts := held.map fun e => (e.1, { e.2 with summary := e.2.summary ||| sumHold ||| (if past e.2 then sumH else 0) })
    let struck := (held.filter fun e => past e.2).map (·.1 % 32)
    let px := (smGet [] x.holdPx band).map fun p =>
      if struck.contains (p.x / 256) && !p.cart then (let c := d.stripeSent o p.x p.y; { p with r := c.r, g := c.g, b := c.b }) else p
    (ts, px, if struck.isEmpty then smGet 0 x.holdBands band else checkOf px)

/-! ### Glyph check (02 R56, R65) -/

/-- The result of a glyph check: none passes, 0 FAIL_STEP, 1 FAIL_VALUE. -/
def glyphResult (exp : List Nat) (step v : Nat) : Option Nat :=
  if exp[step % 16]? = some v then none else if exp.contains v then some 0 else some 1

/-- The glyph check of the frame, run where the band that holds the cell leaves: suspended if it comes from the hold reader. -/
def Dev.glyphCheck (d : Dev) (o band : Nat) (held : Bool) : Dev :=
  let x := d.out o
  if !d.flag .datGlyphEn o 0 || band != x.glyphBand then d
  else if held then d.modOut o fun x => { x with glyphOk := false, glyphRun := 0 }
  else
    let v := crc32c (smGet [] x.glyphBytes band)
    let d := (d.put .talValue (8 + o) v).count .talCount (8 + o)
    match glyphResult x.glyphExp x.frame v with
    | none => d.modOut o fun x => { x with glyphOk := true, glyphRun := 0 }
    | some r =>
      let run := x.glyphRun + 1
      let d := d.modOut o fun x => { x with glyphOk := false, glyphRun := run }
      let d := d.raise (d.toOutput o) { code := 0xE401, object := o, out := o, data := u64 x.frame ++ u8 r }
      d.when (decide (2 ≤ run)) fun d => d.failNow (d.driver o) 1

/-! ### Scan-out (02 R54, 07 R194) -/

/-- A band leaves: its tiles, pixels and check value become part of the frame that has left so far, and the band's tally channel reports it. -/
def Dev.bandLeaves (d : Dev) (o band : Nat) (tRef : Ns) (held : Bool) (ts : List (Nat × TileSt)) (px : List SentPx) (check : Nat) : Dev :=
  let d := d.modOut o fun x =>
    { x with witnessTiles := ts.foldl (fun m e => smInsert m e.1 e.2) x.witnessTiles, witnessBands := smInsert x.witnessBands band check,
             witnessPx := smInsert x.witnessPx band px, witnessHeld := x.witnessHeld || held, ref0 := if band = 0 then tRef else x.ref0,
             tiles := x.tiles.filter (fun e => e.1 / 32 != band), bandCheck := smErase x.bandCheck band, bandPx := smErase x.bandPx band,
             bandsDone := x.bandsDone.filter (· != band), heldBands := x.heldBands.filter (· != band) }
  ((d.put .talValue o check).count .talCount o).send (.band o band check held)

/-- The hold writer's copy of a frame is complete with its last band (07 R194): a fully witnessed frame is the one that the hold reader uses. -/
def Dev.holdCopy (d : Dev) (o : Nat) : Dev :=
  let x := d.out o
  if !x.witnessHeld && x.glyphOk && (List.range (d.bands o)).all (fun b => x.witnessBands.any (·.1 == b)) then
    d.modOut o fun x => { x with holdFrame := some x.frame, holdTiles := x.witnessTiles, holdBands := x.witnessBands, holdPx := x.witnessPx }
  else d

/-- BAND_SCANOUT: a composed band leaves as composed, any other from the hold reader; `tRef` is the band's reference time. -/
def bandScanoutOp (o band : Nat) (tRef : Ns) (d : Dev) : Dev :=
  if !d.composes o || decide (d.bands o ≤ band) then d
  else
    let x := d.out o
    let held := !x.bandsDone.contains band || x.heldBands.contains band || d.flt.safe
    let d := d.when held fun d => (d.outCount o 2).when (!x.witnessHeld) fun d => d.outCount o 1
    let d :=
      if held then
        let h := d.heldBand o band tRef
        d.bandLeaves o band tRef true h.1 h.2.1 h.2.2
      else d.bandLeaves o band tRef false (x.tiles.filter fun e => e.1 / 32 == band) (smGet [] x.bandPx band) (smGet 0 x.bandCheck band)
    let d := d.glyphCheck o band held
    if band + 1 = d.bands o then d.holdCopy o else d

/-- BAND_DEADLINE (07 R163): 150 µs before its reference time the band is not complete; it comes from the hold reader, and counts as a fault of the
plate that was to compose it. -/
def bandDeadlineOp (o band : Nat) (d : Dev) : Dev :=
  let x := d.out o
  if !d.composes o || decide (d.bands o ≤ band) || x.bandsDone.contains band || x.heldBands.contains band then d
  else
    let d := d.modOut o fun x => { x with heldBands := band :: x.heldBands }
    if d.plateComposes o && !x.barrierHold then d.reportFault (d.driver o) 0 3 else d

/-! ### The sink's CRCs (02 R57, R58) -/

/-- SINK_CRC_READBACK: the sink's three values, and the part's own of the two most recently completed frames, the last first. -/
def sinkReadbackOp (o : Nat) (sink own : List Nat) (d : Dev) : Dev :=
  if !(d.flag .datSinkCrcEn o 0 && (d.dp o).up && (d.out o).raster) then d
  else
    let ok := sink == own.take 3 || sink == own.drop 3
    let x := d.out o
    let run := if ok then 0 else x.sinkRun + 1
    let lost := if ok then false else x.unwitnessed || decide (d.get .datSinkMismatchLimit o ≤ run)
    let d := d.modOut o fun x => { x with sinkOk := ok, sinkRun := run, unwitnessed := lost, sinkResult := some (sink, own.take 3, ok) }
    let d := d.when (!ok) fun d => d.raise (d.toOutput o)
      { code := 0xE30A, object := o, out := o, data := sink.flatMap u16 ++ (own.take 3).flatMap u16 }
    d.when (lost != x.unwitnessed) fun d => d.raise (d.toOutput o) { code := 0xE30B, object := o, out := o, data := u8 (min 255 run), on := lost }

/-! ### The bench-mark compare (07 R192, R193) and the way back (07 R196) -/

/-- An output may be compared: it composes, its own plate drives it, and it is not held. -/
def Dev.comparable (d : Dev) (o : Nat) : Bool :=
  d.composes o && d.plateUsable (plateOf o) && !(d.plate (plateOf o)).failover && !(d.out o).barrierHold && !d.flt.safe

/-- The check value recorded for a band: of the frame that leaves, or of a composed band that waits. -/
def Dev.bandValue (d : Dev) (o band : Nat) : Option Nat :=
  let x := d.out o
  if x.bandsDone.contains band then some (smGet 0 x.bandCheck band)
  else if x.witnessBands.any (·.1 == band) && !x.witnessHeld then some (smGet 0 x.witnessBands band) else none

/-- Another plate than `p` is active: it drives a comparable output. -/
def Dev.otherPlate (d : Dev) (p : Nat) : Bool := outputNumbers.any fun o => d.comparable o && plateOf o != p

/-- PLS is judged at fault (07 R193). -/
def Dev.benchSpareFails (d : Dev) : Dev := Dev.failNow { d with bench := { d.bench with stage := 0 } } 4 0

/-- The verdict of a compare at its stage: 0 a new band, 1 the same band again, 2 the same band index of another plate. -/
def Dev.benchVerdict (d : Dev) (o band : Nat) (ok : Bool) : Dev :=
  let b := d.bench
  let d : Dev := { d with bench := { b with lfsr := Config.lfsrNext b.lfsr, compares := b.compares + 1, mismatches := if ok then b.mismatches else min 4095 (b.mismatches + 1) } }
  let d := d.outCount o 7
  let to_ := fun (n : Nat) => ({ d with bench := { d.bench with stage := n } } : Dev)
  match b.stage with
  | 0 => if ok then d else { d with bench := { d.bench with stage := 1, out := o, band, plate := plateOf o } }
  | 1 => if ok then to_ 0 else if d.otherPlate b.plate then to_ 2 else d.benchSpareFails
  | _ => if ok then (to_ 0).failNow b.plate 2 else d.benchSpareFails

/-- The compare is the one that R193 asks for next. -/
def Dev.benchExpected (d : Dev) (o band : Nat) : Bool :=
  match d.bench.stage with
  | 0 => true
  | 1 => o == d.bench.out && band == d.bench.band
  | _ => band == d.bench.band && plateOf o != d.bench.plate

/-- BENCH_COMPARE: PLS, being free, has composed the chosen band, whose CRC is `crc`. -/
def benchCompareOp (o band crc : Nat) (d : Dev) : Dev :=
  if !(d.spareOk && d.bench.standIn.isNone && d.comparable o && d.benchExpected o band) then d
  else
    match d.bandValue o band with
    | none => d
    | some v => d.benchVerdict o band (v == crc)

/-- FAILBACK_COMPARE: the recovering plate has composed a band of one of its outputs, which the plate that drives them checks. -/
def failbackCompareOp (p o band crc : Nat) (d : Dev) : Dev :=
  let x := d.plate p
  if !(x.failover && x.resetDone && !d.inReset p && plateOf o == p && d.composes o) then d
  else
    match d.bandValue o band with
    | none => d
    | some v => (d.modPlate p fun x => { x with run := if v = crc then x.run + 1 else 0 }).failbackDue p

/-! ### Commands -/

/-- Command BAND_DEADLINE. -/
def execBandDeadline (out band : Nat) (s : State) : Host.Outcome State Fault Refusal :=
  onDev (Instr.wellFormed (.bandDeadline out band)) (bandDeadlineOp out band) s

/-- Command BAND_SCANOUT. -/
def execBandScanout (out band : Nat) (tRef : Ns) (s : State) : Host.Outcome State Fault Refusal :=
  onDev (Instr.wellFormed (.bandScanout out band tRef)) (bandScanoutOp out band tRef) s

/-- Command SINK_CRC_READBACK. -/
def execSinkCrcReadback (out : Nat) (sink own : List Nat) (s : State) : Host.Outcome State Fault Refusal :=
  onDev (Instr.wellFormed (.sinkCrcReadback out sink own)) (sinkReadbackOp out sink own) s

/-- Command BENCH_COMPARE. -/
def execBenchCompare (out band crc : Nat) (s : State) : Host.Outcome State Fault Refusal :=
  onDev (Instr.wellFormed (.benchCompare out band crc)) (benchCompareOp out band crc) s

/-- Command FAILBACK_COMPARE. -/
def execFailbackCompare (plate out band crc : Nat) (s : State) : Host.Outcome State Fault Refusal :=
  onDev (Instr.wellFormed (.failbackCompare plate out band crc)) (failbackCompareOp plate out band crc) s

end Sys2Proof.Machine
end

