-- ==== Sys2Proof/Machine/Security.lean ====
section
/-!
DEFINITION. Boot, attestation and audit (17): images and directives, the boot ROM, the start of Bursol, the measurement chain, SERVICE, the audit
log's readers, tamper inputs and debug halts.
-/

namespace Sys2Proof.Machine

/-! ### Fuses and measurements (17 R455, R462) -/

/-- SEC.OTP_STATE: the fields of 17 Table 17.1 in its order, ID_KEY left out. -/
def Dev.otpState (d : Dev) : Bytes :=
  let nibble := fun (n : Nat) => 2 ^ (min 4 n) - 1
  u16 (nibble d.sec.fuseOpen + nibble d.sec.fuseSealed * 16 + nibble d.sec.fuseRetired * 256 + nibble d.sec.fuseSpare * 4096)
    ++ padTo 96 d.sec.endorsement ++ padTo 16 Config.serial ++ ([0, 1, 2, 3].flatMap fun i => padTo 48 (smGet [] d.sec.rootHash i))
    ++ u16 (([0, 1, 2, 3].map fun i => nibble (smGet 0 d.sec.rootRevoke i) * 16 ^ i).sum)
    ++ leBytes 16 (2 ^ d.sec.svnBursol - 1) ++ leBytes 4 (2 ^ d.sec.svnService - 1)

/-- The measurement chain is extended by an item (17 R462), with its MEASURE entry. -/
def Dev.measure (d : Dev) (kind : Nat) (dg : Bytes) : Dev :=
  let dg := padTo 48 dg
  Dev.audit { d with sec := { d.sec with meas := padTo 48 (Config.sha384 (d.sec.meas ++ dg)), measCount := (d.sec.measCount + 1) % 2 ^ 16 } }
    0x0002 (u16 kind ++ zeros 6 ++ dg)

/-! ### Signed images (17 R459, R460) -/

/-- A little-endian field of an image. -/
def imgLe (b : Bytes) (off n : Nat) : Nat := leVal ((b.drop off).take n)
/-- LENGTH. -/
def imgLen (b : Bytes) : Nat := imgLe b 12 4
/-- TYPE: 1 Bursol, 2 directive. -/
def imgType (b : Bytes) : Nat := imgLe b 5 1
/-- ROOT_SLOT. -/
def imgSlot (b : Bytes) : Nat := imgLe b 6 1
/-- SVN. -/
def imgSvn (b : Bytes) : Nat := imgLe b 8 1
/-- RELEASE, major in the highest byte of its order of comparison: major, minor, patch, build. -/
def imgRelease (b : Bytes) : Nat := imgLe b 32 4
/-- RELEASE as a number that orders releases. -/
def imgOrder (b : Bytes) : Nat := leVal ((b.drop 32).take 4).reverse
/-- What the signature covers. -/
def imgSigned (b : Bytes) : Bytes := b.take (imgLen b - 96)
/-- The digest that the signature covers. -/
def imgDigest (b : Bytes) : Bytes := padTo 48 (Config.sha384 (imgSigned b))

/-- A root slot is programmed and not revoked. -/
def Dev.rootGood (d : Dev) (slot : Nat) : Bool :=
  decide (slot < 4) && !(smGet [] d.sec.rootHash slot).isEmpty && decide (smGet 0 d.sec.rootRevoke slot < 3)

/-- The signer of an image is one that the part trusts: the manufacturing key in MANUFACTURE, else an unrevoked root slot. -/
def Dev.signerOk (d : Dev) (slot : Nat) (pub : Bytes) : Bool :=
  if slot = 0xFF then d.lifecycle == 0 && padTo 48 (Config.sha384 pub) == padTo 48 Config.manufHash
  else d.rootGood slot && padTo 48 (Config.sha384 pub) == padTo 48 (smGet [] d.sec.rootHash slot)

/-- The first check of R460: form and reserved fields. -/
def imgForm (b : Bytes) : Bool :=
  imgLe b 0 4 == 0x314D4953 && imgLe b 4 1 == 1 && (imgType b == 1 || imgType b == 2) && imgLe b 7 1 / 2 == 0 && imgLe b 9 3 == 0 && imgLe b 44 4 == 0
    && decide (imgSvn b ≤ 128 ∧ 240 ≤ imgLen b ∧ imgLen b ≤ 2 ^ 24 ∧ imgLen b ≤ b.length)
    && (imgType b == 1 || decide (imgLen b = 144 + 52 + 96))

/-- The checks of R460 that need no body, with their statuses. -/
def Dev.headChecks (d : Dev) (b : Bytes) : List (Bool × Nat) :=
  [ (!imgForm b, stBadParam),
    (!d.signerOk (imgSlot b) ((b.drop 48).take 96), stIntegrity) ]

/-- The checks of R460 in order. -/
def Dev.imgChecks (d : Dev) (b : Bytes) : List (Bool × Nat) :=
  d.headChecks b ++
  [ (!Config.ecdsaVerify ((b.drop 48).take 96) (imgSigned b) ((b.drop (imgLen b - 96)).take 96), stIntegrity),
    (decide (imgSvn b < d.sec.svnBursol), stIntegrity),
    (imgType b == 2 && (b.drop 16).take 16 != padTo 16 Config.serial, stNotPermitted) ]

/-- The status of a list of checks: 0 where none fails. -/
def firstFail (l : List (Bool × Nat)) : Nat := ((l.find? (·.1)).map (·.2)).getD stOk

/-- The verdict of R460 on an image. -/
def Dev.imgStatus (d : Dev) (b : Bytes) : Nat := firstFail (d.imgChecks b)

/-- The boot ROM's verdict: a Bursol image, and in MANUFACTURE one signed by the manufacturing key (17 Table 17.2). -/
def Dev.bootStatus (d : Dev) (b : Bytes) : Nat :=
  firstFail ([(imgForm b && imgType b != 1, stBadParam), (imgForm b && d.lifecycle == 0 && imgSlot b != 0xFF, stIntegrity)] ++ d.imgChecks b)

/-! ### The boot ROM (17 R458) -/

/-- The image of a flash slot. -/
def Dev.flashImg (d : Dev) (slot : Nat) : Bytes := smGet [] d.sec.flash slot

/-- A slot's header passes the checks that need no body. -/
def Dev.slotHead (d : Dev) (slot : Nat) : Bool :=
  let b := d.flashImg slot
  firstFail (d.headChecks b) == stOk && imgType b == 1 && !decide (imgSvn b < d.sec.svnBursol) && (d.lifecycle != 0 || imgSlot b == 0xFF)

/-- Slot 1 is taken before slot 0: the higher SVN, then the higher RELEASE. -/
def Dev.slot1First (d : Dev) : Bool :=
  let a := d.flashImg 0
  let b := d.flashImg 1
  decide (imgSvn a < imgSvn b) || (imgSvn a == imgSvn b && decide (imgOrder a < imgOrder b))

/-- The slots in the order in which the boot ROM tries them. -/
def Dev.bootOrder (d : Dev) : List Nat := (if d.slot1First then [1, 0] else [0, 1]).filter d.slotHead

/-! ### Bursol starts (17 R462, R463; 16 R435, R438) -/

/-- The audit log as Bursol finds it at boot (17 R474): the newest entry that verifies, and whether the walk stopped at a partly written slot. -/
def Dev.auditWalk (d : Dev) : Nat → Nat → Bytes → Nat × Bytes × Bool
  | 0, seq, chain => (seq, chain, false)
  | fuel + 1, seq, chain =>
    let e := d.peekN (auditAddr (seq + 1)) 128
    let here := decide (leVal (e.take 8) = seq + 1)
    if here && e.drop 80 == padTo 48 (Config.sha384 (chain ++ e.take 80)) then d.auditWalk fuel (seq + 1) (e.drop 80) else (seq, chain, here)

/-- Bursol finds the end of the log, and notes a torn slot. -/
def Dev.auditBoot (d : Dev) : Dev :=
  let (seq0, chain0) := match d.auditNewer with
    | some (_, _, s, c) => (s, c)
    | none => (0, zeros 48)
  let (seq, chain, torn) := d.auditWalk auditSlots seq0 chain0
  let d : Dev := { d with sec := { d.sec with auditSeq := seq, auditChain := chain } }
  let slot := u32 ((seq + 1) % auditSlots)
  d.when torn fun d => (d.audit 0x0012 slot).raise toPartners { code := 0xED05, object := 0, data := slot }

/-- AO counter ticks at 32.768 kHz. -/
def Dev.aoTicks (d : Dev) : Nat := d.rst.aoTime * 32768 / 1000000000

/-- The device time of an AO tick, where the counter has been paired with the device clock since (17 R477); zero before that. -/
def Dev.aoDevTime (d : Dev) (ticks : Nat) : Bytes :=
  match d.sec.aoPair with
  | some (t, dev) => if t ≤ ticks then tm (dev + (ticks - t) * 1000000000 / 32768) else zeros 8
  | none => zeros 8

/-- A tamper entry is copied into the audit log, and TAMPER is raised. -/
def Dev.copyTamper (d : Dev) (e : Nat) : Dev :=
  (d.audit 0x000D (u64 e ++ d.aoDevTime (bits e 63 24))).raise toPartners { code := 0xED04, object := bits e 23 22, data := u64 e }

/-- Entries that Bursol has not copied are copied, oldest first; what an assertion asked for while Bursol did not run acts now. -/
def Dev.tamperBoot (d : Dev) : Dev :=
  let rest := d.sec.tamperLog.drop (d.sec.tamperLog.length - d.sec.tamperUncopied)
  let d := (d.each rest fun d e => d.copyTamper e)
  let d := d.when d.sec.tamperSafe fun d => d.enterSafe
  let d := d.when d.sec.tamperExit fun d => d.endService 2
  { d with sec := { d.sec with tamperUncopied := 0, tamperSafe := false, tamperExit := false } }

/-- The records of RESET commands in the retained logs reach phase 2 (10 Table 10.9). -/
def Dev.resetRecorded (d : Dev) : Dev :=
  { d with travLogs := d.travLogs.map fun l => (l.1, l.2.map fun (r : Rec) =>
      if r.opcode = 0x0E02 ∧ r.status = stOk ∧ r.phase = 1 then { r with phase := 2 } else r) }

/-- RESET_DONE (16 R454). -/
def Dev.resetDone (d : Dev) : Dev := d.resetRecorded.faultEvent 5 0 (u32 d.rstCause ++ u32 d.rstStatus)

/-- The cartouche pair is released (17 R463): its section measured, its part of core SRAM no longer writable by master 0. -/
def Dev.releaseCart (d : Dev) (img : Bytes) : Dev :=
  let d := d.measure 5 (Config.sha384 ((img.drop (imgLe img 36 4)).take (imgLe img 40 4)))
  let d := d.setRegion 0 0 (regionWord Config.cartPart.1 Config.cartPart.2 true false 1)
  { d with sec := { d.sec with cartReleased := true } }

/-- The copy of the option words in use, or 48 zero bytes for safe defaults (17 Table 17.4). -/
def Dev.optionDigest (d : Dev) : Bytes :=
  if d.rst.optSrc = 2 then zeros 48
  else
    let a := optAddr (d.rst.optSrc == 1)
    Config.sha384 (d.peekN a (20 + 16 * d.peekLe (a + 5) 1))

/-- Bursol starts from an image: the audit log is found, the boot and the measured items are logged, the cartouche pair released, the regions of
the debug master programmed, the core regulator commanded (18 R485), tamper entries copied. -/
def Dev.startBursol (d : Dev) (img : Bytes) (uploaded : Bool) : Dev :=
  let run : Running := { digest := imgDigest img, svn := imgSvn img, release := imgRelease img, commitSvn := imgLe img 7 1 % 2 == 1, uploaded,
                         since := d.tim.elapsed }
  let d : Dev := { d with rst := { d.rst with bursol := true }
                          sec := { d.sec with running := run, mailbox := {}, idKey := d.sec.idKey || d.lifecycle == 0, aoPair := some (d.aoTicks, d.now) } }
  let d := d.auditBoot
  let d := d.audit 0x0001 (u32 d.rstCause ++ u32 d.rstStatus ++ u32 run.release)
  let d := ((d.measure 1 (Config.sha384 ((List.range 65536).map fun i => BitVec.ofNat 8 (Config.bootRom i)))).measure 2 (Config.sha384 d.otpState))
  let d := (d.measure 3 d.optionDigest).measure 4 run.digest
  let d := d.releaseCart img
  let d := d.when d.rst.maintenance fun d => d.audit 0x000F (u32 d.rstStatus)
  (((d.setDebugRegions).setVcore Config.vcoreFuse false).tamperBoot).resetDone

/-- The slots tried in order; one that fails in full is logged (17 R478), and with none valid the ROM waits for an upload. -/
def Dev.bootFrom (d : Dev) (bad : List (Nat × Nat)) : List Nat → Dev
  | [] => { d with sec := { d.sec with mailbox := { waiting := true } } }
  | s :: rest =>
    let img := d.flashImg s
    let st := d.bootStatus img
    if st = stOk then
      (d.startBursol img false).each bad fun d e =>
        let b := d.flashImg e.1
        d.audit 0x0005 (u8 e.1 ++ u8 (imgSvn b) ++ u16 e.2 ++ u32 (imgRelease b) ++ (imgDigest b).take 32)
    else d.bootFrom (bad ++ [(s, st)]) rest

/-! ### After a CORE reset (16 R435) -/

/-- A command that was in flight replies FAULTED with the phase it reached, and its traverse carries RESET. -/
def Dev.endByReset (d : Dev) (port sid : Nat) (r : Rec) : Dev :=
  let d := d.modRec port sid r.seq fun x => { x with rst := true }
  if r.replied then d.finish port sid r.seq stFaulted r.phase false true else d.finishReply port sid r.seq { st := stFaulted, ph := r.phase }

/-- Every command in flight ends. -/
def Dev.endInFlight (d : Dev) : Dev :=
  let d := d.each d.sessions fun d s => d.each (s.recs.filter fun r => r.slot == .run) fun d r => d.endByReset s.port s.sid r
  let d := d.each d.orphans fun d o =>
    match d.recOf o.1 o.2.1 o.2.2 with
    | some r => (d.modRec o.1 o.2.1 o.2.2 fun x => { x with rst := true }).finish o.1 o.2.1 o.2.2 stFaulted r.phase false true
    | none => d
  { d with orphans := [], sessions := d.sessions.map fun s => { s with waiting := [] } }

/-- A tenancy command that is cut short keeps its completed phases and stops: a creation past phase 2 leaves INCOMPLETE (11 R294). -/
def Dev.stopRuns (d : Dev) : Dev :=
  d.each tenNumbers fun d n =>
    let t := d.ten n
    match t.runs.find? fun (r : TenRun) => r.job = .create ∨ r.job = .restore with
    | some r => if r.phase ≤ 1 then d.setTen n {} else d.setTen n { t with st := .incomplete, closed := true, runs := [] }
    | none => if t.runs.isEmpty then d else d.setTen n { t with runs := [] }

/-- Bursol runs again after a CORE reset: item 6 is measured from its copy. -/
def Dev.restartBursol (d : Dev) : Dev :=
  let d : Dev := { d with rst := { d.rst with bursol := true }, sec := { d.sec with cartReleased := true } }
  (d.measure 6 d.sec.running.digest).endInFlight.stopRuns.tamperBoot.resetDone

/-- BURSOL_START: after a CORE reset Bursol runs again; after a deeper one the boot ROM, running once PLL_CTL is locked, looks for an image. -/
def bursolStartOp (d : Dev) : Dev :=
  if d.rst.stage != .idle || d.rst.bursol || d.bsh.st = .standby then d
  else if d.rst.level = 3 && !d.sec.running.digest.isEmpty then d.restartBursol
  else if d.sec.mailbox.waiting || !bit d.rst.pllGood 2 then d
  else d.bootFrom [] d.bootOrder

/-- BOOT_MAILBOX_GO (17 R461): `image` is what the read of LEN bytes from ADDR returns. After a rejection the ROM waits for the next GO. -/
def bootMailboxOp (addr len : Nat) (image : Bytes) (d : Dev) : Dev :=
  if !d.sec.mailbox.waiting then d
  else
    let st := d.bootStatus image
    if st = stOk then d.startBursol image true
    else { d with sec := { d.sec with mailbox := { waiting := true, status := 2, code := st, addr, len } } }

/-- SVN_COMMIT_TIMER (17 R464): 600 s without a CORE reset since boot. -/
def svnCommitOp (d : Dev) : Dev :=
  let r := d.sec.running
  if d.alive && r.commitSvn && !r.coreReset && decide (d.sec.svnBursol < r.svn) then
    Dev.audit { d with sec := { d.sec with svnBursol := r.svn } } 0x0004 (u8 3 ++ u8 0 ++ u16 r.svn)
  else d

/-! ### FIRMWARE_STAGE (17 R465) -/

/-- The staged bytes; a byte that no command has staged reads as zero. -/
def Dev.stagedImage (d : Dev) : Bytes :=
  let len := leVal ((List.range 4).map fun i => smGet 0 d.sec.staging (12 + i))
  (List.range (min len d.sec.stagedLen)).map fun i => smGet 0 d.sec.staging i

/-- Data placed in the staging buffer. -/
def Dev.stage (d : Dev) (off : Nat) (data : Bytes) : Dev :=
  let put := fun (m : List (Nat × Byte)) (e : Nat × Byte) => smSet 0 m (off + e.1) e.2
  { d with sec := { d.sec with staging := ((List.range data.length).zip data).foldl put d.sec.staging, stagedLen := max d.sec.stagedLen (off + data.length) } }

/-- The flash slot to which an image is written: the one that holds the older image, or slot 1 where that one is invalid. -/
def Dev.stageSlot (d : Dev) : Nat :=
  let older := if d.slot1First then 0 else 1
  if d.slotHead older then older else 1

/-- A directive's KIND, ARG, VALUE and HASH (17 Table 17.6). -/
def dirKind (b : Bytes) : Nat := imgLe b 144 1
/-- ARG. -/
def dirArg (b : Bytes) : Nat := imgLe b 145 1
/-- VALUE. -/
def dirValue (b : Bytes) : Nat := imgLe b 146 2
/-- HASH. -/
def dirHash (b : Bytes) : Bytes := (b.drop 148).take 48

/-- SEALED and SERVICE are one state of the fuses. -/
def Dev.fuseState (d : Dev) : Nat := if d.lifecycle = 3 then 2 else d.lifecycle

/-- A directive that the part refuses, with its status: a KIND or ARG outside Table 17.6, or a case of R465. The same directive again blows no
further fuse (R456). -/
def Dev.dirStatus (d : Dev) (b : Bytes) : Nat :=
  let a := dirArg b
  match dirKind b with
  | 1 =>
    if 4 ≤ a then stBadParam
    else if !(smGet [] d.sec.rootHash a).isEmpty && smGet [] d.sec.rootHash a != dirHash b then stNotPermitted else stOk
  | 2 => if 4 ≤ a then stBadParam else if [0, 1, 2, 3].any fun i => i != a && d.rootGood i then stOk else stNotPermitted
  | 3 =>
    if 2 ≤ a then stBadParam
    else
      let cur := if a = 0 then d.sec.svnBursol else d.sec.svnService
      if dirValue b < cur ∨ (if a = 0 then 128 else 32) < dirValue b then stNotPermitted else stOk
  | 4 =>
    if a ≠ 1 ∧ a ≠ 2 ∧ a ≠ 4 then stBadParam
    else if a < d.fuseState ∨ (a = 1 ∧ (!d.sec.idKey ∨ [0, 1, 2, 3].all fun i => (smGet [] d.sec.rootHash i).isEmpty)) then stNotPermitted
    else stOk
  | _ => stBadParam

/-- SET_LIFECYCLE: the fuses are blown, the change logged and raised, debug access follows; RETIRED enters MAINTENANCE (16 R438). -/
def Dev.setLifecycle (d : Dev) (target port : Nat) (digest : Bytes) : Dev :=
  let old := d.lifecycle
  let d : Dev := { d with sec := match target with
    | 1 => { d.sec with fuseOpen := 4 }
    | 2 => { d.sec with fuseSealed := 4 }
    | _ => { d.sec with fuseRetired := 4 } }
  if d.lifecycle = old then d
  else
    let d := d.audit 0x0003 (u8 old ++ u8 d.lifecycle ++ zeros 2 ++ digest.take 32) port 0
    let d := (d.raise toPartners { code := 0xED00, object := 0, data := u8 old ++ u8 d.lifecycle }).setDebugRegions
    if d.lifecycle = 4 then
      let d : Dev := { d with rst := { d.rst with maintenance := true } }
      d.audit 0x000F (u32 d.rstStatus)
    else d

/-- A directive is applied: fuses blown, logged, and item 8 measured. -/
def Dev.applyDirective (d : Dev) (b : Bytes) (port : Nat) : Dev :=
  let a := dirArg b
  let fuse := fun (d : Dev) => d.audit 0x0004 (u8 (dirKind b) ++ u8 a ++ u16 (dirValue b)) port 0
  let d := match dirKind b with
    | 1 => if (smGet [] d.sec.rootHash a).isEmpty then fuse { d with sec := { d.sec with rootHash := smSet [] d.sec.rootHash a (dirHash b) } } else d
    | 2 => if smGet 0 d.sec.rootRevoke a < 3 then fuse { d with sec := { d.sec with rootRevoke := smSet 0 d.sec.rootRevoke a 4 } } else d
    | 3 =>
      if a = 0 then (if d.sec.svnBursol < dirValue b then fuse { d with sec := { d.sec with svnBursol := dirValue b } } else d)
      else (if d.sec.svnService < dirValue b then fuse { d with sec := { d.sec with svnService := dirValue b } } else d)
    | _ => d.setLifecycle a port (imgDigest b)
  d.measure 8 (imgDigest b)

/-- What FIRMWARE_STAGE tells of an image (17 Table 17.10), and the FIRMWARE entry of one that was written or failed with INTEGRITY. -/
def Dev.firmwareDone (d : Dev) (slot st : Nat) (b : Bytes) (port : Nat) : Dev :=
  let d := d.when ((st == stOk && slot != 0xFF) || st == stIntegrity) fun d =>
    d.audit 0x0005 (u8 slot ++ u8 (imgSvn b) ++ u16 st ++ u32 (imgRelease b) ++ (imgDigest b).take 32) port 0
  d.raise toPartners { code := 0xED03, object := slot, data := u16 st ++ u8 (imgSvn b) ++ u8 0 ++ u32 (imgRelease b) }

/-- FIRMWARE_STAGE: data is staged; with FINAL the image is checked and acted on. -/
def firmwareStageOp (c : Ctx) (off : Nat) (final : Bool) (data : Bytes) (d : Dev) : Answer :=
  checked [(!c.ses.mediator, stNotPermitted), (decide (2 ^ 24 < off + data.length), stBadParam)] d fun d =>
  let d := d.stage off data
  if !final then (some rOk, d)
  else
    let b := d.stagedImage
    let st := d.imgStatus b
    let dir := imgType b == 2
    let slot := if dir then 0xFF else d.stageSlot
    let st := if st = stOk ∧ dir then d.dirStatus b else st
    let d := d.firmwareDone slot st b c.ses.port
    if st ≠ stOk then refuse st d
    else if dir then (some rOk, d.applyDirective b c.ses.port)
    else (some rOk, { d with sec := { d.sec with flash := smSet [] d.sec.flash slot b } })

/-! ### ATTEST and AUDIT_READ (17 R466, R475) -/

/-- The first 376 bytes of a quote (17 Table 17.5). -/
def Dev.quote (d : Dev) (nonce : Bytes) : Bytes :=
  let r := d.sec.running
  u32 0x31545141 ++ u8 1 ++ u8 d.lifecycle ++ u8 d.sec.svnBursol ++ u8 d.sec.svnService ++ padTo 16 Config.serial ++ padTo 32 nonce ++ u32 r.release
    ++ u16 d.sec.measCount ++ u16 (d.sec.serviceSinceBoot.toNat + 2 * d.rst.maintenance.toNat + 4 * r.uploaded.toNat) ++ tm d.now ++ u32 d.rstCause
    ++ u64 d.sec.auditSeq ++ zeros 4 ++ padTo 48 d.sec.meas ++ padTo 48 d.sec.auditChain ++ padTo 96 Config.idPublicKey ++ padTo 96 d.sec.endorsement

/-- ATTEST: refused in RETIRED, where the signing engine refuses ID_KEY (17 R457). -/
def attestOp (nonce : Bytes) (d : Dev) : Answer :=
  checked [(d.lifecycle == 4, stNotPermitted), (nonce.length != 32, stBadParam)] d fun d =>
  let q := d.quote nonce
  (some (rRead (q ++ padTo 96 (Config.ecdsaSign 0 q))), d)

/-- The oldest entry held. -/
def Dev.auditOldest (d : Dev) : Nat := if d.sec.auditSeq < auditSlots then min 1 d.sec.auditSeq else d.sec.auditSeq + 1 - auditSlots

/-- The entry with which AUDIT_READ begins: the one whose low 32 bits are FROM, or the oldest held where that one has been overwritten. -/
def Dev.auditFrom (d : Dev) (first : Nat) : Nat :=
  let new := d.sec.auditSeq
  let s := if serialGt 32 first new then new + (first + 2 ^ 32 - new % 2 ^ 32) % 2 ^ 32 else new - (new % 2 ^ 32 + 2 ^ 32 - first) % 2 ^ 32
  max d.auditOldest s

/-- AUDIT_READ. -/
def auditReadOp (c : Ctx) (first count : Nat) (d : Dev) : Answer :=
  checked [(!c.ses.mediator, stNotPermitted), (decide (d.maxLen c.ses.port < 28 + 16 + 128 * count), stBadParam)] d fun d =>
  let s := d.auditFrom (first % 2 ^ 32)
  let l := (List.range (min count (d.sec.auditSeq + 1 - s))).map (s + ·)
  (some (rRead (u64 d.auditOldest ++ u64 d.sec.auditSeq ++ (if d.sec.auditSeq = 0 then [] else l.flatMap fun k => d.peekN (auditAddr k) 128))), d)

/-! ### SERVICE (17 R470 to R472) -/

/-- SERVICE_CHALLENGE. -/
def serviceChallengeOp (c : Ctx) (d : Dev) : Answer :=
  checked [(!c.ses.mediator, stNotPermitted), (d.lifecycle != 2, stNotPermitted)] d fun d =>
  let (b, d) := d.freshBytes 32
  let t := d.now + 60000000000
  (some (rRead (b ++ padTo 16 Config.serial ++ u8 d.sec.svnService ++ zeros 3 ++ tm t)), { d with sec := { d.sec with challenge := some (b, t) } })

/-- The checks of SERVICE_ENTER on its 396 bytes. -/
def Dev.serviceChecks (d : Dev) (r : Bytes) : List (Bool × Nat) :=
  let f := fun (off n : Nat) => (r.drop off).take n
  let chal := d.sec.challenge.filter fun x => decide (d.now ≤ x.2)
  let gen := leVal (f 196 4)
  let serial := padTo 16 Config.serial
  [ (d.lifecycle != 2 || chal.isNone, stNotPermitted),
    (r.length != 396 || !decide (60 ≤ leVal (f 200 4) ∧ leVal (f 200 4) ≤ 28800), stBadParam),
    (!d.rootGood (leVal (f 0 1)), stIntegrity),
    (padTo 48 (Config.sha384 (f 4 96)) != padTo 48 (smGet [] d.sec.rootHash (leVal (f 0 1))), stIntegrity),
    (!Config.ecdsaVerify (f 4 96) (f 100 96 ++ f 196 4 ++ serial) (f 204 96), stIntegrity),
    (!Config.ecdsaVerify (f 100 96) ((chal.map (·.1)).getD [] ++ serial ++ f 200 4) (f 300 96), stIntegrity),
    (decide (gen < d.sec.svnService), stIntegrity) ]

/-- SERVICE_ENTER: every outcome consumes the challenge and is logged; phase 2 enters SERVICE. -/
def serviceEnterOp (c : Ctx) (r : Bytes) (d : Dev) : Answer :=
  checked [(!c.ses.mediator, stNotPermitted)] d fun d =>
  let st := firstFail (d.serviceChecks r)
  let gen := leVal ((r.drop 196).take 4)
  let dur := leVal ((r.drop 200).take 4)
  let d : Dev := { d with sec := { d.sec with challenge := none } }
  let d := d.audit 0x0006 (u8 (if st = stOk then 0 else 2) ++ u16 st ++ u32 gen) c.ses.port 0
  if st ≠ stOk then refuse st d
  else
    let d : Dev := { d with sec := { d.sec with service := some { gen, durationS := dur, since := d.tim.elapsed }, serviceSinceBoot := true } }
    let d := (d.measure 7 (Config.sha384 r)).setDebugRegions
    (some rOk, d.raise toPartners { code := 0xED01, object := c.ses.port, data := u32 gen ++ u32 dur })

/-- SERVICE_EXIT. -/
def serviceExitOp (c : Ctx) (d : Dev) : Answer :=
  checked [(!c.ses.mediator, stNotPermitted), (d.sec.service.isNone, stNotPermitted)] d fun d => (some rOk, d.endService 0)

/-! ### Tamper inputs (17 R476, R477) -/

/-- RST.BACKUP[0] to [23] and retained SRAM 0x0000 to 0x0FFF are cleared. -/
def Dev.eraseAo (d : Dev) : Dev :=
  let d := d.each (List.range 24) fun d i => d.put .rstBackup i 0
  { d with regs := d.regs.filter fun e => !(List.range 4096).any fun i => e.1 == Par.rstAoSram.key i false }

/-- The entry of an edge: AO_TIME, INPUT, ASSERT, OVF, device state. -/
def Dev.tamperEntry (d : Dev) (input : Nat) (assertion ovf : Bool) : Nat :=
  ((d.aoTicks % 2 ^ 40) <<< 24) + (input <<< 22) + (assertion.toNat <<< 21) + (ovf.toNat <<< 20) + (d.bsh.st.code <<< 17)

/-- TAMPER_EDGE: an assertion or a release that passed the filter. -/
def tamperOp (input : Nat) (assertion : Bool) (d : Dev) : Dev :=
  let cfg := d.get .secTamperCfg input
  if !bit cfg 15 then d
  else
    let ovf := decide (16 ≤ d.sec.tamperLog.length)
    let e := d.tamperEntry input assertion ovf
    let d : Dev := { d with sec := { d.sec with tamperLog := (if ovf then d.sec.tamperLog.drop 1 else d.sec.tamperLog) ++ [e] } }
    let d := if d.alive then d.copyTamper e else { d with sec := { d.sec with tamperUncopied := min 16 (d.sec.tamperUncopied + 1) } }
    if !assertion then d
    else
      let d := d.when (bit cfg 6) fun d => d.eraseAo
      let d := d.when (bit cfg 7) fun d => if d.alive then d.enterSafe else { d with sec := { d.sec with tamperSafe := true } }
      let d := d.when (bit cfg 5) fun d => if d.alive then d.endService 2 else { d with sec := { d.sec with tamperExit := true } }
      d.when (d.flag .bshNightCfg 0 (20 + input)) fun d => d.wake

/-! ### Debug (17 R468) -/

/-- A core may be halted from outside in this lifecycle state: cores 0 and 1 are the command pair, 2 and 3 the cartouche pair. -/
def Dev.mayHalt (d : Dev) (core : Nat) : Bool :=
  !d.mem.debugDetached &&
  match d.lifecycle with
  | 2 => false
  | 3 => decide (core < 2)
  | _ => true

/-- DEBUG_HALT: a core is halted, or released. -/
def debugHaltOp (core : Nat) (halt : Bool) (d : Dev) : Dev :=
  if halt then
    if d.mayHalt core && !d.rst.halted.contains core then { d with rst := { d.rst with halted := core :: d.rst.halted } } else d
  else { d with rst := { d.rst with halted := d.rst.halted.filter (· != core) } }

/-- The command pair runs: neither of its cores is halted. -/
def Dev.cmdPairRuns (d : Dev) : Bool := !d.rst.halted.contains 0 && !d.rst.halted.contains 1

/-! ### Commands -/

/-- Command SVN_COMMIT_TIMER. -/
def execSvnCommitTimer (s : State) : Host.Outcome State Fault Refusal := onDev (Instr.wellFormed .svnCommitTimer) svnCommitOp s

end Sys2Proof.Machine
end

