-- ==== Sys2Proof/Machine/ParamRead.lean ====
section
/-!
DEFINITION. Reading parameters (19 R501 to R512): the value a parameter shows, who may read it, and PARAM_READ.
-/

namespace Sys2Proof.Machine

/-! ### Parameters that show what the device keeps elsewhere -/

/-- A block of 19 Table 19.4 whose units are all absent. -/
def Dev.blockAbsent (d : Dev) (blk : Nat) : Bool :=
  if blk = 9 then !([9, 10, 11, 12].any d.present)
  else if blk = 12 then !d.present 20
  else if blk = 16 then !d.present 19
  else if blk = 17 then !d.present 18
  else if blk = 18 then !d.present 17
  else if blk = 24 then !(d.present 15 || d.present 16)
  else false

/-- A status word of a block that is in reset reads its reset value (19 R510). -/
def Dev.statusReset (d : Dev) (p : Par) (e : Nat) : Bool :=
  match p with
  | .decEngStatus => d.inReset (5 + e)
  | .grtStatus => d.inReset 13
  | .mdkStatus => d.inReset (24 + e)
  | .lnkDpStatus => d.inReset (32 + e)
  | .pltBmStatus => d.inReset 4
  | _ => false

/-- The retained SRAM (16 Table 16.9): fault records, Bursol's COUNT and CORE reset times, the traverse logs, around what sessions keep. -/
def Dev.aoByte (d : Dev) (u : Nat) : Nat :=
  let at_ := fun (l : Bytes) (k : Nat) => (l.getD k 0).toNat
  if u < 0x1000 then d.get .rstAoSram u
  else if u < 0x1800 then at_ (d.flt.retained.flatMap FaultRec.bytes) (u - 0x1000)
  else if u < 0x1A00 then at_ (u32 d.chain.resetCount ++ d.rst.coreTimes.flatMap u64) (u - 0x1800)
  else at_ ((List.range 6).flatMap fun p => padTo 256 ((d.travLog p).flatMap fun r => r.bytes false)) (u - 0x1A00)

/-- The value of stored unit `u` of element `e` as it is kept where no field of the device holds it. -/
def Dev.kept (d : Dev) (p : Par) (inForce : Bool) (e u : Nat) : Nat :=
  if inForce then d.getF p (p.info.slot e u) else d.get p (p.info.slot e u)

/-- What stored unit `u` of element `e` shows (of a shadowed parameter, its shadow copy unless `inForce`). -/
def Dev.view (d : Dev) (p : Par) (inForce : Bool) (e u : Nat) : Nat :=
  let x := d.kept p inForce e u
  match p with
  | .blockInfo blk =>
    if d.blockAbsent blk || decide (blk < 1 ∨ 26 < blk) then 0
    else (blk <<< 56) + (1 <<< 48) + ((Config.paramCount blk % 4096) <<< 36)
  | .sysUnits => d.units
  | .sysIndSel | .sysIndData0 | .sysIndData1 | .sysIndData2 => 0
  | .sysFont => Config.fontByte u % 256
  | .bshCfg => x
  | .bshStatus => d.bshStatus
  | .rstCause => d.rstCause
  | .rstStatus => d.rstStatus
  | .rstBlkSrst => d.rst.blkSrst
  | .rstBlkInreset => (((List.range 40).filter d.inReset).map (2 ^ ·)).sum
  | .rstBlkDefer => d.rst.blkDefer
  | .rstAoSram => d.aoByte u
  | .sesPortCfg =>
    let k := (d.prt e).key
    setBit (setBit x 61 k.isSome) 60 (k.any fun k => k.kind == 1)
  | .tenStatus => if e = 0 then 0 else d.tenStatus e
  | .tenGrant => if e = 0 then 0 else ((d.ten e).grant.getD u 0).toNat
  | .srcDetect => d.detect e
  | .srcStatus => d.srcStatus e
  | .timNow => fullTime d.now
  | .timStatus => d.timStatus
  | .timOffsetNs => ofSigned 64 d.tim.offset
  | .timAdj => d.tim.adj.toNat
  | .timStepLog => d.stepLog e
  | .timUtcOffset => d.tim.utcOffset
  | .timSmpteSm => d.tim.smpte
  | .timTsiFifo => ((d.tsi e).fifo.head?).getD 0
  | .decStatus => d.decStatus e
  | .decEngStatus => d.engStatus e
  | .pltOutFrame => (d.out e).frame
  | .pltBmStatus => d.bmStatus
  | .carState => d.carState e
  | .grtStatus => d.touchStatus e
  | .audAlertCfg => if d.alertHolder = 0 then setBit x 31 false else x
  | .xbrRemap => d.mem.remap.toNat
  | .bndRegion => smGet 0 d.mem.regions e
  | .bndViol => ((d.mem.viol.head?).map Viol.word).getD 0
  | .talCfg => d.talCfgRead e
  | .talStatus => d.talStatus e
  | .lnkDpStatus => d.dpStatus e
  | .mdkStatus => d.mdkStatus e
  | .secOtpState => (d.otpState.getD u 0).toNat
  | .secMeas => (d.sec.meas.getD u 0).toNat
  | .secMeasCount => d.sec.measCount
  | .secTamperLog => d.sec.tamperLog.getD e 0
  | .fltQuar => d.fltQuar
  | .fltLog => ((d.flt.log[e]?).map fun r => leVal r.bytes).getD 0
  | _ => x

/-- What a read returns of a stored unit: zero for an absent unit (00 R3), the reset value of a status word in reset, zeros in write-only fields. -/
def Dev.shown (d : Dev) (p : Par) (inForce : Bool) (e u : Nat) : Nat :=
  if !d.parPresent p e then 0
  else if d.statusReset p e then p.resetVal (p.info.slot e u)
  else (p.info.fields.filter fun f => f.acc = .wo).foldl (fun v f => setBits v f.hi f.lo 0) (d.view p inForce e u)

/-- The byte at a byte offset of a value (19 R502): zero between elements. -/
def Dev.parByte (d : Dev) (p : Par) (inForce : Bool) (off : Nat) : Byte :=
  match p.info.place off with
  | none => 0
  | some (e, u, b) => BitVec.ofNat 8 (d.shown p inForce e u >>> (8 * b))

/-- The bytes of a value from an offset on. -/
def Dev.parBytes (d : Dev) (p : Par) (inForce : Bool) (off n : Nat) : Bytes := (List.range n).map fun i => d.parByte p inForce (off + i)

/-! ### Who may read (19 R511, R512) -/

/-- The owner of the source of a camera pipe. -/
def Dev.pipeOwner (d : Dev) (c : Nat) : Nat :=
  match d.srcOn 4 c with
  | some n => d.srcOwner n
  | none => 0

/-- Tenancy `n` owns a source or has been granted it. -/
def Dev.srcSeen (d : Dev) (n s : Nat) : Bool := d.srcOwner s == n || d.srcGranted n s

/-- Tenancy `n` owns an output or has been granted it. -/
def Dev.outSeen (d : Dev) (n o : Nat) : Bool := d.outOwner o == n || d.outGranted n o

/-- Tenancy `n` owns a layer. -/
def Dev.laySeen (d : Dev) (n l : Nat) : Bool := d.fld .pltLayerCfg l 7 4 == n || d.fldF .pltLayerCfg l 7 4 == n

/-- Tenancy `n` holds a region of a front-end, or (at 4) a self-capacitance channel. -/
def Dev.feSeen (d : Dev) (n t : Nat) : Bool :=
  if t < 4 then (grantRegions (d.ten n).grant).any fun r => r.1 == t else d.gLe n 32 2 != 0

/-- A tenancy session may read element `e` of a parameter: of the device as a whole, or of an object that it owns or has been granted. -/
def Dev.tenMayRead (d : Dev) (n : Nat) (p : Par) (e : Nat) : Bool :=
  match p with
  | .blockInfo _ | .sysUnits | .sysIndSel | .sysIndData0 | .sysIndData1 | .sysIndData2 | .sysFont
  | .timNow | .timStatus | .timOffsetNs | .timAdj | .timStepLog | .timUtcOffset | .timSmpteSm
  | .bshCost | .bshTemp | .bshStatus | .bshAccount | .bshDebt | .bshStat => true
  | .bshSrcPrio | .srcCfg | .srcName | .srcDst | .srcFilter | .srcSsrc | .srcMediaOff | .srcFmt | .srcDetect | .srcAllow | .srcJbMs | .srcLateMs
  | .srcLossMs | .srcBufKib | .srcStatus | .decCfg | .decStatus | .datProofCfg | .mdkMirror => d.srcSeen n e
  | .srcStat => d.srcSeen n (e / 14)
  | .decStat => d.srcSeen n (e / 18)
  | .datSentRect => d.srcSeen n (e / 2)
  | .srcDpiEdid => (d.srcOn 3 e).any fun s => d.srcSeen n s
  | .encMonCfg | .encDst | .encUdpPort => d.monOwner e == n
  | .encRc => d.monOwner (e / 6) == n
  | .ipuPortCfg | .ipuCamCfg | .ipuOutCfg | .ipuMergeSat | .ipuMergeBand | .ipuTapEn => d.pipeOwner e == n
  | .ipuTapRing => d.pipeOwner (e / 6) == n
  | .ipuEmbSel => d.pipeOwner (e / 4) == n
  | .ipuStat => d.pipeOwner (e / 11) == n
  | .pltOutCfg | .pltOutPhase | .pltPostLut | .pltOutFrame | .pltSliceDmin | .pltHoldBase | .lnkDpCfg | .lnkDpTiming | .lnkDpEdid | .lnkDpStatus
  | .datSinkCrcEn | .datSinkCrcPeriod | .datSinkMismatchLimit | .datGlyphEn | .witCfg | .witDst | .witUdpPort | .witAckPort | .witAckKey
  | .witAckTimeoutMs | .witMetaRetainS | .witVideoRetainS => d.outSeen n e
  | .pltOutStat | .witStat => d.outSeen n (e / 8)
  | .witRc => d.outSeen n (e / 6)
  | .carState => d.cartOwner e == n || d.outSeen n e
  | .pltLayerCfg | .pltLayerDst | .pltLayerCrop | .pltLayerBuf | .pltLayerFill | .pltLayerLive | .pltPreLut => d.laySeen n e
  | .tenStatus | .tenGrant | .grtRing | .grtRingWr | .grtRingRd => e == n
  | .grtFeCfg | .grtStatus => d.feSeen n e
  | .grtSelfCfg => d.feSeen n 4
  | .grtStat => d.feSeen n (e / 4)
  | .hapCfg => d.hapOwner e == n
  | .hapWave => d.hapOwner (e / 8) == n
  | .hapStat => d.hapOwner (e / 3) == n
  | .audInBuf | .audInWr | .audInRd | .audInCfg | .audRoute => d.audOwner e == n
  | .audStat => if e / 2 < 32 then d.audOwner (e / 2) == n else d.alertHolder == n
  | .audAlertBuf | .audAlertWr | .audAlertRd | .audAlertCfg | .audAlertRoute => d.alertHolder == n
  | _ => false

/-- The issuer may read element `e`: the records of BND.VIOL a mediator, those of TIM.TSI_FIFO a mediator or the session that enabled the input, the
rest every partner session, and a tenancy what is its own. -/
def Dev.mayRead (d : Dev) (c : Ctx) (p : Par) (e : Nat) : Bool :=
  match p with
  | .bndViol => c.ses.mediator
  | .timTsiFifo => c.ses.mediator || (d.tsi e).session == some (c.ses.port, c.ses.sid)
  | _ => c.act == 0 || d.tenMayRead c.act p e

/-- The elements that a range of a value covers, in ascending order. -/
def PInfo.covered (i : PInfo) (off n : Nat) : List Nat := ((List.range n).filterMap fun k => (i.place (off + k)).map (·.1)).eraseDups

/-- A read of a range removes the records it returns (19 R511). -/
def Dev.afterRead (d : Dev) (p : Par) (es : List Nat) : Dev :=
  match p with
  | .bndViol => if es.isEmpty then d else { d with mem := { d.mem with viol := d.mem.viol.drop 1 } }
  | .timTsiFifo => d.each es Dev.tsiPop
  | _ => d

/-- PARAM_READ (19 R504, R511, R512). -/
def paramReadOp (c : Ctx) (par : Option Par) (inForce : Bool) (off n : Nat) (d : Dev) : Answer :=
  match par with
  | none => refuse stBadParam d
  | some p =>
    let es := (p.info.covered off n).filter (d.parPresent p)
    checked [(es.any fun e => !d.mayRead c p e, stNotPermitted),
      (decide (off % 4 ≠ 0 ∨ n % 4 ≠ 0 ∨ p.info.bytes < off + n ∨ d.maxLen c.ses.port < 28 + n), stBadParam)] d fun d =>
    (some (rRead (d.parBytes p (inForce && p.info.shadow) off n)), d.afterRead p es)

end Sys2Proof.Machine
end

