-- ==== Sys2Proof/Machine/ParamCheck.lean ====
section
/-!
DEFINITION. The checks of a write to parameters (19 R504, R505): what it covers, what the parameter would hold after it, who may write it, and
the conditions that each chapter sets.
-/

namespace Sys2Proof.Machine

/-! ### What a write covers -/

/-- The part of a stored unit that a write covers: its element, the unit, the bits covered and the bits written to them. -/
structure Cov where
  e : Nat
  u : Nat
  mask : Nat
  raw : Nat
  deriving DecidableEq, Repr

/-- One more byte of a write, the last first. -/
def PInfo.covAdd (i : PInfo) (l : List Cov) (off : Nat) (b : Byte) : List Cov :=
  match i.place off with
  | none => l
  | some (e, u, k) =>
    let m := 0xFF <<< (8 * k)
    let r := b.toNat <<< (8 * k)
    match l with
    | [] => [⟨e, u, m, r⟩]
    | c :: rest => if c.e = e ∧ c.u = u then { c with mask := c.mask ||| m, raw := c.raw ||| r } :: rest else ⟨e, u, m, r⟩ :: l

/-- What a write covers, in ascending offset order. -/
def PInfo.covs (i : PInfo) (off : Nat) (data : Bytes) : List Cov :=
  (data.zipIdx.foldl (fun l (b, k) => i.covAdd l (off + k) b) ([] : List Cov)).reverse

/-- The bits of a field. -/
def Field.mask (f : Field) : Nat := (2 ^ (f.hi - f.lo + 1) - 1) <<< f.lo

/-- A write covers a field, in whole or in part. -/
def Field.on (f : Field) (mask : Nat) : Bool := (f.mask &&& mask) != 0

/-- What a unit would hold after a write (00 Table 0.5, 19 R505): RO fields keep their value, W1C fields lose the bits written as 1. -/
def PInfo.after (i : PInfo) (old : Nat) (c : Cov) : Nat :=
  i.fields.foldl (fun v f =>
    let m := f.mask &&& c.mask
    match f.acc with
    | .ro => v
    | .rw | .wo => ((v ||| m) ^^^ m) ||| (c.raw &&& m)
    | .w1c => (v ||| (m &&& c.raw)) ^^^ (m &&& c.raw)) old

/-- What a write starts from: the stored value, or the W1C bits where the device keeps them itself. -/
def Dev.before (d : Dev) (p : Par) (e u : Nat) : Nat :=
  match p with
  | .rstCause => d.rst.history
  | .rstBlkDefer => d.rst.blkDefer
  | .talStatus => ((d.tal e).gap.toNat <<< 1) + (d.tal e).rep.toNat
  | .grtBaseStore => 0
  | _ => d.kept p false e u

/-- A unit takes a value that a write gives it. EN of AUD.ALERT_CFG cannot be set while no tenancy holds ALERT (12 R329). -/
def Dev.putUnit (d : Dev) (p : Par) (e u v : Nat) : Dev :=
  match p with
  | .rstCause => { d with rst := { d.rst with history := v % 2 ^ 14 } }
  | .rstBlkDefer => { d with rst := { d.rst with blkDefer := v % 2 ^ 40 } }
  | .talStatus => d.modTal e fun t => { t with gap := bit v 1, rep := bit v 0 }
  | .grtBaseStore => d
  | .audAlertCfg => d.put p 0 (if d.alertHolder = 0 then setBit v 31 false else v)
  | _ => d.put p (p.info.slot e u) v

/-- The parameters as they would stand after a write. -/
def Dev.putCovs (d : Dev) (p : Par) (cs : List Cov) : Dev :=
  cs.foldl (fun d c => d.putUnit p c.e c.u (p.info.after (d.before p c.e c.u) c)) d

/-! ### UNIT_ABSENT (00 R3, R4) -/

/-- A value names a unit that the part lacks: a pipe or input of SRC.CFG (04 R91), an engine of DEC.CFG (05 R118), a CSI-2 stream of TAL.CFG
(16 R451). -/
def Dev.namesAbsent (d : Dev) (p : Par) (e : Nat) : Bool :=
  match p with
  | .srcCfg =>
    (d.srcKind e == 4 && !d.present 20) || (d.srcKind e == 3 && decide (d.srcPort e ≤ 3) && !d.present (d.srcPort e))
  | .decCfg => d.flag .decCfg e 31 && !d.present (9 + d.fld .decCfg e 30 29)
  | .talCfg => d.fld .talCfg e 60 59 == 2 && decide (20 ≤ d.fld .talCfg e 58 54 ∧ d.fld .talCfg e 58 54 ≤ 23) && !d.present 20
  | _ => false

/-! ### NOT_PERMITTED: who may write (19 R505 step 2) -/

/-- The object of a monitoring stream may be configured by the issuer (08 R205): its output's owner, or its source's. -/
def Dev.monObject (d : Dev) (c : Ctx) (m : Nat) : Bool :=
  let i := d.fld .encMonCfg m 61 54
  c.ownsOrMed (if d.flag .encMonCfg m 62 then d.srcOwner i else d.outOwner i)

/-- The issuer may write a monitoring stream's parameters (08 R205). -/
def Dev.mayMon (d : Dev) (c : Ctx) (m : Nat) : Bool := (!d.monEn m || c.ownsOrMed (d.monOwner m)) && d.monObject c m

/-- The issuer may write source entry `n` (04 R92): the owner and the mediators while EN = 1, else anyone (notes/assumptions/4.md). -/
def Dev.maySrc (d : Dev) (c : Ctx) (n : Nat) : Bool := !d.srcEn n || c.ownsOrMed (d.srcOwner n)

/-- The issuer may write layer `l` (07 R173). -/
def Dev.mayLayer (d : Dev) (c : Ctx) (l : Nat) : Bool :=
  (!d.flag .pltLayerCfg l 63 && !d.flagF .pltLayerCfg l 63) || c.ownsOrMed (d.fld .pltLayerCfg l 7 4)

/-- The writers that a parameter's chapter names. Where a chapter names none, the partner sessions write (notes/assumptions/4.md). -/
def Dev.mayWrite (d : Dev) (c : Ctx) (p : Par) (e u : Nat) : Bool :=
  let med := c.ses.mediator
  match p with
  | .clkVrCfg | .bshCfg | .rstCause | .rstWdtMs | .rstSafeResetMs | .sesPortCfg | .tenDrainMs | .timPtpCfg | .timStepThreshNs
  | .timLockThreshNs | .timMaxSlewPpb | .timPortLatRx | .timPortLatTx | .witCfg | .witDst | .witUdpPort | .witAckPort | .witAckKey
  | .witAckTimeoutMs | .witMetaRetainS | .witVideoRetainS | .witRc | .pltFailbackN | .datFreezeEventMs | .datHoldoverTrustMs | .grtFeCfg
  | .grtSelfCfg | .grtSelfGroup | .grtBaseStore | .audPortCfg | .audRoute | .audSlotAtt | .memPartnerMib | .talCfg | .talBase | .talLimit
  | .talMatch | .lnkEthCfg | .lnkEthMac | .lnkEthIp4 | .lnkEthGw4 | .lnkEthIp6 | .lnkEthGw6 | .lnkEthEq | .lnkH0Bar2Size | .lnkH1Bar2Size
  | .lnkH0OutBase | .lnkH1OutBase | .mdkCfg | .mdkEq | .secTamperCfg => med
  | .rstBackup => med && decide (e < 24)
  | .rstAoSram => med && decide (u < 0x1000)
  | .mdkBarrierCfg => med && d.acting
  | .srcCfg => d.maySrc c e && !d.isMirror e
  | .srcName | .srcDst | .srcFilter | .srcSsrc | .srcMediaOff | .srcFmt | .srcAllow | .srcJbMs | .srcLateMs | .srcLossMs | .srcBufKib
  | .decCfg | .datProofCfg | .bshSrcPrio => d.maySrc c e
  | .datSentRect => d.maySrc c (e / 2)
  | .srcDpiEdid => med || (d.srcOn 3 e).any fun n => c.owns (d.srcOwner n)
  | .encMonCfg | .encDst | .encUdpPort => d.mayMon c e
  | .encRc => d.mayMon c (e / 6)
  | .ipuPortCfg | .ipuCamCfg | .ipuOutCfg | .ipuMergeSat | .ipuMergeBand | .ipuTapEn => c.ownsOrMed (d.pipeOwner e)
  | .ipuTapRing => c.ownsOrMed (d.pipeOwner (e / 6))
  | .ipuEmbSel => c.ownsOrMed (d.pipeOwner (e / 4))
  | .pltOutCfg | .pltOutPhase | .pltPostLut | .lnkDpCfg | .lnkDpTiming | .datSinkCrcEn | .datSinkCrcPeriod | .datSinkMismatchLimit | .datGlyphEn =>
    c.ownsOrMed (d.outOwner e)
  | .pltLayerCfg | .pltLayerDst | .pltLayerCrop | .pltLayerBuf | .pltLayerFill | .pltLayerLive | .pltPreLut => d.mayLayer c e
  | .grtRing | .grtRingRd => med || (decide (e ≠ 0) && c.act == e)
  | .hapCfg => c.ownsOrMed (d.hapOwner e)
  | .hapWave => c.ownsOrMed (d.hapOwner (e / 8))
  | .audInBuf | .audInWr | .audInCfg => c.ownsOrMed (d.audOwner e)
  | .audAlertBuf | .audAlertWr | .audAlertCfg => if d.alertHolder = 0 then c.act == 0 else c.act == d.alertHolder
  | .audAlertRoute => if d.alertHolder = 0 then med else c.act == d.alertHolder
  | _ => c.act == 0

/-- `n` bytes at `a` lie wholly in the host region of tenancy `r`. -/
def Dev.inHost (d : Dev) (r a n : Nat) : Bool :=
  let g := (d.ten r).grant
  decide (gf g 8 8 ≤ a ∧ a + n ≤ gf g 8 8 + gf g 16 4 * 2 ^ 20)

/-- `n` bytes at `a` lie in DRAM outside every tenancy's colour, or in one outbound window (01 Table 1.7). -/
def Dev.partnerSpace (d : Dev) (a n : Nat) : Bool :=
  (decide (dramBase ≤ a ∧ a + n ≤ dramBase + d.dramBytes)
      && (tenNumbers.filter d.tenTaken).all fun t => !spansMeet (grantSpan (d.ten t).grant) (a, n))
    || (decide (0x800000000000 ≤ a ∧ a + n ≤ 0x1000000000000) && a / 2 ^ 46 == (a + n - 1) / 2 ^ 46)

/-- A ring of recipient `r` lies where 12 R322 lets it. -/
def Dev.ringPlace (d : Dev) (r a n : Nat) : Bool := if r = 0 then d.partnerSpace a n else d.inHost r a n

/-- The elements of a write whose bit `k` it sets. -/
def Dev.risers (d aft : Dev) (p : Par) (k : Nat) (es : List Nat) : Nat := (es.filter fun e => aft.flag p e k && !d.flag p e k).length

/-- The objects that a tenancy enables stay within its grant (11 R297). -/
def Dev.overBudget (d aft : Dev) (act : Nat) (p : Par) (es : List Nat) : Bool :=
  let beyond := fun (owned : List Nat) (most : Nat) =>
    let n := d.risers aft p 63 es
    decide (n ≠ 0 ∧ most < (owned.filter fun e => aft.flag p e 63).length + n)
  act != 0 && (match p with
    | .srcCfg => beyond (d.tenSources act) (d.gByte act 6)
    | .encMonCfg => beyond (d.tenMonitors act) (d.gByte act 7)
    | .pltLayerCfg => beyond (d.tenLayers act false) (d.gLe act 4 2)
    | _ => false)

/-- A value that the chapter forbids with NOT_PERMITTED; `aft` holds the values as they would stand after the write. -/
def Dev.forbids (d aft : Dev) (c : Ctx) (p : Par) (e : Nat) : Bool :=
  match p with
  | .pltOutCfg => !c.ses.mediator && d.fld .pltOutCfg e 17 14 != aft.fld .pltOutCfg e 17 14
  | .encMonCfg => !aft.monObject c e
  | .datGlyphEn => d.regulated && d.flag .datGlyphEn e 0 && !aft.flag .datGlyphEn e 0
  | .witCfg => d.regulated && d.composes e && d.flag .witCfg e 63 && !aft.flag .witCfg e 63
  | .sesPortCfg => (List.range 6).all fun q => !(aft.flag .sesPortCfg q 63 && aft.flag .sesPortCfg q 62)
  | .talBase | .talLimit | .talMatch => d.talReserved e
  | .talCfg =>
    let s := aft.fld .talCfg e 60 59
    let i := aft.fld .talCfg e 58 54
    d.talReserved e || (d.lifecycle != 1 && ((s == 0 && [0, 1, 23].contains i) || (s == 1 && [0, 2, 3, 4].contains i)))
  | .grtRing => !d.ringPlace e (aft.fld .grtRing e 63 16) (32 * 2 ^ aft.fld .grtRing e 15 12)
  | .audInBuf => !d.ringPlace (d.audOwner e) (aft.fld .audInBuf e 63 16) (2 ^ aft.fld .audInBuf e 15 11)
  | .audAlertBuf => !d.ringPlace d.alertHolder (aft.fld .audAlertBuf 0 63 16) (2 ^ aft.fld .audAlertBuf 0 15 11)
  | .memPartnerMib =>
    (tenNumbers.filter aft.tenTaken).any fun n =>
      decide (d.get .memPartnerMib < aft.get .memPartnerMib ∧ aft.dramLimit < (grantSpan (d.ten n).grant).1 + (grantSpan (d.ten n).grant).2)
  | _ => false

/-! ### BAD_PARAM and BUSY_RETRY: values and conditions (19 R505 steps 3 and 4) -/

/-- Two enabled entries are duplicates (04 R91). -/
def Dev.sameFlow (d : Dev) (a b : Nat) : Bool :=
  let eq := fun (p : Par) => d.get p a == d.get p b
  let f := fun (hi lo : Nat) => d.fld .srcCfg a hi lo == d.fld .srcCfg b hi lo
  f 62 60 && f 57 55 && eq .srcDst && f 31 16
    && f 51 51 && (!d.flag .srcCfg a 51 || f 50 39)
    && f 52 52 && (!d.flag .srcCfg a 52 || eq .srcSsrc)
    && f 53 53 && (!d.flag .srcCfg a 53 || eq .srcFilter)

/-- An enabled entry duplicates another. -/
def Dev.duplicate (d : Dev) (n : Nat) : Bool := d.srcEn n && sourceNumbers.any fun m => m != n && d.srcEn m && d.sameFlow n m

/-- KIND, CLOCK and PORT of an entry go together (04 R91, 06 R145). -/
def Dev.srcCfgOk (d : Dev) (n : Nat) : Bool :=
  let k := d.srcKind n
  let p := d.srcPort n
  if k ≤ 2 then d.srcClock n != 2
  else d.srcClock n == 2 && decide (p ≤ 3) && !(k == 4 && p % 2 == 1 && d.flag .ipuPortCfg (p - 1) 30)

/-- The values that a rate-control set takes (08 Table 8.2); a witness stream never runs in CQ mode (08 R207). -/
def rcRange (mon : Bool) (k v : Nat) : Bool :=
  let within := fun (lo hi : Nat) => decide (lo ≤ v ∧ v ≤ hi)
  match k with
  | 0 => within 0 (if mon then 2 else 1)
  | 1 => within 500 100000
  | 2 => within 50 2000
  | 3 => within 10 1990
  | 4 => within 0 51
  | _ => within 2 120

/-- The blocks and rows of a stream's picture (08 R201, R207): CTUs of 64 in H.265, macroblocks of 16 in H.264. -/
def Dev.streamBlocks (d : Dev) (mon : Bool) (i : Nat) : Nat × Nat :=
  let (w, h) := if mon then (16 * d.fld .encMonCfg i 51 41, 8 * d.fld .encMonCfg i 40 30) else witSize (d.timing i)
  let s := if (if mon then d.fld .encMonCfg i 53 52 else d.fld .witCfg i 62 61) = 2 then 16 else 64
  (ceilDiv w s * ceilDiv h s, ceilDiv h s)

/-- A stream's configuration meets 08 R207. -/
def Dev.streamOk (d : Dev) (mon : Bool) (i : Nat) : Bool :=
  let (n, nr) := d.streamBlocks mon i
  rcFits (d.rcField mon i 0) (d.rcField mon i 1) (d.rcField mon i 2) (d.rcField mon i 3) n nr (d.picFps mon i)

/-- A group of channels stays within SC15 and shares none with another enabled group (12 R318). -/
def Dev.groupOk (d : Dev) (g : Nat) : Bool :=
  let cs := groupChannels (d.get .grtSelfGroup g)
  cs.all (decide <| · ≤ 15) && (!d.flag .grtSelfGroup g 15 || (List.range 16).all fun h =>
    h == g || !d.flag .grtSelfGroup h 15 || (groupChannels (d.get .grtSelfGroup h)).all fun x => !cs.contains x)

/-- A condition that relates several fields or parameters holds for element `e`, on the values after the write (19 R505). -/
def Dev.relationOk (d : Dev) (p : Par) (e : Nat) : Bool :=
  match p with
  | .srcCfg => d.srcCfgOk e && !d.duplicate e
  | .srcDst | .srcFilter | .srcSsrc => !d.duplicate e
  | .datSentRect => d.fld .datSentRect e 31 16 == 0 || d.fld .datSentRect e 15 0 != 0
  | .timStepThreshNs | .timLockThreshNs => decide (d.get .timLockThreshNs < d.get .timStepThreshNs)
  | .timTsoCfg | .timTsoPeriod =>
    (tsoPeriod (d.fld .timTsoCfg e 31 29) (d.get .timTsoPeriod e)).all fun t =>
      decide (d.fld .timTsoCfg e 23 0 * 8 * 2 ^ 32 < t ∧ 100 * 2 ^ 32 ≤ t)
  | .encMonCfg => decide (d.fld .encMonCfg e 61 54 ≤ if d.flag .encMonCfg e 62 then 191 else 7) && d.streamOk true e
  | .encRc => rcRange true (e % 6) (d.get .encRc e) && d.streamOk true (e / 6)
  | .witCfg => d.streamOk false e
  | .witRc => rcRange false (e % 6) (d.get .witRc e) && d.streamOk false (e / 6)
  | .ipuPortCfg => d.portCfgOk e (d.get .ipuPortCfg e)
  | .ipuCamCfg => camCfgOk (d.get .ipuCamCfg e)
  | .pltLayerBuf =>
    let w := d.get .pltLayerBuf e
    decide ((if bits w 103 100 ≤ 1 then 4 else if bits w 103 100 = 2 then 1 else 2) * bits w 83 68 ≤ bits w 67 48)
  | .bshCfg => decide (d.fld .bshCfg 0 47 40 < d.fld .bshCfg 0 39 32)
  | .grtFeCfg => feCfgOk (d.get .grtFeCfg e) false
  | .grtSelfCfg => feCfgOk (d.get .grtSelfCfg) true
  | .grtSelfGroup => d.groupOk e
  | .hapCfg => decide (d.fld .hapCfg e 19 12 ≤ d.fld .hapCfg e 11 4)
  | .talCfg => decide (d.fld .talCfg e 58 54 ≤ if d.fld .talCfg e 60 59 = 1 then 11 else 23)
  | .lnkEthCfg => ethCfgOk (d.get .lnkEthCfg e)
  | .lnkEthEq | .mdkEq => decide (d.fld p e 17 12 + d.fld p e 11 6 + d.fld p e 5 0 ≤ 63)
  | .mdkBarrierCfg =>
    barrierOk (d.get .mdkBarrierCfg) (d.wallNs d.outF) ((outputNumbers.filter d.composes).map fun o => commitLead (d.timing o))
  | _ => true

/-- Something of the partner sessions lies in the part that a smaller MEM.PARTNER_MIB removes (13 R359): what the pool holds, a report ring, a
mixer input's ring, a layer's buffer. -/
def Dev.partnerInUse (d aft : Dev) : Bool :=
  let lo := d.dramLimit
  let hi := aft.dramLimit
  let within := fun (a n : Nat) => spansMeet (lo, hi - lo) (a, n)
  decide (aft.poolSize 0 < d.poolUsed 0)
    || (d.flag .grtRing 0 11 && within (d.fld .grtRing 0 63 16) (32 * 2 ^ d.fld .grtRing 0 15 12))
    || ((List.range 32).any fun i => d.flag .audInCfg i 31 && d.audOwner i == 0 && within (d.fld .audInBuf i 63 16) (2 ^ d.fld .audInBuf i 15 11))
    || (layerNumbers.any fun l =>
         let v := d.get .pltLayerCfg l
         bit v 63 && bits v 7 4 == 0 && bits v 53 52 == 1 && (bufExtent (d.get .pltLayerBuf l)).any fun n => within (d.fld .pltLayerBuf l 47 0) n)

/-- BASE_STORE names a unit that is disabled, has a contact in progress or is in SUSPECT (12 R317). -/
def Dev.baseBusy (d : Dev) (t : Nat) : Bool := !(d.fe t).enabled || !(d.fe t).contacts.isEmpty || (d.fe t).suspect

/-- A write that has to be tried again. -/
def Dev.writeBusy (d aft : Dev) (p : Par) (c : Cov) : Bool :=
  match p with
  | .srcBufKib => d.srcEn c.e
  | .grtBaseStore => [0, 1, 2, 3, 4].any fun t => bit c.raw t && d.baseBusy t
  | .memPartnerMib => decide (aft.get .memPartnerMib < d.get .memPartnerMib) && d.partnerInUse aft
  | _ => false

/-! ### The order of the checks -/

/-- A field covered would hold a value outside its range. -/
def Dev.outOfField (d : Dev) (p : Par) (c : Cov) : Bool :=
  let v := p.info.after (d.before p c.e c.u) c
  p.info.fields.any fun f => f.on c.mask && f.acc != .ro && !f.ok (bits v f.hi f.lo)

/-- The checks of an item (19 R504, R505), in their order. -/
def Dev.itemChecks (d : Dev) (c : Ctx) (multi : Bool) (p : Par) (it : ParItem) : List (Bool × Nat) :=
  let cs := p.info.covs it.offset it.data
  let es := (cs.map Cov.e).eraseDups
  let aft := d.putCovs p cs
  let fs := cs.flatMap fun x => p.info.fields.filter (·.on x.mask)
  [(es.any fun e => !d.parPresent p e || aft.namesAbsent p e, stUnitAbsent),
   ((!fs.isEmpty && fs.all (·.acc = .ro)) || (cs.any fun x => !d.mayWrite c p x.e x.u) || d.overBudget aft c.act p es
      || (es.any fun e => d.forbids aft c p e), stNotPermitted),
   (it.inForce || decide (it.offset % 4 ≠ 0 ∨ it.data.length % 4 ≠ 0 ∨ p.info.bytes < it.offset + it.data.length ∨ (multi ∧ 65536 ≤ it.offset))
      || cs.any (d.outOfField p) || (es.any fun e => !aft.relationOk p e), stBadParam),
   (cs.any (d.writeBusy aft p), stBusyRetry)]

/-- The status of an item: OK, or that of the first check that fails. -/
def Dev.itemStatus (d : Dev) (c : Ctx) (multi : Bool) (it : ParItem) : Nat :=
  match it.par with
  | none => stBadParam
  | some p => firstFail (d.itemChecks c multi p it)

end Sys2Proof.Machine
end

