-- ==== Sys2Proof/Machine/ParamWrite.lean ====
section
/-!
DEFINITION. The effects of a write to parameters (19 R506, R507), and PARAM_WRITE and PARAM_WRITE_MULTI.
-/

namespace Sys2Proof.Machine

/-! ### What a write to one element brings about -/

/-- Memberships follow a change of an entry's group (04 R97). -/
def Dev.regroup (d : Dev) (n : Nat) (old : Option (Nat × Nat)) : Dev :=
  let now := d.groupOf n
  if old = now then d else d.each (old.toList ++ now.toList) fun d g => d.membership g.1 g.2

/-- A write to SRC.CFG[n] (04 R92): EN set takes OWNER (10 R513) and reassigns the entry, EN kept with another field changed reassigns it, EN
cleared disables it. -/
def Dev.srcCfgWritten (d : Dev) (c : Ctx) (n : Nat) (d0 : Dev) : Dev :=
  let was := d0.srcEn n
  let is := d.srcEn n
  if was && !is then (d0.disableAndLeave n).put .srcCfg n (d.get .srcCfg n)
  else if !was && is then ((d.put .srcCfg n (setBits (d.get .srcCfg n) 7 4 c.act)).reassign n).regroup n none
  else if is && d0.fld .srcCfg n 62 16 != d.fld .srcCfg n 62 16 then (d.reassign n).regroup n (d0.groupOf n)
  else d

/-- A write to SRC.DST, FILTER, SSRC or FMT of an enabled entry that changes it reassigns the entry (04 R92). -/
def Dev.srcFlowWritten (d : Dev) (p : Par) (n : Nat) (d0 : Dev) : Dev :=
  if d.srcEn n && !d.isMirror n && d0.get p n != d.get p n then (d.reassign n).regroup n (d0.groupOf n) else d

/-- A write to DAT.PROOF_CFG[n] (02 R40, R41, R44): a new period may fail again, and heartbeats that are enabled count afresh. -/
def Dev.proofWritten (d : Dev) (n : Nat) (d0 : Dev) : Dev :=
  let fresh := d.flag .datProofCfg n 0 && !d0.flag .datProofCfg n 0
  d.modSrc n fun s =>
    let s := { s with hbPeriodRun := false }
    if fresh then { s with hbLast := none, hbAdvance := none, hbNeed := 0 } else s

/-- A write to ENC.MON_CFG[m] (08 R205, R207): EN set takes OWNER, a change of what is coded restarts the stream, and the streams are placed. -/
def Dev.monWritten (d : Dev) (c : Ctx) (m : Nat) (d0 : Dev) : Dev :=
  let d := d.when (d.monEn m && !d0.monEn m) fun d => d.modMon m fun r => { r with owner := c.act }
  let d := d.when (d0.fld .encMonCfg m 62 23 != d.fld .encMonCfg m 62 23) fun d => d.modMon m fun r => { r with started := false }
  d.placeStreams

/-- A write to a witness parameter of output `o` (08 R212): an EVENT record, and an IDR picture where codec, size or rate control changes; without
a destination the recorder is lost (08 R220). -/
def Dev.witWritten (d : Dev) (p : Par) (o : Nat) (d0 : Dev) : Dev :=
  let d := d.eventRecord o 5
  match p with
  | .witCfg =>
    let d := d.when (d0.fld .witCfg o 62 60 != d.fld .witCfg o 62 60) fun d => d.modWit o fun w => { w with rc := { w.rc with started := false } }
    d.placeStreams
  | .witRc => d.modWit o fun w => { w with rc := { w.rc with started := false } }
  | .witDst => d.when ((d.wit o).on && d.get .witDst o == 0) fun d => d.recorderLost o
  | _ => d

/-- A write to GRT.FE_CFG[t] or, at 4, GRT.SELF_CFG (12 Table 12.1). -/
def Dev.feWritten (d : Dev) (t : Nat) (d0 : Dev) : Dev :=
  match bit (d0.feCfg t) 63, bit (d.feCfg t) 63 with
  | false, true => d.enableFe t
  | true, false => d.disableFe t
  | _, _ => d

/-- A write to a parameter of the option words is stored there (16 R437). -/
def Dev.optionWritten (d : Dev) (p : Par) : Dev :=
  match p with
  | .lnkH0Bar2Size | .lnkH1Bar2Size => d.writeOptions 1
  | .rstWdtMs | .rstSafeResetMs => d.writeOptions 3
  | .clkVrCfg => d.writeOptions 4
  | _ => d

/-- A larger partner pool is filled with zeros (13 R359). -/
def Dev.poolGrown (d d0 : Dev) : Dev := if d.dramLimit < d0.dramLimit then d.zeroFill d.dramLimit (d0.dramLimit - d.dramLimit) else d

/-- What a write to element `e` brings about, from the device before it (`d0`) and with the element written (`d`); `new` is its first unit. -/
def Dev.written (d : Dev) (c : Ctx) (p : Par) (e : Nat) (d0 : Dev) (new : Nat) : Dev :=
  let old := d0.get p e
  let fell := fun (k : Nat) => bit old k && !bit new k
  let rose := fun (k : Nat) => !bit old k && bit new k
  match p with
  | .srcCfg => d.srcCfgWritten c e d0
  | .srcDst | .srcFilter | .srcSsrc | .srcFmt => d.srcFlowWritten p e d0
  | .srcDpiEdid => d.hpdPulse e
  | .datProofCfg => d.proofWritten e d0
  | .datSentRect => d.modSrc (e / 2) fun s =>
    { s with rectWrites := if e % 2 = 0 then (s.rectWrites.1 + 1, s.rectWrites.2) else (s.rectWrites.1, s.rectWrites.2 + 1) }
  | .pltLayerCfg => d.when (rose 63) fun d => d.put .pltLayerCfg e (setBits new 7 4 c.act)
  | .timTsiCfg => tsiWritten c e old d
  | .timTsoCfg | .timTsoStart | .timTsoPeriod => tsoWritten e d
  | .timPtpCfg => ptpRestart d
  | .encMonCfg => d.monWritten c e d0
  | .encRc => (d.modMon (e / 6) fun r => { r with started := false }).placeStreams
  | .witCfg | .witDst | .witUdpPort | .witAckPort | .witAckKey | .witAckTimeoutMs | .witMetaRetainS | .witVideoRetainS => d.witWritten p e d0
  | .witRc => d.witWritten p (e / 6) d0
  | .ipuPortCfg => portCfgWritten e old d
  | .pltFailbackN => d.each [0, 1, 2, 3] fun d q => d.failbackDue q
  | .grtFeCfg => d.feWritten e d0
  | .grtSelfCfg => d.feWritten 4 d0
  | .grtBaseStore => d.storeBases ([0, 1, 2, 3, 4].filter (bit new))
  | .grtRing => d.when (rose 11) fun d => d.ringEnabled e
  | .grtRingRd => d.modTring e fun r => { r with outstanding := false }
  | .hapCfg => d.when (fell 31) fun d => d.flushPlays e 1
  | .audPortCfg => d.portSlotsChanged e old new
  | .audAlertCfg => d.when (fell 31) fun d => d.silenceAlert
  | .memPartnerMib => d.poolGrown d0
  | .talCfg => d.when (rose 63) fun d => d.modTal e fun t => { t with alive := none }
  | .lnkEthCfg => ethCfgWritten e old d
  | .mdkCfg => d.withPorts (mdkCfgWritten e old)
  | .mdkBarrierCfg => takebackReachedOp d
  | .secTamperCfg => let (v, d) := d.freshBytes 16; d.audit 0x000D v c.ses.port
  | .lnkH0Bar2Size | .lnkH1Bar2Size | .rstWdtMs | .rstSafeResetMs | .clkVrCfg => d.optionWritten p
  | _ => d

/-- An element takes effect whole (19 R506). -/
def Dev.writeElem (d : Dev) (c : Ctx) (p : Par) (cs : List Cov) (e : Nat) : Dev :=
  let cs := cs.filter (·.e == e)
  let new := ((cs.find? (·.u == 0)).map fun x => p.info.after (d.before p e 0) x).getD 0
  (d.putCovs p cs).written c p e d new

/-- An item that passed its checks is written: its elements in ascending order (19 R506). -/
def Dev.writeItem (d : Dev) (c : Ctx) (it : ParItem) : Dev :=
  match it.par with
  | none => d
  | some p =>
    let cs := p.info.covs it.offset it.data
    d.each (cs.map Cov.e).eraseDups fun d e => d.writeElem c p cs e

/-! ### The opcodes -/

/-- PARAM_WRITE (10 Table 10.9, 19 R504 to R506). -/
def paramWriteOp (c : Ctx) (it : ParItem) (d : Dev) : Answer :=
  let st := d.itemStatus c false it
  if st != stOk then refuse st d else (some rOk, d.writeItem c it)

/-- The items of PARAM_WRITE_MULTI, one at a time in order (10 R276): the number written, and the status that ended them. -/
def Dev.writeItems (d : Dev) (c : Ctx) : List ParItem → Nat → Nat × Nat × Dev
  | [], n => (n, stOk, d)
  | it :: rest, n =>
    let st := d.itemStatus c true it
    if st != stOk then (n, st, d) else (d.writeItem c it).writeItems c rest (n + 1)

/-- PARAM_WRITE_MULTI: items are written until one fails. -/
def paramMultiOp (c : Ctx) (its : List ParItem) (d : Dev) : Answer :=
  let (n, st, d) := d.writeItems c its 0
  if st = stOk then (some { st := stOk, ph := 2, items := n }, d)
  else if n = 0 then (some (rErr st), d)
  else (some { st := stPartial, ph := 1, items := n }, d)

end Sys2Proof.Machine
end

