-- ==== Sys2Proof/Machine/MemAccess.lean ====
section
/-!
DEFINITION. Accesses of a master to the internal map (01 R14 to R20, 13 R340): the parameter fabric as masters 0, 1 and 23 see it (19 R503, R509),
and the BARs of the PCIe endpoints (01 R21, R22).
-/

namespace Sys2Proof.Machine

/-! ### The parameter fabric in the map (01 R18, 19 R503) -/

/-- The slots of 256 bytes that a range of parameter space touches: address and length within each. -/
def slots : Nat → Nat → Nat → List (Nat × Nat)
  | 0, _, _ => []
  | fuel + 1, a, n =>
    if n = 0 then []
    else
      let k := min n (256 - a % 256)
      (a, k) :: slots fuel (a + k) (n - k)

/-- The parameter whose slot an address lies in. -/
def parOfSlot (a : Nat) : Option Par := parAt ((a - 0x40000000) / 256)

/-- The indirect window of a master (19 R503): 0, 1 and 2 for masters 0, 1 and 23. -/
def windowOf (m : Nat) : Nat := if m = 0 then 0 else if m = 1 then 1 else 2

/-- The window that a parameter shows. -/
def windowData : Par → Option Nat
  | .sysIndData0 => some 0
  | .sysIndData1 => some 1
  | .sysIndData2 => some 2
  | _ => none

/-- A parameter of the windows: through a window it reads zero and ignores writes. -/
def isWindow (p : Par) : Bool := p = .sysIndSel || (windowData p).isSome

/-- Bytes of a parameter as a master reads them; a read by master 23 removes nothing (19 R511). -/
def Dev.mapRead (d : Dev) (m : Nat) (p : Par) (off n : Nat) : Bytes × Dev :=
  let es := (p.info.covered off n).filter (d.parPresent p)
  (d.parBytes p false off n, if m = 23 then d else d.afterRead p es)

/-- What a window shows: the address of the slot as a direct access would name it, the parameter and the byte offset; OFFSET is taken as a multiple
of 256. -/
def Dev.window (d : Dev) (j : Nat) : Nat × Option Par × Nat :=
  let sel := d.get .sysIndSel j
  (0x40000000 + bits sel 51 32 * 256, (parAt (bits sel 51 32)).filter fun p => !isWindow p, bits sel 31 0 / 256 * 256)

/-- The bytes of SYS.IND_SEL. -/
def Dev.selByte (d : Dev) (off : Nat) : Byte :=
  match Par.sysIndSel.info.place off with
  | none => 0
  | some (e, _, b) => BitVec.ofNat 8 (d.get .sysIndSel e >>> (8 * b))

/-- A read within one slot: the bytes, and whether the answer is an error. -/
def Dev.slotRead (d : Dev) (m a n : Nat) : (Bytes × Bool) × Dev :=
  let off := a % 256
  match parOfSlot a with
  | none => ((zeros n, false), d)
  | some p =>
    if p = .sysIndSel then
      if (p.info.covered off n).any (· != windowOf m) then ((zeros n, true), d)
      else (((List.range n).map fun i => d.selByte (off + i), false), d)
    else match windowData p with
      | some j =>
        if j ≠ windowOf m then ((zeros n, true), d)
        else
          let (slot, q, base) := d.window j
          let (t, d) := d.routePart m slot (d.qosOf m) .read 0
          match t, q with
          | none, _ => ((zeros n, true), d)
          | some _, none => ((zeros n, false), d)
          | some _, some q =>
            let (b, d) := d.mapRead m q (base + off) n
            ((b, false), d)
      | none =>
        let (b, d) := d.mapRead m p off n
        ((b, false), d)

/-- The only master that may write a parameter that 19 R509 reserves (24: none but the option loader). -/
def reservedTo : Par → Option Nat
  | .xbrQos | .xbrPageHint | .xbrRemap | .bndRegion | .bndCommit | .bndViol | .rstBlkSrst => some 0
  | .carState => some 1
  | .memDramCfg | .sysUnits => some 24
  | _ => none

/-- A unit's value with the bits of a write in place. -/
def Cov.into (c : Cov) (old : Nat) : Nat := ((old ||| c.mask) ^^^ c.mask) ||| (c.raw &&& c.mask)

/-- A write to a reserved parameter by its own master. -/
def Dev.reservedWrite (d : Dev) (p : Par) (c : Cov) : Dev :=
  match p with
  | .xbrQos => d.put p c.e (c.into (d.get p c.e) % 16)
  | .xbrPageHint => d.put p c.e (c.into (d.get p c.e) % 4)
  | .xbrRemap => remapOp 0 (c.into d.mem.remap.toNat) d
  | .bndRegion => { d with mem := { d.mem with staged := smSet 0 d.mem.staged c.e (c.into (smGet 0 d.mem.staged c.e) % 2 ^ 128) } }
  | .bndCommit => bndCommitOp 0 (c.into 0) d
  | .rstBlkSrst => blkSrstOp (c.into d.rst.blkSrst) d
  | .carState => d.put p c.e (c.into (d.get p c.e))
  | _ => d

/-- The issuer of a write through the map, as the effects of parameters see it: no session, acting for no tenancy. -/
def mapCtx : Ctx :=
  { ses := { sid := 0, port := 0xFF, role := 0, mediator := true, peer := 0, cfg := 0, timeoutMs := 0, holeMs := 0 }, seq := 0, act := 0 }

/-- Bytes of a parameter as a master writes them; whether the answer is an error (19 R509). -/
def Dev.mapWrite (d : Dev) (m : Nat) (p : Par) (off : Nat) (data : Bytes) : Bool × Dev :=
  let cs := (p.info.covs off data).filter fun c => d.parPresent p c.e
  match reservedTo p with
  | some k => if k ≠ m then (true, d) else (false, d.each cs fun d c => d.reservedWrite p c)
  | none => (false, d.each (cs.map Cov.e).eraseDups fun d e => d.writeElem mapCtx p cs e)

/-- A write of SYS.IND_SEL, or one through a window, or to any other slot. -/
def Dev.slotWrite (d : Dev) (m a : Nat) (data : Bytes) : Bool × Dev :=
  let off := a % 256
  match parOfSlot a with
  | none => (false, d)
  | some p =>
    if p = .sysIndSel then
      let cs := p.info.covs off data
      if cs.any fun c => c.e != windowOf m then (true, d)
      else (false, d.each cs fun d c => d.put p c.e (c.into (d.get p c.e)))
    else match windowData p with
      | some j =>
        if j ≠ windowOf m then (true, d)
        else
          let (slot, q, base) := d.window j
          let (t, d) := d.routePart m slot (d.qosOf m) .write 0
          match t, q with
          | none, _ => (true, d)
          | some _, none => (false, d)
          | some _, some q => d.mapWrite m q (base + off) data
      | none => d.mapWrite m p off data

/-- A read of parameter space. -/
def Dev.fabricReads (d : Dev) (m : Nat) : List (Nat × Nat) → (Bytes × Bool) × Dev
  | [] => (([], false), d)
  | (a, n) :: l =>
    let ((b, e), d) := d.slotRead m a n
    let ((b', e'), d) := d.fabricReads m l
    ((b ++ b', e || e'), d)

/-- A write of parameter space. -/
def Dev.fabricWrites (d : Dev) (m : Nat) (data : Bytes) : List (Nat × Nat) → Bool × Dev
  | [] => (false, d)
  | (a, n) :: l =>
    let (e, d) := d.slotWrite m a (data.take n)
    let (e', d) := d.fabricWrites m (data.drop n) l
    (e || e', d)

/-- Reads and writes of parameter space by a master. -/
def fabric : Fabric where
  read := fun d m a n => d.fabricReads m (slots (n / 256 + 2) a n)
  write := fun d m a data => d.fabricWrites m data (slots (data.length / 256 + 2) a data.length)

/-! ### BARs (01 R21, R22) -/

/-- Where an access through BAR2 lands: the tenancy of the aperture it hits and the address it maps (11 R293); none outside BAR2. -/
def Dev.bar2At (d : Dev) (ep aperture offset : Nat) : Option (Nat × Nat) :=
  let size := 2 ^ (d.pcie ep).bar2Log / 8
  let x := aperture * size + offset
  if x < 8 * size then some (x / size + 1, d.gLe (x / size + 1) 8 8 + x % size) else none

/-- The tenancy of an aperture exists on this endpoint. -/
def Dev.apertureOpen (d : Dev) (ep n : Nat) : Bool := d.tenExists n && d.tenEp n == ep

/-- An access to an aperture without a tenancy makes a report; the address it names is not stated. -/
def Dev.noAperture (d : Dev) (ep : Nat) (kind : AccKind) : Dev :=
  let (v, d) := d.fresh
  d.denied (17 + ep) (v % 2 ^ 48) 63 kind 0 false

/-- BAR2_READ: data, or Completer Abort where any part fails. -/
def bar2ReadOp (ep aperture offset len : Nat) (d : Dev) : Dev :=
  if !(d.pcie ep).up then d
  else match d.bar2At ep aperture offset with
  | none => d
  | some (n, a) =>
    if !d.apertureOpen ep n then (d.noAperture ep .read).send (.completerAbort ep false)
    else
      let (l, d) := d.readParts fabric (17 + ep) (d.qosOf (17 + ep)) (d.ownerColour n) .read .clean (partsOf a len)
      if l.any fun x => x.2.2.1 then d.send (.completerAbort ep false)
      else d.send (.busRead ep (l.flatMap fun x => x.2.1) (l.any fun x => x.2.2.2))

/-- A posted request that fails is reported through AER. -/
def Dev.aerAbort (d : Dev) (ep : Nat) : Dev := (d.modPcie ep fun e => { e with aer := e.aer + 1 }).send (.completerAbort ep true)

/-- BAR2_WRITE: dropped in every part that fails. A poisoned request is discarded and logged through AER (14 R380). -/
def bar2WriteOp (ep aperture offset : Nat) (data : Bytes) (poisoned : Bool) (d : Dev) : Dev :=
  if !(d.pcie ep).up then d
  else if poisoned then d.modPcie ep fun e => { e with aer := e.aer + 1 }
  else match d.bar2At ep aperture offset with
  | none => d
  | some (n, a) =>
    if !d.apertureOpen ep n then (d.noAperture ep .write).aerAbort ep
    else
      let (l, d) := d.writeParts fabric (17 + ep) (d.ownerColour n) data false (partsOf a data.length)
      d.when (l.any fun x => x.2.1) fun d => d.aerAbort ep

/-- OUTBOUND_READ_TIMEOUT (14 R380): an error to its master. -/
def outboundTimeoutOp (ep master : Nat) (d : Dev) : Dev :=
  let base := if ep = 0 then 0x800000000000 else 0xC00000000000
  let (x, d) := d.fresh
  d.when (canReach master (9 + ep) .read) fun d => d.send (.memData master (base + x % 2 ^ 46) [] true false)

/-! ### BAR0 (01 R22, 10 Table 10.3) -/

/-- The 32 configuration bytes of a ring. -/
def ringCfgBytes (c : RingCfg) : Bytes :=
  u64 c.sqBase ++ u64 c.cqBase ++ u8 c.sqLog2 ++ u8 c.cqLog2 ++ u16 c.msix ++ u8 c.en.toNat ++ zeros 11

/-- The 32 configuration bytes of an event ring. -/
def EvtRing.bytes (r : EvtRing) : Bytes := u64 r.base ++ u8 r.log2 ++ u16 r.msix ++ u8 r.en.toNat ++ zeros 20

/-- PAGE_STATUS. -/
def Dev.pageStatus (d : Dev) (ep page : Nat) : Nat :=
  (d.ringsGranted ep page <<< 28) + ((d.ses (pagePort ep page)).isSome.toNat <<< 27)

/-- A BAR0 page belongs to this endpoint: page 0, or the page of a tenancy assigned to it. -/
def Dev.pageAssigned (d : Dev) (ep page : Nat) : Bool := page == 0 || (decide (page ≤ 8) && d.apertureOpen ep page)

/-- The bytes a BAR0 page reads as up to PAGE_STATUS: the boot mailbox while the boot ROM waits for an upload (17 R461), else 10 Table 10.3, whose
doorbells are write-only. -/
def Dev.pageBytes (d : Dev) (ep page : Nat) : Bytes :=
  if !d.pageAssigned ep page then zeros 0x224
  else if page = 0 ∧ d.sec.mailbox.waiting then
    let b := d.sec.mailbox
    padTo 0x224 (u64 b.addr ++ u32 b.len ++ zeros 4 ++ u32 (b.status + (b.code <<< 16)))
  else
    let ring := fun (r : Nat) => ringCfgBytes (d.rng ((ep * 16 + page) * 8 + r)).cfg
    padTo 0x100 [] ++ (List.range 8).flatMap ring ++ (d.evr (ep * 16 + page)).bytes ++ u32 (d.pageStatus ep page)

/-- BAR0_ACCESS: a read of a page shows it, and that of a reserved or unassigned page zeros; a write has an effect only at a doorbell or a
configuration of an assigned page, which have commands of their own. -/
def bar0Op (ep page : Nat) (write : Bool) (d : Dev) : Dev :=
  if !(d.pcie ep).up || write then d else d.send (.busRead ep (d.pageBytes ep page) false)

/-! ### Commands -/

/-- Command MEM_READ. -/
def execMemRead (master addr len qos claim : Nat) (fetch : Bool) (ecc : EccResult) (s : State) : Host.Outcome State Fault Refusal :=
  onDev (Instr.wellFormed (.memRead master addr len qos claim fetch ecc)) (memReadOp fabric master addr len qos claim fetch ecc) s

/-- Command BAR0_ACCESS. -/
def execBar0Access (ep page : Nat) (write : Bool) (s : State) : Host.Outcome State Fault Refusal :=
  onDev (Instr.wellFormed (.bar0Access ep page write)) (bar0Op ep page write) s

/-- Command BAR2_READ. -/
def execBar2Read (ep aperture offset len : Nat) (s : State) : Host.Outcome State Fault Refusal :=
  onDev (Instr.wellFormed (.bar2Read ep aperture offset len)) (bar2ReadOp ep aperture offset len) s

/-- Command BAR2_WRITE. -/
def execBar2Write (ep aperture offset : Nat) (data : Bytes) (poisoned : Bool) (s : State) : Host.Outcome State Fault Refusal :=
  onDev (Instr.wellFormed (.bar2Write ep aperture offset data poisoned)) (bar2WriteOp ep aperture offset data poisoned) s

/-- Command OUTBOUND_READ_TIMEOUT. -/
def execOutboundReadTimeout (ep master : Nat) (s : State) : Host.Outcome State Fault Refusal :=
  onDev (Instr.wellFormed (.outboundReadTimeout ep master)) (outboundTimeoutOp ep master) s

end Sys2Proof.Machine
end

