-- ==== Sys2Proof/Machine/Opcodes.lean ====
section
/-!
DEFINITION. The opcodes that no other chapter defines (10 Table 10.9), CHAIN_LAYOUT (15 R414), and the checks that every command meets before it
executes (10 R276, 16 R438, R447).
-/

namespace Sys2Proof.Machine

/-! ### Sessions and identity (10 R280 to R283) -/

/-- The characters of a text as bytes. -/
def ascii (s : String) : Bytes := s.toList.map fun c => BitVec.ofNat 8 c.toNat

/-- The DEVICE_DESCRIBE reply (10 Table 10.10). -/
def Dev.describe (d : Dev) (c : Ctx) : Bytes :=
  u32 d.units ++ u8 0xB1 ++ u8 (if d.p9c then 0x43 else 0x57) ++ u8 9 ++ u8 d.lifecycle
    ++ padTo 16 (ascii (if d.p9c then "P9C-2304-IT" else "P9W-2304-IT")) ++ u32 d.sec.running.release ++ u8 1 ++ u8 d.chain.role
    ++ u8 c.ses.port ++ u8 (if c.ses.role != 0 then 2 else c.ses.mediator.toNat) ++ u32 (d.dramBytes / 2 ^ 20) ++ padTo 16 Config.serial
    ++ padTo 48 (Config.sha384 Config.idPublicKey) ++ u32 (d.maxLen c.ses.port) ++ zeros 8

/-- The record that TRAVERSE_QUERY finds (10 R280): in the window of the current session of the issuer's port, then in that port's retained log, and
for a mediator in the log of any port. -/
def Dev.traverse (d : Dev) (c : Ctx) (session seq : Nat) : Option Rec :=
  let window := (d.ses c.ses.port).bind fun s =>
    if s.sid = session then s.recs.find? fun r => r.seq == seq && r.slot != .hole else none
  let logs := d.logPort c.ses.port :: (if c.ses.mediator then [0, 1, 2, 3, 4, 5] else [])
  window.or ((logs.flatMap d.travLog).find? fun r => r.seq == seq && r.session == session)

/-- TRAVERSE_QUERY; with nothing found, a record of zeros, whose FOUND is 0. -/
def traverseOp (c : Ctx) (session seq : Nat) (d : Dev) : Answer :=
  (some (rRead (((d.traverse c session seq).map fun r => r.bytes false).getD (zeros 16))), d)

/-- A port whose key KEY_SET may write (10 R267, 11 R296). -/
def Dev.keyPort (d : Dev) (port : Nat) : Bool :=
  decide (port < 6) || (decide (0x11 ≤ port ∧ port ≤ 0x18) && d.tenExists (port - 0x10))

/-- KEY_SET (10 R267, R288, 11 R296): the next open uses the key. -/
def keySetOp (c : Ctx) (port kind : Nat) (salt key : Bytes) (d : Dev) : Answer :=
  checked [(!c.ses.mediator, stNotPermitted), (!d.keyPort port || decide (1 < kind), stBadParam)] d fun d =>
  let d := d.modPrt port fun p => { p with key := some { kind, salt := (padTo 16 salt).take 16, key := (padTo 32 key).take 32 } }
  (some rOk, d.audit 0x0008 (u8 port ++ u8 kind) c.ses.port (portRole c.ses.port))

/-- EVENT_MASK (10 R286). -/
def eventMaskOp (c : Ctx) (mask : Nat) (d : Dev) : Answer :=
  (some rOk, d.modSes c.ses.port fun s => { s with mask := mask % 65536 })

/-! ### Sources and diagnostics -/

/-- The stamp as 32 bytes, or bytes that are not stated where there is no picture yet. -/
def Dev.stampBytes (d : Dev) (s : Option Stamp) : Bytes × Dev :=
  match s with
  | some s => (leBytes 32 s.word, d)
  | none => d.freshBytes 32

/-- The last whole-picture stamp of a source. -/
def Dev.lastWhole (d : Dev) (n : Nat) : Option Stamp := (d.dec n).lastOut.map fun (p : Pic) => p.stamp

/-- The newest stamp of slice `k` of a source: of the picture in decode, else of the last one. -/
def Dev.lastSlice (d : Dev) (n k : Nat) : Option Stamp :=
  let x := d.dec n
  ((x.curStamps.reverse.find? fun (s : Stamp) => s.slice == k).or
    (x.lastOut.bind fun (p : Pic) => p.slices.find? fun (s : Stamp) => s.slice == k))

/-- SOURCE_QUERY. -/
def sourceQueryOp (c : Ctx) (n : Nat) (d : Dev) : Answer :=
  checked [(decide (n < 192) && !c.ownsOrMed (d.srcOwner n), stNotPermitted), (decide (192 ≤ n), stBadParam)] d fun d =>
  let (b, d) := d.stampBytes (d.lastWhole n)
  (some (rRead (u32 (d.srcStatus n) ++ u32 (d.decStatus n) ++ u64 (d.detect n) ++ b)), d)

/-- DIAG_STAMP_READ: SLICE 0xFF names the last whole picture. -/
def diagStampOp (c : Ctx) (n slice : Nat) (d : Dev) : Answer :=
  checked [(decide (n < 192) && !c.ownsOrMed (d.srcOwner n), stNotPermitted), (decide (192 ≤ n ∨ 255 < slice), stBadParam)] d fun d =>
  let (b, d) := d.stampBytes (if slice = 255 then d.lastWhole n else d.lastSlice n slice)
  (some (rRead b), d)

/-- The summaries of a band in the last composed frame: of the frame in work where it has composed the band, else of the one before; a tile that no
frame has composed has none stated. -/
def Dev.bandSummaries (d : Dev) (o band : Nat) : Bytes × Dev :=
  (List.range (d.cols o)).foldl (fun (acc : Bytes × Dev) col =>
    let k := tileKey band col
    let x := acc.2.out o
    match ((x.tiles.find? (·.1 == k)).or (x.witnessTiles.find? (·.1 == k))) with
    | some e => (acc.1 ++ u64 e.2.summary, acc.2)
    | none =>
      let (b, d) := acc.2.freshBytes 8
      (acc.1 ++ b, d)) ([], d)

/-- DIAG_TILE_READ. -/
def diagTileOp (c : Ctx) (o band : Nat) (d : Dev) : Answer :=
  checked [(decide (o < 8) && !d.present (4 + plateOf o), stUnitAbsent), (decide (o < 8) && !c.ownsOrMed (d.outOwner o), stNotPermitted),
    (decide (8 ≤ o) || decide (d.bands o ≤ band), stBadParam)] d fun d =>
  let (b, d) := d.bandSummaries o band
  (some (rRead b), d)

/-! ### CHAIN_LAYOUT (15 R413 to R416) -/

/-- The issuer of a layout's items on the device that stages them: the acting Atlas, by port 5. -/
def layoutCtx : Ctx :=
  { ses := { sid := 0, port := 5, role := 0, mediator := true, peer := 0, cfg := 0, timeoutMs := 0, holeMs := 0 }, seq := 0, act := 0 }

/-- A device stages a layout: its items are written as by PARAM_WRITE_MULTI, its mirrors are set, and its commit is checked; the status that failed
goes into READY. -/
def Dev.stageItems (d : Dev) (l : Layout) : Dev :=
  let items := ((l.sections.find? (·.1 == d.chain.position)).map (·.2.2)).getD []
  let (r, d) := paramMultiOp layoutCtx items d
  let d := d.stageLayout l
  match r with
  | some r => if r.st = stOk then d else { d with chain := { d.chain with stageFail := r.st } }
  | none => d

/-- A layout image arrives from the acting Atlas. -/
def Dev.layoutArrives (d : Dev) (src : Nat) (image : Bytes) : Dev :=
  match parseLayout image with
  | some (l, id) => if d.chain.acting = some src ∧ id = d.chain.chainId ∧ d.layoutId ≠ l.id then d.stageItems l else d
  | none => d

/-- The link directions that a route takes, as (position it leaves, whether by M1): the way with fewer hops, by M0 on a tie, round a closed ring; the
one way there is along an open chain (15 R402). -/
def routeLinks (ndev : Nat) (ring : Bool) (a b : Nat) : List (Nat × Bool) :=
  let up := (b + ndev - a) % ndev
  let down := (a + ndev - b) % ndev
  let byUp := if ring then decide (up < down) else decide (a < b)
  if byUp then (List.range up).map fun i => ((a + i) % ndev, true) else (List.range down).map fun i => ((a + ndev - i) % ndev, false)

/-- Bytes of four pixels in a decoded format: 8 or 16 bits a sample, with the chroma of its sampling. -/
def bytesOfFour (f : Format) : Nat :=
  (if f.depth ≤ 8 then 1 else 2) * (if f.sampling = 0 then 6 else if f.sampling = 1 then 8 else 12)

/-- The rate of a route in bit/s (15 R415): of a source of this device from its format and picture rate, of another device's not stated here. -/
def Dev.routeRate (d : Dev) (r : List Nat) : Nat × Dev :=
  let px := (r.getD 7 0 + 1 - r.getD 5 0) * (r.getD 8 0 + 1 - r.getD 6 0)
  match if r.getD 1 0 = d.chain.position then (d.dec (r.getD 3 0)).sps else none with
  | some s =>
    if s.rate = 0 then
      let (v, d) := d.fresh
      (v, d)
    else (px * bytesOfFour s.fmt * 2 * s.rate / 1000, d)
  | none => d.fresh

/-- The routes of a layout with their rates. -/
def Dev.routeRates (d : Dev) : List (List Nat) → List (List Nat × Nat) × Dev
  | [] => ([], d)
  | r :: l =>
    let (x, d) := d.routeRate r
    let (rest, d) := d.routeRates l
    ((r, x) :: rest, d)

/-- No link direction carries more than 90 Gbit/s of routes, and every route runs between two positions of the layout. -/
def Dev.routesOk (d : Dev) (l : Layout) : Bool × Dev :=
  let (rates, d) := d.routeRates l.routes
  let ring := d.topologyNow = 2
  let links := rates.map fun e => (routeLinks l.ndev ring (e.1.getD 1 0) (e.1.getD 2 0), e.2)
  let load (k : Nat × Bool) : Nat := ((links.filter fun e => e.1.contains k).map (·.2)).sum
  let ok := l.routes.all (fun r => decide (r.getD 1 0 < l.ndev ∧ r.getD 2 0 < l.ndev ∧ r.getD 1 0 ≠ r.getD 2 0 ∧ r.getD 5 0 ≤ r.getD 7 0 ∧ r.getD 6 0 ≤ r.getD 8 0))
    && (links.flatMap (·.1)).all fun k => decide (load k ≤ 90000000000)
  (ok, d)

/-- CHAIN_LAYOUT: read, validated, staged here and sent to every other position; it replies when READY tells that all have staged it, or which
failed. -/
def chainLayoutOp (c : Ctx) (addr len : Nat) (d : Dev) : Answer :=
  let image := d.peekN addr len
  let parsed := parseLayout image
  let known := parsed.any fun x => decide (x.2 = d.chain.chainId ∧ x.1.id ≠ d.layoutId) && (List.range x.1.ndev).all d.reaches
  checked [(!c.ses.mediator || !d.acting || !d.allTagged addr len (d.ownerColour c.act), stNotPermitted), (!known, stBadParam),
    (d.chain.run.isSome, stBusyRetry)] d fun d =>
  match parsed with
  | none => refuse stBadParam d
  | some (l, _) =>
    let (ok, d) := d.routesOk l
    if !ok then refuse stBadParam d
    else
      let d := (d.phaseDone c.ses.port c.ses.sid c.seq 1).stageItems l
      if d.chain.stageFail ≠ 0 then (some { st := d.chain.stageFail, ph := 1 }, d)
      else
        let d := d.each ((List.range l.ndev).filter (· != d.chain.position)) fun d p => d.sendLayout p image
        (none, { d with chain := { d.chain with run := some { port := c.ses.port, session := c.ses.sid, seq := c.seq, id := l.id } } })

/-! ### What runs a command (10 R276) -/

/-- What an opcode does once the checks common to all have passed. -/
def runBody (c : Ctx) (op : IcpOp) (d : Dev) : Answer :=
  match op with
  | .sessionClose => (some (rRead []), d)
  | .sessionPing => (some (rRead (tm d.now)), d)
  | .deviceDescribe => (some (rRead (d.describe c)), d)
  | .traverseQuery session seq => traverseOp c session seq d
  | .keySet port kind salt key => keySetOp c port kind salt key d
  | .eventMask mask => eventMaskOp c mask d
  | .paramRead par inForce off n => paramReadOp c par inForce off n d
  | .paramWrite it => paramWriteOp c it d
  | .paramWriteMulti its => paramMultiOp c its d
  | .sourceQuery n => sourceQueryOp c n d
  | .layerCommit mask => layerCommitOp c mask d
  | .cartWrite o off data => cartWriteOp c o off data d
  | .cartLut o bank entries => cartLutOp c o bank entries d
  | .cartGlyph o bank images => cartGlyphOp c o bank images d
  | .cartDesc o bank ctl rects => cartDescOp c o bank ctl rects d
  | .cartCommit mask bank => cartCommitOp c mask bank d
  | .witnessQuery o => witnessQueryOp c o d
  | .ipuExpose pipe tag sets => ipuExposeOp c pipe tag sets d
  | .ipuReprocess tap pipe copy inAddr outAddr outFmt config => ipuReprocessOp c tap pipe copy inAddr outAddr outFmt config d
  | .tenancyCreate n cls grant => tenCreateOp c n cls grant d
  | .tenancyConfigure n grant => tenConfigureOp c n grant d
  | .tenancyReset n mode => tenTearOp c n mode false d
  | .tenancyRemove n mode => tenTearOp c n mode true d
  | .tenancyFreeze n => tenFreezeOp c n d
  | .tenancySave n dest maxLen => tenSaveOp c n dest maxLen d
  | .tenancyRestore n src len image => tenRestoreOp c n src len image d
  | .tenancyThaw n => tenThawOp c n d
  | .timeStep mode delta => timeStepOp c mode delta d
  | .powerState target => powerStateOp c target d
  | .touchRecalibrate feMask selfMask => recalibrateOp c feMask selfMask d
  | .hapticPlay driver waveform amplitude rep => hapticPlayOp c driver waveform amplitude rep d
  | .diagStampRead n slice => diagStampOp c n slice d
  | .diagTileRead o band => diagTileOp c o band d
  | .diagEyeScan lane dwell dest => eyeScanOp c lane dwell dest d
  | .diagTallyRead ch => diagTallyOp c ch d
  | .chainRole role position chainId => chainRoleOp c role position chainId d
  | .chainLayout addr len => chainLayoutOp c addr len d
  | .chainQuery first => chainQueryOp c first d
  | .attest nonce => attestOp nonce d
  | .auditRead first count => auditReadOp c first count d
  | .serviceChallenge => serviceChallengeOp c d
  | .serviceEnter r => serviceEnterOp c r d
  | .serviceExit => serviceExitOp c d
  | .firmwareStage off final data => firmwareStageOp c off final data d
  | .faultRead => faultReadOp c d
  | .faultClear unit => faultClearOp c unit d
  | .reset level block => resetOp c level block d
  | .unknown _ => refuse stBadOpcode d

/-- Opcodes that NIGHT lets run (09 R244). -/
def nightAllows : IcpOp → Bool
  | .sessionClose | .sessionPing | .paramRead .. | .diagStampRead .. | .diagTileRead .. | .diagTallyRead _ | .powerState _ => true
  | _ => false

/-- Opcodes that SAFE lets run (16 R447). -/
def safeAllows : IcpOp → Bool
  | .sessionClose | .sessionPing | .deviceDescribe | .traverseQuery .. | .faultRead | .auditRead .. | .reset .. => true
  | _ => false

/-- The parameters of the option words (16 Table 16.8). -/
def optionPar : Option Par → Bool
  | some .memDramCfg | some .lnkH0Bar2Size | some .lnkH1Bar2Size | some .rstWdtMs | some .rstSafeResetMs | some .clkVrCfg => true
  | _ => false

/-- Opcodes that MAINTENANCE lets run (16 R438). -/
def maintenanceAllows : IcpOp → Bool
  | .paramRead .. | .attest _ | .firmwareStage .. => true
  | .paramWrite it => optionPar it.par
  | op => safeAllows op

/-- The device is in NIGHT: from its last entry phase until a wake is over (09 R245). -/
def Dev.nightNow (d : Dev) : Bool := d.bsh.st = .night || (d.bsh.st = .waking && decide (d.bsh.phase < 3))

/-- The header forbids the command (10 R265): a tenancy session names its tenancy, a partner session none, a mediator session an existing one or
none. -/
def Dev.headerForbids (d : Dev) (s : Session) (tenancy : Nat) : Bool :=
  if s.role != 0 then tenancy != s.role
  else tenancy != 0 && !(s.mediator && decide (tenancy ≤ 8) && d.tenExists tenancy)

/-- The statuses of checks that come before the one given, in the order of R276: an opcode that gives one of them gives it whatever is forbidden
or wrong later. -/
def before (st : Nat) : List Nat := if st = stNotPermitted then [stUnitAbsent] else [stUnitAbsent, stNotPermitted]

/-- A check that fails with `st` at its place in the order of R276: the opcode does not run, unless it fails an earlier check. -/
def guarded (bad : Bool) (st : Nat) (run : Dev → Answer) (d : Dev) : Answer :=
  if !bad then run d
  else match (run d).1 with
    | some r => if (before st).contains r.st then refuse r.st d else refuse st d
    | none => refuse st d

/-- A command runs: its checks in the order of R276, its effect, its answer; a reply that is longer than the transport carries is BAD_PARAM
(10 R262). -/
def runOp (h : Hdr) (late : Bool) (c : Ctx) (op : IcpOp) (d : Dev) : Answer :=
  match op with
  | .unknown _ => refuse stBadOpcode d
  | op =>
    if (d.nightNow && !nightAllows op) || (d.flt.safe && !safeAllows op) || (d.rst.maintenance && !maintenanceAllows op) then
      refuse stNotPermitted d
    else
      let a := guarded (late || d.headerForbids c.ses h.tenancy) stNotPermitted (guarded (!h.lenOk) stBadParam (runBody c op)) d
      match a.1 with
      | some r => if d.maxLen c.ses.port < 28 + r.body.length && (opPhases op).1 == 1 then refuse stBadParam d else a
      | none => a

end Sys2Proof.Machine
end

