-- ==== Sys2Proof/Machine/Deliver.lean ====
section
/-!
DEFINITION. How a command is delivered and starts (10 R271 to R276): the replay window, commands in flight, the order in which a session starts its
commands, and the submission rings (10 R256 to R258).
-/

namespace Sys2Proof.Machine

/-! ### What follows a command -/

/-- Sessions on partner ports that are disabled close (10 R255, R288). -/
def Dev.closeDisabled (d : Dev) : Dev :=
  let off := (d.sessions.map (·.port)).filter fun p => decide (p < 6) && !d.flag .sesPortCfg p 63
  d.each off fun d p => d.closeSession p 3

/-- What a change of the device lets happen at once: commits on outputs that run no raster, the background commands of tenancies, the closing of
disabled ports. -/
def Dev.settle (d : Dev) : Dev := d.settleCommits.tenSettle.closeDisabled

/-! ### Starting commands (10 R276) -/

/-- The tenancy for which a command acts (10 R265). -/
def actOf (s : Session) (h : Hdr) : Nat := if s.role != 0 then s.role else if s.mediator then h.tenancy else 0

/-- A waiting command may start: every earlier command of its session has replied and no hole precedes it; with FENCE, every earlier command has
completed its last phase. POWER_STATE waits while a teardown runs (11 R301). -/
def Dev.startable (d : Dev) (s : Session) (w : Waiting) : Bool :=
  let earlier := s.recs.filter fun r => decide (r.seq < w.h.seq)
  let tearing := tenNumbers.any fun n => ((d.ten n).run .reset).isSome || ((d.ten n).run .remove).isSome
  earlier.all (fun r => r.slot != .hole && (r.replied || r.slot == .done)) && (!w.h.fence || earlier.all fun r => r.slot == .done)
    && !((opCode w.op == 0x0900) && tearing)

/-- What an opcode that has replied brings about after its reply: SESSION_CLOSE, RESET (10 Table 10.9). -/
def Dev.afterReply (d : Dev) (port sid seq : Nat) (op : IcpOp) (st : Nat) : Dev :=
  if st ≠ stOk then d
  else match op with
    | .sessionClose => d.closeSession port 0
    | .reset level _ => if level = 0 then d.modRec port sid seq fun r => { r with phase := 2 } else d.resetAfter level
    | _ => d

/-- A waiting command of a session starts, and answers now or later. -/
def Dev.start (d : Dev) (s : Session) (w : Waiting) : Dev :=
  let c : Ctx := { ses := s, seq := w.h.seq, act := actOf s w.h }
  let d := d.modSes s.port fun x => { x with waiting := x.waiting.filter (·.h.seq != w.h.seq) }
  let (r, d) := runOp w.h w.late c w.op d
  match r with
  | none => d.settle
  | some r => ((d.finishReply s.port s.sid w.h.seq r).afterReply s.port s.sid w.h.seq w.op r.st).settle

/-- The next command that may start: the lowest waiting number of the first session that has one to start. -/
def Dev.nextStart (d : Dev) : Option (Session × Waiting) :=
  d.sessions.findSome? fun s =>
    match argMin (fun (w : Waiting) => w.h.seq) s.waiting with
    | some w => if d.startable s w then some (s, w) else none
    | none => none

/-- Commands start while any can: none while Bursol does not run or is halted. -/
def Dev.pumpN : Nat → Dev → Dev
  | 0, d => d
  | fuel + 1, d =>
    if d.alive && d.cmdPairRuns then
      match d.nextStart with
      | some (s, w) => Dev.pumpN fuel (d.start s w)
      | none => d
    else d

/-- Every command that can start does. -/
def Dev.pump (d : Dev) : Dev := Dev.pumpN ((d.sessions.map fun s => s.waiting.length).sum) d

/-- The device after a happening that may end commands or let others start. -/
def Dev.settled (d : Dev) : Dev := d.settle.pump

/-! ### The replay window (10 R271 to R275) -/

/-- Commands in flight on the device. -/
def Dev.inFlight (d : Dev) : Nat := (d.sessions.map Session.inFlight).sum + d.orphans.length

/-- A session has room for one more command in flight: 16 always, up to 64 from what the others' 16 leave free of 256 (10 R275). -/
def Dev.roomFor (d : Dev) (s : Session) : Bool :=
  let others := ((d.sessions.filter (·.port != s.port)).map fun x => max 16 x.inFlight).sum
  decide (s.inFlight < 16) || decide (s.inFlight < 64 ∧ s.inFlight + 1 + others + d.orphans.length ≤ 256)

/-- A reply that R271 gives without accepting the command; `k` is its counter. -/
def Dev.turnAway (d : Dev) (h : Hdr) (op : IcpOp) (st : Nat) (k : Option Nat) (via : Option Via) : Dev :=
  let d := match k with
    | some k => d.sesCount h.port k
    | none => d
  d.reply h.port h.peer h.session h.seq (opCode op) st 0 false false [] via

/-- The DUPLICATE reply (10 R273): the original's status, its phase so far and the first 64 bytes of its reply. -/
def Dev.answerAgain (d : Dev) (h : Hdr) (op : IcpOp) (r : Rec) (via : Option Via) : Dev :=
  (d.sesCount h.port 4).reply h.port h.peer h.session h.seq (opCode op) stDuplicate r.phase (decide (64 < r.replyLen)) false
    (u16 r.orig ++ zeros 2 ++ r.cached) via

/-- The tenancy's admission is closed (11 R298, R303): a command accepted now returns NOT_PERMITTED. -/
def Dev.lateFor (d : Dev) (act : Nat) : Bool := act != 0 && d.tenExists act && (d.ten act).closed

/-- A command is accepted: holes below it where it is ahead, its slot RUN, and it waits to start. -/
def Dev.accept (d : Dev) (s : Session) (h : Hdr) (op : IcpOp) (via : Option Via) : Dev :=
  let act := actOf s h
  let late := d.lateFor act
  let top := max s.h h.seq
  let holes : List Rec := (List.range (h.seq - s.h - 1)).map fun i => { seq := s.h + 1 + i, slot := .hole }
  let ph := opPhases op
  let r : Rec := { seq := h.seq, slot := .run, opcode := opCode op, session := s.sid, inProgress := true, nPhase := ph.1, safeMax := ph.2, via,
                   tenancy := act }
  let old := (s.recs ++ holes).filter fun x => x.seq != h.seq && (decide (top < x.seq + 64) || x.slot == .run)
  let d := d.modSes s.port fun x => { x with h := top, recs := old ++ [r], waiting := x.waiting ++ [{ h, op, via, late }] }
  (d.retain s.port r).pump

/-- A command packet for an open session (10 R271). -/
def Dev.onCommand (d : Dev) (s : Session) (h : Hdr) (op : IcpOp) (via : Option Via) : Dev :=
  let k := toSigned 32 (ofSigned 32 ((h.seq : Int) - s.h))
  if h.seq = 0 ∨ (0 < k ∧ (0xFFFFFFFF : Int) < s.h + k) then d.turnAway h op stSessionExpired none via
  else if k ≤ -64 ∨ 64 < k then d.turnAway h op stSequenceGap (some 5) via
  else
    let found := s.recs.find? (·.seq == h.seq)
    match (if k ≤ 0 then found.filter (·.slot != .hole) else none) with
    | some r => d.answerAgain h op r via
    | none =>
      if k ≤ 0 ∧ found.isNone then d.turnAway h op stSequenceGap (some 5) via
      else if !d.roomFor s then d.turnAway h op stBusyRetry (some 6) via
      else d.accept s h op via

/-- A command packet reaches Bursol (10 R259, R269): from an unbound peer it is discarded and counted; naming a session that is not open it gets
SESSION_EXPIRED, where its port listens at all. -/
def Dev.deliver (d : Dev) (h : Hdr) (op : IcpOp) (via : Option Via := none) : Dev :=
  if !d.alive then d
  else
    let h := { h with seq := h.seq % 2 ^ 32 }
    let listens := decide (6 ≤ h.port) || d.flag .sesPortCfg h.port 63
    let d := d.when listens fun d => d.sesCount h.port 0
    match d.ses h.port with
    | none => if listens then d.turnAway h op stSessionExpired none via else d
    | some s =>
      if (h.port = 2 ∨ h.port = 3) ∧ h.peer ≠ s.peer then d.sesCount h.port 2
      else if h.session ≠ s.sid then d.turnAway h op stSessionExpired none via
      else d.onCommand s h op via

/-- A packet arrives on a port. -/
def Dev.packet (d : Dev) (port peer : Nat) (p : Packet) (via : Option Via := none) : Dev :=
  match p with
  | .bad => if d.alive then badPacketOp port d else d
  | .hello role nonce => helloOp port peer role nonce via d
  | .auth session mac => (authOp port peer session mac via d).settled
  | .cmd h op => d.deliver { h with port, peer } op via

/-! ### Holes (10 R274) -/

/-- The hole wait of a number ends: it becomes EMPTY and is skipped. -/
def holeExpireOp (port seq : Nat) (d : Dev) : Dev :=
  match d.ses port with
  | none => d
  | some s =>
    if s.recs.any fun r => r.seq == seq && r.slot == .hole then
      ((d.modSes port fun s => { s with recs := s.recs.filter (·.seq != seq) }).sesCount port 7).pump
    else d

/-! ### Submission rings (10 R256 to R258) -/

/-- A ring entry that cannot be read as a packet: a completion entry and nothing else. -/
def Dev.ringError (d : Dev) (k tag port : Nat) : Dev :=
  let r := d.rng k
  let p := r.cqTail / 2 ^ r.cfg.cqLog2 % 2 == 0
  let d := d.send (.completion (k / 128) (k / 8 % 16) (k % 8) tag 0 stBadParam 0 (r.sqHead % 65536) p false true)
  ((d.setRng k { r with cqTail := r.cqTail + 1 }).signal (k / 128) r.cfg.msix).sesCount port 2

/-- One submission entry is taken. -/
def Dev.takeEntry (d : Dev) (k : Nat) (e : SubEntry) : Dev :=
  let port := pagePort (k / 128) (k / 8 % 16)
  let d := d.modRng k fun r => { r with sqHead := r.sqHead + 1 }
  if e.pktLen < 28 ∨ 1048604 < e.pktLen ∨ !e.readable then d.ringError k e.tag port
  else d.packet port 0 e.pkt (some { ring := k, tag := e.tag, replyMax := e.replyMax })

/-- A doorbell of a ring counts: the ring is granted and enabled, and its page takes commands (11 R298 phase 2). -/
def Dev.ringOpen (d : Dev) (ep page ring : Nat) : Bool :=
  decide (ring < d.ringsGranted ep page) && (d.rng ((ep * 16 + page) * 8 + ring)).cfg.en && (page == 0 || d.pageOpen page)

/-- SQ_TAIL is written: the entries up to it are taken in order; while Bursol does not run they wait in host memory (16 R435). -/
def sqDoorbellOp (ep page ring tail : Nat) (entries : List SubEntry) (d : Dev) : Dev :=
  if !d.ringOpen ep page ring then d
  else
    let k := (ep * 16 + page) * 8 + ring
    let r := d.rng k
    let n := min ((tail + 2 ^ 32 - (r.sqHead + r.held.length) % 2 ^ 32) % 2 ^ 32) (2 ^ r.cfg.sqLog2 - r.held.length)
    let l := entries.take n
    if d.alive then d.each l fun d e => d.takeEntry k e else d.modRng k fun r => { r with held := r.held ++ l }

/-- Bursol runs again: the entries that waited are taken. -/
def Dev.takeHeld (d : Dev) : Dev :=
  d.each ((d.rings.filter fun r => !r.2.held.isEmpty).map (·.1)) fun d k =>
    let l := (d.rng k).held
    (d.modRng k fun r => { r with held := [] }).each l fun d e => d.takeEntry k e

/-- CQ_HEAD is written. -/
def cqDoorbellOp (ep page ring head : Nat) (d : Dev) : Dev :=
  if d.ringOpen ep page ring then d.modRng ((ep * 16 + page) * 8 + ring) fun r => { r with cqHead := head % 2 ^ 32 } else d

/-- EVT_HEAD is written: events that wait for space are delivered (10 R286). -/
def evtDoorbellOp (ep page head : Nat) (d : Dev) : Dev :=
  let r := d.evr (ep * 16 + page)
  let head := r.head + (head + 2 ^ 32 - r.head % 2 ^ 32) % 2 ^ 32
  if r.en && (page == 0 || (d.pageOpen page && decide (d.tenEp page = ep))) && decide (head ≤ r.tail) then
    (d.setEvr (ep * 16 + page) { r with head }).eventSpaceBack (pagePort ep page)
  else d

end Sys2Proof.Machine
end

