-- ==== Sys2Proof/Machine/Background.lean ====
section
/-!
DEFINITION. Commands whose own operation another file defines and that may end a background command, or let another one start: each is its operation
followed by what it settles.
-/

namespace Sys2Proof.Machine

/-- Command FRAME_COMMIT_POINT. -/
def execFrameCommitPoint (out : Nat) (s : State) : Host.Outcome State Fault Refusal :=
  onDev (Instr.wellFormed (.frameCommitPoint out)) (fun d => (frameCommitOp out d).settled) s

/-- Command FRAME_START. -/
def execFrameStart (out : Nat) (errNs : Int) (s : State) : Host.Outcome State Fault Refusal :=
  onDev (Instr.wellFormed (.frameStart out errNs)) (fun d => (frameStartOp out errNs d).settled) s

/-- Command REPROCESS_DONE. -/
def execReprocessDone (pipe : Nat) (s : State) : Host.Outcome State Fault Refusal :=
  onDev (Instr.wellFormed (.reprocessDone pipe)) (fun d => (reprocessDoneOp pipe d).settled) s

/-- Command FREEZE_DRAIN_TIMEOUT. -/
def execFreezeDrainTimeout (n : Nat) (s : State) : Host.Outcome State Fault Refusal :=
  onDev (Instr.wellFormed (.freezeDrainTimeout n)) (fun d => (freezeTimeoutOp n d).settled) s

/-- Command TENANCY_DRAIN_EXPIRED. -/
def execTenancyDrainExpired (n : Nat) (s : State) : Host.Outcome State Fault Refusal :=
  onDev (Instr.wellFormed (.tenancyDrainExpired n)) (fun d => (drainExpiredOp n d).settled) s

/-- Command ZERO_FILL_DONE. -/
def execZeroFillDone (n : Nat) (s : State) : Host.Outcome State Fault Refusal :=
  onDev (Instr.wellFormed (.zeroFillDone n)) (fun d => (zeroFillOp n d).settled) s

/-- Command TENANCY_QUIESCED. -/
def execTenancyQuiesced (n : Nat) (s : State) : Host.Outcome State Fault Refusal :=
  onDev (Instr.wellFormed (.tenancyQuiesced n)) (fun d => (quiescedOp n d).settled) s

/-- Command EYE_SCAN_DONE. -/
def execEyeScanDone (quad : Nat) (counts : Bytes) (s : State) : Host.Outcome State Fault Refusal :=
  onDev (Instr.wellFormed (.eyeScanDone quad counts)) (fun d => (eyeScanDoneOp quad counts d).settled) s

/-- Command NIGHT_ENTRY_STEP. -/
def execNightEntryStep (s : State) : Host.Outcome State Fault Refusal :=
  onDev (Instr.wellFormed .nightEntryStep) (fun d => (nightEntryOp d).settled) s

/-- Command NIGHT_EXIT_STEP. -/
def execNightExitStep (failedOutputs : Nat) (s : State) : Host.Outcome State Fault Refusal :=
  onDev (Instr.wellFormed (.nightExitStep failedOutputs)) (fun d => (nightExitOp failedOutputs d).settled) s

/-- Command VCORE_SETTLE. -/
def execVcoreSettle (mv : Nat) (ok : Bool) (s : State) : Host.Outcome State Fault Refusal :=
  onDev (Instr.wellFormed (.vcoreSettle mv ok)) (fun d => (vcoreSettleOp mv ok d).settled) s

/-- Command WAKE_TIMER_EXPIRE. -/
def execWakeTimerExpire (s : State) : Host.Outcome State Fault Refusal :=
  onDev (Instr.wellFormed .wakeTimerExpire) (fun d => (wakeTimerOp d).settled) s

/-- Command THERMAL_SAMPLE. -/
def execThermalSample (t : Temps) (s : State) : Host.Outcome State Fault Refusal :=
  onDev (Instr.wellFormed (.thermalSample t)) (fun d => (thermalOp t d).settled) s

/-- Command TOUCH_SCAN_FRAME. -/
def execTouchScanFrame (fe : Nat) (f : ScanFrame) (s : State) : Host.Outcome State Fault Refusal :=
  onDev (Instr.wellFormed (.touchScanFrame fe f)) (fun d => (touchScanOp fe f d).settled) s

/-- Command SELF_SCAN_FRAME. -/
def execSelfScanFrame (f : SelfFrame) (s : State) : Host.Outcome State Fault Refusal :=
  onDev (Instr.wellFormed (.selfScanFrame f)) (fun d => (selfScanOp f d).settled) s

/-- Command BARRIER_DEADLINE. -/
def execBarrierDeadline (s : State) : Host.Outcome State Fault Refusal :=
  onDev (Instr.wellFormed .barrierDeadline) (fun d => (barrierDeadlineOp d).settled) s

/-- Command GO_SEND. -/
def execGoSend (s : State) : Host.Outcome State Fault Refusal :=
  onDev (Instr.wellFormed .goSend) (fun d => (goSendOp d).settled) s

/-- Command READY_SEND. -/
def execReadySend (s : State) : Host.Outcome State Fault Refusal :=
  onDev (Instr.wellFormed .readySend) (fun d => (readySendOp d).settled) s

/-- Command DISCOVER_RX. -/
def execDiscoverRx (port chainId position role ttl bid : Nat) (s : State) : Host.Outcome State Fault Refusal :=
  onDev (Instr.wellFormed (.discoverRx port chainId position role ttl bid)) (fun d => (discoverRxOp port chainId position role ttl bid d).settled) s

/-- Command CHAIN_LINK_CUT. -/
def execChainLinkCut (port : Nat) (s : State) : Host.Outcome State Fault Refusal :=
  onDev (Instr.wellFormed (.chainLinkCut port)) (fun d => (linkCutOp port d).settled) s

/-- Command ATLAS_LISTEN_EXPIRE. -/
def execAtlasListenExpire (s : State) : Host.Outcome State Fault Refusal :=
  onDev (Instr.wellFormed .atlasListenExpire) (fun d => (listenExpireOp d).settled) s

/-- Command TAKEBACK_RUN_REACHED. -/
def execTakebackRunReached (s : State) : Host.Outcome State Fault Refusal :=
  onDev (Instr.wellFormed .takebackRunReached) (fun d => (takebackReachedOp d).settled) s

/-- Command PCIE_FUNCTION_RESET. -/
def execPcieFunctionReset (ep : Nat) (kind : PcieReset) (s : State) : Host.Outcome State Fault Refusal :=
  onDev (Instr.wellFormed (.pcieFunctionReset ep kind)) (fun d => (pcieResetOp ep kind d).settled) s

/-- Command SESSION_AUTH. -/
def execSessionAuth (port peer session : Nat) (hostMac : Bytes) (s : State) : Host.Outcome State Fault Refusal :=
  onDev (portOk port) (fun d => (authOp port peer session hostMac none d).settled) s

/-- Command SESSION_TIMEOUT. -/
def execSessionTimeout (port : Nat) (s : State) : Host.Outcome State Fault Refusal :=
  onDev (portOk port) (fun d => (sessionTimeoutOp port d).settled) s

/-- Command BOOT_MAILBOX_GO. -/
def execBootMailboxGo (ep addr len : Nat) (image : Bytes) (s : State) : Host.Outcome State Fault Refusal :=
  onDev (Instr.wellFormed (.bootMailboxGo ep addr len image)) (fun d => (bootMailboxOp addr len image d).settled) s

/-- Command FAULT_REPORT. -/
def execFaultReport (unit sub code : Nat) (s : State) : Host.Outcome State Fault Refusal :=
  onDev (Instr.wellFormed (.faultReport unit sub code)) (fun d => (d.reportFault unit sub code).settled) s

/-- Command FAULT_RETRY_DONE. -/
def execFaultRetryDone (ok : Bool) (s : State) : Host.Outcome State Fault Refusal :=
  onDev (Instr.wellFormed (.faultRetryDone ok)) (fun d => (faultRetryOp ok d).settled) s

/-- Command JOB_TIMEOUT (16 R441). -/
def execJobTimeout (unit sub : Nat) (s : State) : Host.Outcome State Fault Refusal :=
  onDev (Instr.wellFormed (.jobTimeout unit sub)) (fun d => (d.reportFault unit sub 3).settled) s

/-- Command BLOCK_RESET_DONE. -/
def execBlockResetDone (block : Nat) (s : State) : Host.Outcome State Fault Refusal :=
  onDev (Instr.wellFormed (.blockResetDone block)) (fun d => (blockResetDoneOp block d).settled) s

/-- Command BLK_SRST_WRITE. -/
def execBlkSrstWrite (value : Nat) (s : State) : Host.Outcome State Fault Refusal :=
  onDev (Instr.wellFormed (.blkSrstWrite value)) (fun d => (blkSrstOp value d).settled) s

/-- Command CRITICAL_STATE. -/
def execCriticalState (sub code : Nat) (s : State) : Host.Outcome State Fault Refusal :=
  onDev (Instr.wellFormed (.criticalState sub code)) (fun d => (criticalStateOp sub code d).settled) s

/-- Command CLOCK_GOOD_TIMEOUT. -/
def execClockGoodTimeout (pll : Nat) (s : State) : Host.Outcome State Fault Refusal :=
  onDev (Instr.wellFormed (.clockGoodTimeout pll)) (fun d => (clockTimeoutOp pll d).settled) s

/-- Command MEM_WRITE. -/
def execMemWrite (master addr claim : Nat) (data : Bytes) (poisoned : Bool) (s : State) : Host.Outcome State Fault Refusal :=
  onDev (Instr.wellFormed (.memWrite master addr claim data poisoned)) (fun d => (memWriteOp fabric master addr claim data poisoned d).settled) s

/-- Command HAPTIC_OVERCURRENT. -/
def execHapticOvercurrent (driver peak : Nat) (s : State) : Host.Outcome State Fault Refusal :=
  onDev (Instr.wellFormed (.hapticOvercurrent driver peak)) (fun d => (overcurrentOp driver peak d).settled) s

end Sys2Proof.Machine
end

