-- ==== Sys2Proof/Machine/Arrive.lean ====
section
/-!
DEFINITION. What arrives from outside: frames on an Ethernet port (14 R372), on S0 (10 R260) and on a chain link (15 R401 to R404), an exit burst, and
the happenings that let Bursol start or stop.
-/

namespace Sys2Proof.Machine

/-! ### Ethernet (14 R372) -/

/-- A frame that matches nothing is dropped and counted. -/
def Dev.unmatched (d : Dev) (port : Nat) : Dev := d.count2 .lnkEthStat port 3

/-- A PTP message as the port on which it arrived gives it. -/
def ptpAt (port : Nat) : PtpMsg → PtpMsg
  | .exchange _ offset => .exchange port offset
  | .grandmaster _ identity => .grandmaster port identity
  | .invalid => .invalid
  | .announce utc smpte => .announce utc smpte

/-- The NC port that listens on an Ethernet port for a UDP port and an address family (10 R255): as its open session was configured, else as
SES.PORT_CFG stands. -/
def Dev.ncPort (d : Dev) (port udp : Nat) (v6 : Bool) : Option Nat :=
  [2, 3].find? fun p =>
    let cfg := ((d.ses p).map (·.cfg)).getD (d.get .sesPortCfg p)
    d.flag .sesPortCfg p 63 && bits cfg 55 53 == port && bits cfg 51 36 == udp && bit cfg 52 == v6

/-- Some enabled entry takes a frame, or a fragment of its flow. -/
def Dev.rtpMatches (d : Dev) (port : Nat) (vlan : Option Nat) (ipv6 fragment : Bool) (dst sender udp : Nat) (k : RtpPkt) : Bool :=
  sourceNumbers.any fun n =>
    if fragment then d.addressed n port vlan ipv6 dst else d.acceptsRtp n port vlan ipv6 dst sender udp k

/-- With VLAN_EN a port takes ARP, NDP, PTP and ICP traffic only with its tag (14 Table 14.3). -/
def Dev.tagOk (d : Dev) (port : Nat) (vlan : Option Nat) : Bool :=
  !d.flag .lnkEthCfg port 45 || vlan == some (d.fld .lnkEthCfg port 44 33)

/-- What a port does with a frame whose FCS is right: the first match of PTP, ARP or NDP or ICMP for the port, a source entry, an NC session, a witness
acknowledgement (14 R372). While Bursol does not run, PTP, ICP and acknowledgements are not answered (16 R435). -/
def ethDeliver (port : Nat) (f : EthFrame) (d : Dev) : Dev :=
    match f with
    | .badFcs | .codewords _ _ => d
    | .ptp vlan m => if !d.timePort port || !d.tagOk port vlan then d.unmatched port else if d.alive then ptpOp (ptpAt port m) d else d
    | .neighbour vlan ip mac isRequest target =>
      if !d.tagOk port vlan || (isRequest && !d.isOwnIp port target) then d.unmatched port else neighbourRx port ip mac isRequest target d
    | .echo ip => d.ipTx port (decide (2 ^ 32 ≤ ip)) ip 0 (.ethSend port 1 (leBytes 16 ip))
    | .rtp vlan ipv6 fragment dst sender udp pkt =>
      if d.rtpMatches port vlan ipv6 fragment dst sender udp pkt then d.rtpFrame port vlan ipv6 fragment dst sender udp pkt else d.unmatched port
    | .icp vlan udp peer bytes pkt =>
      match (d.ncPort port udp (decide (2 ^ 32 ≤ peer / 65536))).filter fun _ => d.tagOk port vlan with
      | none => d.unmatched port
      | some p => d.packet p peer (if d.maxLen p < bytes then .bad else pkt)
    | .ack udp a =>
      if outputNumbers.any fun o => d.fld .witCfg o 59 57 == port && d.get .witAckPort o == udp then
        (if d.alive then witAckOp port udp a d else d)
      else d.unmatched port
    | .other => d.unmatched port

/-- ETH_FRAME_RX: a frame with a wrong FCS is counted and goes no further, and so are the codewords of a port with FEC (14 R396). -/
def ethFrameOp (port : Nat) (f : EthFrame) (d : Dev) : Dev :=
  if !(d.eth port).up then d
  else
    match f with
    | .badFcs => d.count2 .lnkEthStat port 2
    | .codewords c u => if d.fld .lnkEthCfg port 61 60 = 0 then d else (d.count2 .lnkEthStat port 4 c).count2 .lnkEthStat port 5 u
    | .ptp .. | .neighbour .. | .echo .. | .rtp .. | .icp .. | .ack .. | .other => ethDeliver port f (d.count2 .lnkEthStat port 0)

/-! ### S0 (10 R260, R262) -/

/-- S0_FRAME_RX: a frame that does not decode or is too long is discarded and counted. -/
def s0FrameOp (ok : Bool) (bytes : Nat) (pkt : Packet) (d : Dev) : Dev := d.packet 4 0 (if !ok || decide (4124 < bytes) then .bad else pkt)

/-! ### Chain frames (15 R401 to R404) -/

/-- The TYPE of a chain frame and the bytes after its chain header; the packet of a CONTROL frame and a PTP message are not repeated as bytes. -/
def chainBytes : ChainBody → Nat × Bytes
  | .control _ => (1, [])
  | .layout image => (1, image)
  | .slice route row0 nrows whole stamp rows => (2, u16 route ++ u16 row0 ++ u16 nrows ++ u16 whole.toNat ++ padTo 32 stamp ++ rows)
  | .ready k staged inForce flags status => (3, u64 k ++ u32 staged ++ u32 inForce ++ u16 flags ++ u16 status)
  | .go k apply inForce exclude ndev flags barrier step =>
    (4, u64 k ++ u32 apply ++ u32 inForce ++ u32 exclude ++ u8 ndev ++ u8 flags ++ zeros 2 ++ u64 barrier ++ s64 step)
  | .ptp _ => (5, [])
  | .summary k body => (6, u64 k ++ body)
  | .resetReq level count mac => (9, u8 level ++ zeros 3 ++ u64 count ++ mac)
  | .unknown t => (t, [])

/-- A RESET_REQ (15 R422): the chain logic checks its MAC with the chain key, and that its COUNT exceeds the last accepted one; then a SYS reset. -/
def Dev.resetReqRx (d : Dev) (level count : Nat) (mac : Bytes) : Dev :=
  if (d.prt 5).key.isSome ∧ level = 2 ∧ mac = d.resetMac d.chain.position level count ∧ d.chain.resetCount < count then
    ({ d with chain := { d.chain with resetCount := count } }).takeReset 0x0E 2
  else d

/-- A chain frame for this device is delivered. -/
def Dev.chainDeliver (d : Dev) (port src : Nat) (body : ChainBody) : Dev :=
  match body with
  | .control pkt => if d.chain.acting = some src ∧ !d.acting then d.packet 5 src pkt else d
  | .layout image => if d.alive ∧ d.chain.acting = some src ∧ !d.acting then (d.layoutArrives src image).settled else d
  | .slice route row0 nrows whole stamp _ => d.sliceRx route row0 nrows whole stamp
  | .ready k staged inForce flags status => (d.readyRx src { frame := k, staged, inForce, flags, status }).settled
  | .go k apply inForce exclude ndev flags barrier step =>
    (d.goTake { frame := k, apply, inForce, exclude, ndev, last := bit flags 0, original := bit flags 1, barrier, step, src }).settled
  | .ptp m => if d.alive then ptpOp (ptpAt (8 + port) m) d else d
  | .summary _ b => if d.acting then { d with chain := { d.chain with summaries := (src, b) :: d.chain.summaries.filter (·.1 != src) } } else d
  | .resetReq level count mac => d.resetReqRx level count mac
  | .unknown _ => d

/-- A frame goes on along the chain: PTP goes link by link, and a TYPE that is not assigned is discarded. -/
def goesOn : ChainBody → Bool
  | .ptp _ | .unknown _ => false
  | _ => true

/-- CHAIN_FRAME_RX: only over a link in service; a broadcast once per (SRC, BID) within 100 ms. -/
def chainFrameOp (port dst src ttl bid : Nat) (body : ChainBody) (d : Dev) : Dev :=
  if d.chain.role = 0 ∨ !d.chain.inService.contains port ∨ ttl = 0 ∨ src = d.chain.position then d
  else
    let toAll := dst = 0xFF && goesOn body
    let (first, d) := if toAll then d.firstSight src bid else (true, d)
    if !first then d
    else
      let mine := dst = 0xFF || dst = d.chain.position
      let e := chainBytes body
      let d := d.when ((toAll || !mine) && goesOn body) fun d => d.chainForward port dst src ttl bid e.1 e.2
      if mine then d.chainDeliver port src body else d

/-! ### Starting and stopping -/

/-- BURSOL_START: with Bursol running, what waited in the rings is taken and commands start. -/
def bursolStartsOp (d : Dev) : Dev :=
  let d := bursolStartOp d
  if d.alive then d.takeHeld.settled else d

/-- SERVICE_EXPIRE: the visit's duration has passed (17 R471). -/
def serviceExpireOp (d : Dev) : Dev := (d.endService 1).settled

/-! ### Commands -/

/-- Command ETH_FRAME_RX. -/
def execEthFrameRx (port : Nat) (f : EthFrame) (s : State) : Host.Outcome State Fault Refusal :=
  onDev (Instr.wellFormed (.ethFrameRx port f)) (ethFrameOp port f) s

/-- Command S0_FRAME_RX. -/
def execS0FrameRx (ok : Bool) (bytes : Nat) (pkt : Packet) (s : State) : Host.Outcome State Fault Refusal :=
  onDev (Instr.wellFormed (.s0FrameRx ok bytes pkt)) (s0FrameOp ok bytes pkt) s

/-- Command CHAIN_FRAME_RX. -/
def execChainFrameRx (port dst src ttl bid : Nat) (body : ChainBody) (s : State) : Host.Outcome State Fault Refusal :=
  onDev (Instr.wellFormed (.chainFrameRx port dst src ttl bid body)) (chainFrameOp port dst src ttl bid body) s

/-- Command MDK_EXIT_BURST_RX. -/
def execMdkExitBurstRx (port : Nat) (s : State) : Host.Outcome State Fault Refusal :=
  onDev (Instr.wellFormed (.mdkExitBurstRx port)) (fun d => d.withPorts fun d => d.mdkBurst port) s

/-- Command BURSOL_START. -/
def execBursolStart (s : State) : Host.Outcome State Fault Refusal := onDev (Instr.wellFormed .bursolStart) bursolStartsOp s

/-- Command SERVICE_EXPIRE. -/
def execServiceExpire (s : State) : Host.Outcome State Fault Refusal := onDev (Instr.wellFormed .serviceExpire) serviceExpireOp s

/-- Command TAMPER_EDGE. -/
def execTamperEdge (input : Nat) (assertion : Bool) (s : State) : Host.Outcome State Fault Refusal :=
  onDev (Instr.wellFormed (.tamperEdge input assertion)) (fun d => (tamperOp input assertion d).settled) s

/-- Command DEBUG_HALT. -/
def execDebugHalt (coreIdx : Nat) (halt : Bool) (s : State) : Host.Outcome State Fault Refusal :=
  onDev (Instr.wellFormed (.debugHalt coreIdx halt)) (fun d => (debugHaltOp coreIdx halt d).settled) s

/-- Command HOLE_EXPIRE. -/
def execHoleExpire (port seq : Nat) (s : State) : Host.Outcome State Fault Refusal :=
  onDev (Instr.wellFormed (.holeExpire port seq)) (holeExpireOp port seq) s

/-- Command SQ_DOORBELL. -/
def execSqDoorbell (ep page ring tail : Nat) (entries : List SubEntry) (s : State) : Host.Outcome State Fault Refusal :=
  onDev (Instr.wellFormed (.sqDoorbell ep page ring tail entries)) (sqDoorbellOp ep page ring tail entries) s

/-- Command CQ_DOORBELL. -/
def execCqDoorbell (ep page ring head : Nat) (s : State) : Host.Outcome State Fault Refusal :=
  onDev (Instr.wellFormed (.cqDoorbell ep page ring head)) (cqDoorbellOp ep page ring head) s

/-- Command EVT_DOORBELL. -/
def execEvtDoorbell (ep page head : Nat) (s : State) : Host.Outcome State Fault Refusal :=
  onDev (Instr.wellFormed (.evtDoorbell ep page head)) (evtDoorbellOp ep page head) s

end Sys2Proof.Machine
end

