-- ==== Sys2Proof/Machine/Commands.lean ====
section
/-!
DEFINITION. The commands that a host sends as ICP packets (10 Table 10.9): each is delivered to Bursol under 10 R271, and runs when its session comes to
it. The rows that write or read one named parameter are PARAM_WRITE and PARAM_READ of it.
-/

namespace Sys2Proof.Machine

/-- The bytes with which an element `[n]` is written (with a second index, all of `[n][0]` to `[n][b]`): its value, and zeros up to a multiple of 4
(19 R502, R504). -/
def elemBytes (p : Par) (value : Nat) : Bytes :=
  let len := (p.info.b - 1) * p.info.stride + p.info.size
  padTo (ceilDiv len 4 * 4) (leBytes len value)

/-- PARAM_WRITE of element `n` of a parameter as a whole. -/
def elemWrite (p : Par) (n value : Nat) : IcpOp :=
  .paramWrite { par := some p, offset := n * p.info.bPow * p.info.stride, data := elemBytes p value }

/-- Command SESSION_CLOSE. -/
def execSessionClose (h : Hdr) (s : State) : Host.Outcome State Fault Refusal :=
  onDev (Instr.wellFormed (.sessionClose h)) (fun d => d.deliver h .sessionClose) s

/-- Command SESSION_PING. -/
def execSessionPing (h : Hdr) (s : State) : Host.Outcome State Fault Refusal :=
  onDev (Instr.wellFormed (.sessionPing h)) (fun d => d.deliver h .sessionPing) s

/-- Command DEVICE_DESCRIBE. -/
def execDeviceDescribe (h : Hdr) (s : State) : Host.Outcome State Fault Refusal :=
  onDev (Instr.wellFormed (.deviceDescribe h)) (fun d => d.deliver h .deviceDescribe) s

/-- Command TRAVERSE_QUERY. -/
def execTraverseQuery (h : Hdr) (session seq : Nat) (s : State) : Host.Outcome State Fault Refusal :=
  onDev (Instr.wellFormed (.traverseQuery h session seq)) (fun d => d.deliver h (.traverseQuery session seq)) s

/-- Command KEY_SET. -/
def execKeySet (h : Hdr) (port kind : Nat) (salt key : Bytes) (s : State) : Host.Outcome State Fault Refusal :=
  onDev (Instr.wellFormed (.keySet h port kind salt key)) (fun d => d.deliver h (.keySet port kind salt key)) s

/-- Command EVENT_MASK. -/
def execEventMask (h : Hdr) (mask : Nat) (s : State) : Host.Outcome State Fault Refusal :=
  onDev (Instr.wellFormed (.eventMask h mask)) (fun d => d.deliver h (.eventMask mask)) s

/-- Command PARAM_READ. -/
def execParamRead (h : Hdr) (par : Option Par) (inForce : Bool) (offset count : Nat) (s : State) : Host.Outcome State Fault Refusal :=
  onDev (Instr.wellFormed (.paramRead h par inForce offset count)) (fun d => d.deliver h (.paramRead par inForce offset count)) s

/-- Command PARAM_WRITE. -/
def execParamWrite (h : Hdr) (item : ParItem) (s : State) : Host.Outcome State Fault Refusal :=
  onDev (Instr.wellFormed (.paramWrite h item)) (fun d => d.deliver h (.paramWrite item)) s

/-- Command PARAM_WRITE_MULTI. -/
def execParamWriteMulti (h : Hdr) (items : List ParItem) (s : State) : Host.Outcome State Fault Refusal :=
  onDev (Instr.wellFormed (.paramWriteMulti h items)) (fun d => d.deliver h (.paramWriteMulti items)) s

/-- Command SOURCE_QUERY. -/
def execSourceQuery (h : Hdr) (src : Nat) (s : State) : Host.Outcome State Fault Refusal :=
  onDev (Instr.wellFormed (.sourceQuery h src)) (fun d => d.deliver h (.sourceQuery src)) s

/-- Command LAYER_COMMIT. -/
def execLayerCommit (h : Hdr) (mask : Nat) (s : State) : Host.Outcome State Fault Refusal :=
  onDev (Instr.wellFormed (.layerCommit h mask)) (fun d => d.deliver h (.layerCommit mask)) s

/-- Command CART_WRITE. -/
def execCartWrite (h : Hdr) (out offset : Nat) (data : Bytes) (s : State) : Host.Outcome State Fault Refusal :=
  onDev (Instr.wellFormed (.cartWrite h out offset data)) (fun d => d.deliver h (.cartWrite out offset data)) s

/-- Command CART_LUT. -/
def execCartLut (h : Hdr) (out bank : Nat) (entries : List Nat) (s : State) : Host.Outcome State Fault Refusal :=
  onDev (Instr.wellFormed (.cartLut h out bank entries)) (fun d => d.deliver h (.cartLut out bank entries)) s

/-- Command CART_GLYPH. -/
def execCartGlyph (h : Hdr) (out bank : Nat) (images : Bytes) (s : State) : Host.Outcome State Fault Refusal :=
  onDev (Instr.wellFormed (.cartGlyph h out bank images)) (fun d => d.deliver h (.cartGlyph out bank images)) s

/-- Command CART_DESC. -/
def execCartDesc (h : Hdr) (out bank control : Nat) (rects : List Nat) (s : State) : Host.Outcome State Fault Refusal :=
  onDev (Instr.wellFormed (.cartDesc h out bank control rects)) (fun d => d.deliver h (.cartDesc out bank control rects)) s

/-- Command CART_COMMIT. -/
def execCartCommit (h : Hdr) (mask bank : Nat) (s : State) : Host.Outcome State Fault Refusal :=
  onDev (Instr.wellFormed (.cartCommit h mask bank)) (fun d => d.deliver h (.cartCommit mask bank)) s

/-- Command WITNESS_QUERY. -/
def execWitnessQuery (h : Hdr) (out : Nat) (s : State) : Host.Outcome State Fault Refusal :=
  onDev (Instr.wellFormed (.witnessQuery h out)) (fun d => d.deliver h (.witnessQuery out)) s

/-- Command IPU_EXPOSE. -/
def execIpuExpose (h : Hdr) (pipe tag : Nat) (sets : List Exposure) (s : State) : Host.Outcome State Fault Refusal :=
  onDev (Instr.wellFormed (.ipuExpose h pipe tag sets)) (fun d => d.deliver h (.ipuExpose pipe tag sets)) s

/-- Command IPU_REPROCESS. -/
def execIpuReprocess (h : Hdr) (tap pipe copy inAddr outAddr outFmt : Nat) (config : Bytes) (s : State) : Host.Outcome State Fault Refusal :=
  onDev (Instr.wellFormed (.ipuReprocess h tap pipe copy inAddr outAddr outFmt config)) (fun d => d.deliver h (.ipuReprocess tap pipe copy inAddr outAddr outFmt config)) s

/-- Command TENANCY_CREATE. -/
def execTenancyCreate (h : Hdr) (n cls : Nat) (grant : Bytes) (s : State) : Host.Outcome State Fault Refusal :=
  onDev (Instr.wellFormed (.tenancyCreate h n cls grant)) (fun d => d.deliver h (.tenancyCreate n cls grant)) s

/-- Command TENANCY_CONFIGURE. -/
def execTenancyConfigure (h : Hdr) (n : Nat) (grant : Bytes) (s : State) : Host.Outcome State Fault Refusal :=
  onDev (Instr.wellFormed (.tenancyConfigure h n grant)) (fun d => d.deliver h (.tenancyConfigure n grant)) s

/-- Command TENANCY_RESET. -/
def execTenancyReset (h : Hdr) (n mode : Nat) (s : State) : Host.Outcome State Fault Refusal :=
  onDev (Instr.wellFormed (.tenancyReset h n mode)) (fun d => d.deliver h (.tenancyReset n mode)) s

/-- Command TENANCY_REMOVE. -/
def execTenancyRemove (h : Hdr) (n mode : Nat) (s : State) : Host.Outcome State Fault Refusal :=
  onDev (Instr.wellFormed (.tenancyRemove h n mode)) (fun d => d.deliver h (.tenancyRemove n mode)) s

/-- Command TENANCY_FREEZE. -/
def execTenancyFreeze (h : Hdr) (n : Nat) (s : State) : Host.Outcome State Fault Refusal :=
  onDev (Instr.wellFormed (.tenancyFreeze h n)) (fun d => d.deliver h (.tenancyFreeze n)) s

/-- Command TENANCY_SAVE. -/
def execTenancySave (h : Hdr) (n dest maxLen : Nat) (s : State) : Host.Outcome State Fault Refusal :=
  onDev (Instr.wellFormed (.tenancySave h n dest maxLen)) (fun d => d.deliver h (.tenancySave n dest maxLen)) s

/-- Command TENANCY_RESTORE. -/
def execTenancyRestore (h : Hdr) (n src len : Nat) (image : Bytes) (s : State) : Host.Outcome State Fault Refusal :=
  onDev (Instr.wellFormed (.tenancyRestore h n src len image)) (fun d => d.deliver h (.tenancyRestore n src len image)) s

/-- Command TENANCY_THAW. -/
def execTenancyThaw (h : Hdr) (n : Nat) (s : State) : Host.Outcome State Fault Refusal :=
  onDev (Instr.wellFormed (.tenancyThaw h n)) (fun d => d.deliver h (.tenancyThaw n)) s

/-- Command TIME_STEP. -/
def execTimeStep (h : Hdr) (mode : Nat) (delta : Int) (s : State) : Host.Outcome State Fault Refusal :=
  onDev (Instr.wellFormed (.timeStep h mode delta)) (fun d => d.deliver h (.timeStep mode delta)) s

/-- Command POWER_STATE. -/
def execPowerState (h : Hdr) (target : Nat) (s : State) : Host.Outcome State Fault Refusal :=
  onDev (Instr.wellFormed (.powerState h target)) (fun d => d.deliver h (.powerState target)) s

/-- Command TOUCH_RECALIBRATE. -/
def execTouchRecalibrate (h : Hdr) (feMask selfMask : Nat) (s : State) : Host.Outcome State Fault Refusal :=
  onDev (Instr.wellFormed (.touchRecalibrate h feMask selfMask)) (fun d => d.deliver h (.touchRecalibrate feMask selfMask)) s

/-- Command HAPTIC_PLAY. -/
def execHapticPlay (h : Hdr) (driver waveform amplitude rep : Nat) (s : State) : Host.Outcome State Fault Refusal :=
  onDev (Instr.wellFormed (.hapticPlay h driver waveform amplitude rep)) (fun d => d.deliver h (.hapticPlay driver waveform amplitude rep)) s

/-- Command DIAG_STAMP_READ. -/
def execDiagStampRead (h : Hdr) (src slice : Nat) (s : State) : Host.Outcome State Fault Refusal :=
  onDev (Instr.wellFormed (.diagStampRead h src slice)) (fun d => d.deliver h (.diagStampRead src slice)) s

/-- Command DIAG_TILE_READ. -/
def execDiagTileRead (h : Hdr) (out band : Nat) (s : State) : Host.Outcome State Fault Refusal :=
  onDev (Instr.wellFormed (.diagTileRead h out band)) (fun d => d.deliver h (.diagTileRead out band)) s

/-- Command DIAG_EYE_SCAN. -/
def execDiagEyeScan (h : Hdr) (lane dwell dest : Nat) (s : State) : Host.Outcome State Fault Refusal :=
  onDev (Instr.wellFormed (.diagEyeScan h lane dwell dest)) (fun d => d.deliver h (.diagEyeScan lane dwell dest)) s

/-- Command DIAG_TALLY_READ. -/
def execDiagTallyRead (h : Hdr) (channel : Nat) (s : State) : Host.Outcome State Fault Refusal :=
  onDev (Instr.wellFormed (.diagTallyRead h channel)) (fun d => d.deliver h (.diagTallyRead channel)) s

/-- Command CHAIN_ROLE. -/
def execChainRole (h : Hdr) (role position chainId : Nat) (s : State) : Host.Outcome State Fault Refusal :=
  onDev (Instr.wellFormed (.chainRole h role position chainId)) (fun d => d.deliver h (.chainRole role position chainId)) s

/-- Command CHAIN_LAYOUT. -/
def execChainLayout (h : Hdr) (addr len : Nat) (s : State) : Host.Outcome State Fault Refusal :=
  onDev (Instr.wellFormed (.chainLayout h addr len)) (fun d => d.deliver h (.chainLayout addr len)) s

/-- Command CHAIN_QUERY. -/
def execChainQuery (h : Hdr) (first : Nat) (s : State) : Host.Outcome State Fault Refusal :=
  onDev (Instr.wellFormed (.chainQuery h first)) (fun d => d.deliver h (.chainQuery first)) s

/-- Command ATTEST. -/
def execAttest (h : Hdr) (nonce : Bytes) (s : State) : Host.Outcome State Fault Refusal :=
  onDev (Instr.wellFormed (.attest h nonce)) (fun d => d.deliver h (.attest nonce)) s

/-- Command AUDIT_READ. -/
def execAuditRead (h : Hdr) (first count : Nat) (s : State) : Host.Outcome State Fault Refusal :=
  onDev (Instr.wellFormed (.auditRead h first count)) (fun d => d.deliver h (.auditRead first count)) s

/-- Command SERVICE_CHALLENGE. -/
def execServiceChallenge (h : Hdr) (s : State) : Host.Outcome State Fault Refusal :=
  onDev (Instr.wellFormed (.serviceChallenge h)) (fun d => d.deliver h .serviceChallenge) s

/-- Command SERVICE_ENTER. -/
def execServiceEnter (h : Hdr) (response : Bytes) (s : State) : Host.Outcome State Fault Refusal :=
  onDev (Instr.wellFormed (.serviceEnter h response)) (fun d => d.deliver h (.serviceEnter response)) s

/-- Command SERVICE_EXIT. -/
def execServiceExit (h : Hdr) (s : State) : Host.Outcome State Fault Refusal :=
  onDev (Instr.wellFormed (.serviceExit h)) (fun d => d.deliver h .serviceExit) s

/-- Command FIRMWARE_STAGE. -/
def execFirmwareStage (h : Hdr) (offset : Nat) (final : Bool) (data : Bytes) (s : State) : Host.Outcome State Fault Refusal :=
  onDev (Instr.wellFormed (.firmwareStage h offset final data)) (fun d => d.deliver h (.firmwareStage offset final data)) s

/-- Command FAULT_READ. -/
def execFaultRead (h : Hdr) (s : State) : Host.Outcome State Fault Refusal :=
  onDev (Instr.wellFormed (.faultRead h)) (fun d => d.deliver h .faultRead) s

/-- Command FAULT_CLEAR. -/
def execFaultClear (h : Hdr) (unit : Nat) (s : State) : Host.Outcome State Fault Refusal :=
  onDev (Instr.wellFormed (.faultClear h unit)) (fun d => d.deliver h (.faultClear unit)) s

/-- Command RESET. -/
def execReset (h : Hdr) (level block : Nat) (s : State) : Host.Outcome State Fault Refusal :=
  onDev (Instr.wellFormed (.reset h level block)) (fun d => d.deliver h (.reset level block)) s

/-- Command SRC_CFG_WRITE. -/
def execSrcCfgWrite (h : Hdr) (n value : Nat) (s : State) : Host.Outcome State Fault Refusal :=
  onDev (Instr.wellFormed (.srcCfgWrite h n value)) (fun d => d.deliver h (elemWrite .srcCfg n value)) s

/-- Command SRC_FLOW_WRITE. -/
def execSrcFlowWrite (h : Hdr) (par : Par) (n value : Nat) (s : State) : Host.Outcome State Fault Refusal :=
  onDev (Instr.wellFormed (.srcFlowWrite h par n value)) (fun d => d.deliver h (elemWrite par n value)) s

/-- Command DPI_EDID_WRITE. -/
def execDpiEdidWrite (h : Hdr) (input offset : Nat) (data : Bytes) (s : State) : Host.Outcome State Fault Refusal :=
  onDev (Instr.wellFormed (.dpiEdidWrite h input offset data)) (fun d => d.deliver h (.paramWrite { par := some .srcDpiEdid, offset := input * Par.srcDpiEdid.info.stride + offset, data })) s

/-- Command FAILBACK_N_WRITE. -/
def execFailbackNWrite (h : Hdr) (value : Nat) (s : State) : Host.Outcome State Fault Refusal :=
  onDev (Instr.wellFormed (.failbackNWrite h value)) (fun d => d.deliver h (elemWrite .pltFailbackN 0 value)) s

/-- Command MON_CFG_WRITE. -/
def execMonCfgWrite (h : Hdr) (m value : Nat) (s : State) : Host.Outcome State Fault Refusal :=
  onDev (Instr.wellFormed (.monCfgWrite h m value)) (fun d => d.deliver h (elemWrite .encMonCfg m value)) s

/-- Command WIT_CFG_WRITE. -/
def execWitCfgWrite (h : Hdr) (par : Par) (out value : Nat) (s : State) : Host.Outcome State Fault Refusal :=
  onDev (Instr.wellFormed (.witCfgWrite h par out value)) (fun d => d.deliver h (elemWrite par out value)) s

/-- Command TSI_FIFO_READ. -/
def execTsiFifoRead (h : Hdr) (n : Nat) (s : State) : Host.Outcome State Fault Refusal :=
  onDev (Instr.wellFormed (.tsiFifoRead h n)) (fun d => d.deliver h (.paramRead (some .timTsiFifo) false (n * 16) 16)) s

/-- Command PTP_CFG_WRITE. -/
def execPtpCfgWrite (h : Hdr) (value : Nat) (s : State) : Host.Outcome State Fault Refusal :=
  onDev (Instr.wellFormed (.ptpCfgWrite h value)) (fun d => d.deliver h (elemWrite .timPtpCfg 0 value)) s

/-- Command FE_CFG_WRITE. -/
def execFeCfgWrite (h : Hdr) (unit value : Nat) (s : State) : Host.Outcome State Fault Refusal :=
  onDev (Instr.wellFormed (.feCfgWrite h unit value)) (fun d => d.deliver h (if unit = 4 then elemWrite .grtSelfCfg 0 value else elemWrite .grtFeCfg unit value)) s

/-- Command BASE_STORE_WRITE. -/
def execBaseStoreWrite (h : Hdr) (value : Nat) (s : State) : Host.Outcome State Fault Refusal :=
  onDev (Instr.wellFormed (.baseStoreWrite h value)) (fun d => d.deliver h (elemWrite .grtBaseStore 0 value)) s

/-- Command TOUCH_RING_WRITE. -/
def execTouchRingWrite (h : Hdr) (recipient value : Nat) (s : State) : Host.Outcome State Fault Refusal :=
  onDev (Instr.wellFormed (.touchRingWrite h recipient value)) (fun d => d.deliver h (elemWrite .grtRing recipient value)) s

/-- Command RING_RD_WRITE. -/
def execRingRdWrite (h : Hdr) (recipient value : Nat) (s : State) : Host.Outcome State Fault Refusal :=
  onDev (Instr.wellFormed (.ringRdWrite h recipient value)) (fun d => d.deliver h (elemWrite .grtRingRd recipient value)) s

/-- Command AUDIO_PORT_CFG_WRITE. -/
def execAudioPortCfgWrite (h : Hdr) (port value : Nat) (s : State) : Host.Outcome State Fault Refusal :=
  onDev (Instr.wellFormed (.audioPortCfgWrite h port value)) (fun d => d.deliver h (elemWrite .audPortCfg port value)) s

/-- Command BND_VIOL_READ. -/
def execBndViolRead (h : Hdr) (s : State) : Host.Outcome State Fault Refusal :=
  onDev (Instr.wellFormed (.bndViolRead h)) (fun d => d.deliver h (.paramRead (some .bndViol) false 0 24)) s

/-- Command ETH_CFG_WRITE. -/
def execEthCfgWrite (h : Hdr) (port value : Nat) (s : State) : Host.Outcome State Fault Refusal :=
  onDev (Instr.wellFormed (.ethCfgWrite h port value)) (fun d => d.deliver h (elemWrite .lnkEthCfg port value)) s

/-- Command MDK_CFG_WRITE. -/
def execMdkCfgWrite (h : Hdr) (port value : Nat) (s : State) : Host.Outcome State Fault Refusal :=
  onDev (Instr.wellFormed (.mdkCfgWrite h port value)) (fun d => d.deliver h (elemWrite .mdkCfg port value)) s

/-- Command TAKEBACK_N_WRITE. -/
def execTakebackNWrite (h : Hdr) (value : Nat) (s : State) : Host.Outcome State Fault Refusal :=
  onDev (Instr.wellFormed (.takebackNWrite h value)) (fun d => d.deliver h (elemWrite .mdkBarrierCfg 0 (setBits (d.get .mdkBarrierCfg) 15 3 value))) s

end Sys2Proof.Machine
end

