-- ==== Sys2Proof/Machine/Dispatch.lean ====
section
/-!
DEFINITION. The meaning of each command: one arm for each constructor, calling the definition that gives it.
-/

namespace Sys2Proof.Machine

/-- The effect of a command on everything but the queue. -/
def exec (i : Instr) (s : State) : Host.Outcome State Fault Refusal :=
  match i with
  | .sessionHello port peer role hostNonce => Sys2Proof.Machine.execSessionHello port peer role hostNonce s
  | .sessionAuth port peer session hostMac => Sys2Proof.Machine.execSessionAuth port peer session hostMac s
  | .authAttemptLapse port => Sys2Proof.Machine.execAuthAttemptLapse port s
  | .authLockoutEnd port => Sys2Proof.Machine.execAuthLockoutEnd port s
  | .sessionClose h => Sys2Proof.Machine.execSessionClose h s
  | .sessionPing h => Sys2Proof.Machine.execSessionPing h s
  | .sessionTimeout port => Sys2Proof.Machine.execSessionTimeout port s
  | .sessionAlive port => Sys2Proof.Machine.execSessionAlive port s
  | .badPacket port => Sys2Proof.Machine.execBadPacket port s
  | .holeExpire port seq => Sys2Proof.Machine.execHoleExpire port seq s
  | .eventsLost port => Sys2Proof.Machine.execEventsLost port s
  | .sqDoorbell ep page ring tail entries => Sys2Proof.Machine.execSqDoorbell ep page ring tail entries s
  | .cqDoorbell ep page ring head => Sys2Proof.Machine.execCqDoorbell ep page ring head s
  | .evtDoorbell ep page head => Sys2Proof.Machine.execEvtDoorbell ep page head s
  | .bar0Access ep page write => Sys2Proof.Machine.execBar0Access ep page write s
  | .bar2Read ep aperture offset len => Sys2Proof.Machine.execBar2Read ep aperture offset len s
  | .bar2Write ep aperture offset data poisoned => Sys2Proof.Machine.execBar2Write ep aperture offset data poisoned s
  | .outboundReadTimeout ep master => Sys2Proof.Machine.execOutboundReadTimeout ep master s
  | .pcieFunctionReset ep kind => Sys2Proof.Machine.execPcieFunctionReset ep kind s
  | .deviceDescribe h => Sys2Proof.Machine.execDeviceDescribe h s
  | .traverseQuery h session seq => Sys2Proof.Machine.execTraverseQuery h session seq s
  | .keySet h port kind salt key => Sys2Proof.Machine.execKeySet h port kind salt key s
  | .eventMask h mask => Sys2Proof.Machine.execEventMask h mask s
  | .paramRead h par inForce offset count => Sys2Proof.Machine.execParamRead h par inForce offset count s
  | .paramWrite h item => Sys2Proof.Machine.execParamWrite h item s
  | .paramWriteMulti h items => Sys2Proof.Machine.execParamWriteMulti h items s
  | .sourceQuery h src => Sys2Proof.Machine.execSourceQuery h src s
  | .layerCommit h mask => Sys2Proof.Machine.execLayerCommit h mask s
  | .cartWrite h out offset data => Sys2Proof.Machine.execCartWrite h out offset data s
  | .cartLut h out bank entries => Sys2Proof.Machine.execCartLut h out bank entries s
  | .cartGlyph h out bank images => Sys2Proof.Machine.execCartGlyph h out bank images s
  | .cartDesc h out bank control rects => Sys2Proof.Machine.execCartDesc h out bank control rects s
  | .cartCommit h mask bank => Sys2Proof.Machine.execCartCommit h mask bank s
  | .witnessQuery h out => Sys2Proof.Machine.execWitnessQuery h out s
  | .ipuExpose h pipe tag sets => Sys2Proof.Machine.execIpuExpose h pipe tag sets s
  | .ipuReprocess h tap pipe copy inAddr outAddr outFmt config => Sys2Proof.Machine.execIpuReprocess h tap pipe copy inAddr outAddr outFmt config s
  | .reprocessDone pipe => Sys2Proof.Machine.execReprocessDone pipe s
  | .tenancyCreate h n cls grant => Sys2Proof.Machine.execTenancyCreate h n cls grant s
  | .tenancyConfigure h n grant => Sys2Proof.Machine.execTenancyConfigure h n grant s
  | .tenancyReset h n mode => Sys2Proof.Machine.execTenancyReset h n mode s
  | .tenancyRemove h n mode => Sys2Proof.Machine.execTenancyRemove h n mode s
  | .tenancyFreeze h n => Sys2Proof.Machine.execTenancyFreeze h n s
  | .freezeDrainTimeout n => Sys2Proof.Machine.execFreezeDrainTimeout n s
  | .tenancySave h n dest maxLen => Sys2Proof.Machine.execTenancySave h n dest maxLen s
  | .tenancyRestore h n src len image => Sys2Proof.Machine.execTenancyRestore h n src len image s
  | .tenancyThaw h n => Sys2Proof.Machine.execTenancyThaw h n s
  | .tenancyDrainExpired n => Sys2Proof.Machine.execTenancyDrainExpired n s
  | .zeroFillDone n => Sys2Proof.Machine.execZeroFillDone n s
  | .tenancyQuiesced n => Sys2Proof.Machine.execTenancyQuiesced n s
  | .timeStep h mode delta => Sys2Proof.Machine.execTimeStep h mode delta s
  | .powerState h target => Sys2Proof.Machine.execPowerState h target s
  | .touchRecalibrate h feMask selfMask => Sys2Proof.Machine.execTouchRecalibrate h feMask selfMask s
  | .hapticPlay h driver waveform amplitude rep => Sys2Proof.Machine.execHapticPlay h driver waveform amplitude rep s
  | .diagStampRead h src slice => Sys2Proof.Machine.execDiagStampRead h src slice s
  | .diagTileRead h out band => Sys2Proof.Machine.execDiagTileRead h out band s
  | .diagEyeScan h lane dwell dest => Sys2Proof.Machine.execDiagEyeScan h lane dwell dest s
  | .eyeScanDone quad counts => Sys2Proof.Machine.execEyeScanDone quad counts s
  | .diagTallyRead h channel => Sys2Proof.Machine.execDiagTallyRead h channel s
  | .chainRole h role position chainId => Sys2Proof.Machine.execChainRole h role position chainId s
  | .chainLayout h addr len => Sys2Proof.Machine.execChainLayout h addr len s
  | .chainQuery h first => Sys2Proof.Machine.execChainQuery h first s
  | .attest h nonce => Sys2Proof.Machine.execAttest h nonce s
  | .auditRead h first count => Sys2Proof.Machine.execAuditRead h first count s
  | .serviceChallenge h => Sys2Proof.Machine.execServiceChallenge h s
  | .serviceEnter h response => Sys2Proof.Machine.execServiceEnter h response s
  | .serviceExit h => Sys2Proof.Machine.execServiceExit h s
  | .serviceExpire => Sys2Proof.Machine.execServiceExpire s
  | .firmwareStage h offset final data => Sys2Proof.Machine.execFirmwareStage h offset final data s
  | .faultRead h => Sys2Proof.Machine.execFaultRead h s
  | .faultClear h unit => Sys2Proof.Machine.execFaultClear h unit s
  | .reset h level block => Sys2Proof.Machine.execReset h level block s
  | .srcCfgWrite h n value => Sys2Proof.Machine.execSrcCfgWrite h n value s
  | .srcFlowWrite h par n value => Sys2Proof.Machine.execSrcFlowWrite h par n value s
  | .igmpReportRepeat port group => Sys2Proof.Machine.execIgmpReportRepeat port group s
  | .igmpQueryRx port group => Sys2Proof.Machine.execIgmpQueryRx port group s
  | .dpiEdidWrite h input offset data => Sys2Proof.Machine.execDpiEdidWrite h input offset data s
  | .dpiHpdPulseEnd input => Sys2Proof.Machine.execDpiHpdPulseEnd input s
  | .ethFrameRx port f => Sys2Proof.Machine.execEthFrameRx port f s
  | .jitterBufferExpire src ts => Sys2Proof.Machine.execJitterBufferExpire src ts s
  | .dpiFrameRx input f => Sys2Proof.Machine.execDpiFrameRx input f s
  | .sourceLossTimeout src => Sys2Proof.Machine.execSourceLossTimeout src s
  | .sourceFrozen src => Sys2Proof.Machine.execSourceFrozen src s
  | .holdoverTrustExpire => Sys2Proof.Machine.execHoldoverTrustExpire s
  | .sliceDecoded d => Sys2Proof.Machine.execSliceDecoded d s
  | .csiFrameStart pipe vc fn => Sys2Proof.Machine.execCsiFrameStart pipe vc fn s
  | .ipuExposeTimeout pipe tag => Sys2Proof.Machine.execIpuExposeTimeout pipe tag s
  | .csiLineRx pipe line => Sys2Proof.Machine.execCsiLineRx pipe line s
  | .csiFrameEnd pipe vc fn => Sys2Proof.Machine.execCsiFrameEnd pipe vc fn s
  | .csiExposureTimeout pipe exposure => Sys2Proof.Machine.execCsiExposureTimeout pipe exposure s
  | .ipuFrameDone pipe f => Sys2Proof.Machine.execIpuFrameDone pipe f s
  | .frameCommitPoint out => Sys2Proof.Machine.execFrameCommitPoint out s
  | .frameStart out errNs => Sys2Proof.Machine.execFrameStart out errNs s
  | .bandCompose out band tRef tiles px => Sys2Proof.Machine.execBandCompose out band tRef tiles px s
  | .bandDeadline out band => Sys2Proof.Machine.execBandDeadline out band s
  | .bandScanout out band tRef => Sys2Proof.Machine.execBandScanout out band tRef s
  | .sinkCrcReadback out sink own => Sys2Proof.Machine.execSinkCrcReadback out sink own s
  | .benchCompare out band crc => Sys2Proof.Machine.execBenchCompare out band crc s
  | .failbackCompare plate out band crc => Sys2Proof.Machine.execFailbackCompare plate out band crc s
  | .failbackRunReached plate => Sys2Proof.Machine.execFailbackRunReached plate s
  | .failbackNWrite h value => Sys2Proof.Machine.execFailbackNWrite h value s
  | .checkpointWrite out => Sys2Proof.Machine.execCheckpointWrite out s
  | .recordSigned out rseq => Sys2Proof.Machine.execRecordSigned out rseq s
  | .witnessPictureCoded out rows au => Sys2Proof.Machine.execWitnessPictureCoded out rows au s
  | .witnessNotCoded out cause => Sys2Proof.Machine.execWitnessNotCoded out cause s
  | .monitorPictureCoded stream rows => Sys2Proof.Machine.execMonitorPictureCoded stream rows s
  | .monCfgWrite h m value => Sys2Proof.Machine.execMonCfgWrite h m value s
  | .witCfgWrite h par out value => Sys2Proof.Machine.execWitCfgWrite h par out value s
  | .witnessAckTimeout out => Sys2Proof.Machine.execWitnessAckTimeout out s
  | .accountingFrameStart f => Sys2Proof.Machine.execAccountingFrameStart f s
  | .energyTick acts => Sys2Proof.Machine.execEnergyTick acts s
  | .jobLatestStart src cost cls => Sys2Proof.Machine.execJobLatestStart src cost cls s
  | .jobTimeout unit sub => Sys2Proof.Machine.execJobTimeout unit sub s
  | .islandWake island => Sys2Proof.Machine.execIslandWake island s
  | .pllRestart pll => Sys2Proof.Machine.execPllRestart pll s
  | .thermalSample t => Sys2Proof.Machine.execThermalSample t s
  | .bthermUpdate => Sys2Proof.Machine.execBthermUpdate s
  | .nightEntryStep => Sys2Proof.Machine.execNightEntryStep s
  | .nightExitStep failedOutputs => Sys2Proof.Machine.execNightExitStep failedOutputs s
  | .wakeTimerExpire => Sys2Proof.Machine.execWakeTimerExpire s
  | .tsiFifoRead h n => Sys2Proof.Machine.execTsiFifoRead h n s
  | .ptpMessageRx m => Sys2Proof.Machine.execPtpMessageRx m s
  | .announceTimeout => Sys2Proof.Machine.execAnnounceTimeout s
  | .ptpSyncSend port => Sys2Proof.Machine.execPtpSyncSend port s
  | .ptpCfgWrite h value => Sys2Proof.Machine.execPtpCfgWrite h value s
  | .tsiEdge n rise => Sys2Proof.Machine.execTsiEdge n rise s
  | .tsoEdge n => Sys2Proof.Machine.execTsoEdge n s
  | .tsoPulseEnd n => Sys2Proof.Machine.execTsoPulseEnd n s
  | .touchScanFrame fe f => Sys2Proof.Machine.execTouchScanFrame fe f s
  | .touchStuck fe id => Sys2Proof.Machine.execTouchStuck fe id s
  | .selfScanFrame f => Sys2Proof.Machine.execSelfScanFrame f s
  | .feCfgWrite h unit value => Sys2Proof.Machine.execFeCfgWrite h unit value s
  | .baseStoreWrite h value => Sys2Proof.Machine.execBaseStoreWrite h value s
  | .touchRingWrite h recipient value => Sys2Proof.Machine.execTouchRingWrite h recipient value s
  | .ringRdWrite h recipient value => Sys2Proof.Machine.execRingRdWrite h recipient value s
  | .hapticPlayEnd driver => Sys2Proof.Machine.execHapticPlayEnd driver s
  | .hapticOvercurrent driver peak => Sys2Proof.Machine.execHapticOvercurrent driver peak s
  | .hapticTrackLost driver freq => Sys2Proof.Machine.execHapticTrackLost driver freq s
  | .audioBlock => Sys2Proof.Machine.execAudioBlock s
  | .alertIdleExpire => Sys2Proof.Machine.execAlertIdleExpire s
  | .audioPortCfgWrite h port value => Sys2Proof.Machine.execAudioPortCfgWrite h port value s
  | .memRead master addr len qos claim fetch ecc => Sys2Proof.Machine.execMemRead master addr len qos claim fetch ecc s
  | .memWrite master addr claim data poisoned => Sys2Proof.Machine.execMemWrite master addr claim data poisoned s
  | .dramRefresh channel hot => Sys2Proof.Machine.execDramRefresh channel hot s
  | .zqCalibration channel rank => Sys2Proof.Machine.execZqCalibration channel rank s
  | .scanoutPanic out raised => Sys2Proof.Machine.execScanoutPanic out raised s
  | .caParityAlert channel duringReplay => Sys2Proof.Machine.execCaParityAlert channel duringReplay s
  | .writeCrcAlert channel again => Sys2Proof.Machine.execWriteCrcAlert channel again s
  | .patrolScrub addr ecc => Sys2Proof.Machine.execPatrolScrub addr ecc s
  | .chartScrub addr ecc => Sys2Proof.Machine.execChartScrub addr ecc s
  | .cartScrub addr ecc => Sys2Proof.Machine.execCartScrub addr ecc s
  | .cartoucheRepair addr => Sys2Proof.Machine.execCartoucheRepair addr s
  | .dramTraining ok temp => Sys2Proof.Machine.execDramTraining ok temp s
  | .tagRetag base limit tag zeroFill => Sys2Proof.Machine.execTagRetag base limit tag zeroFill s
  | .remapWrite master value => Sys2Proof.Machine.execRemapWrite master value s
  | .bndCommit master mask => Sys2Proof.Machine.execBndCommit master mask s
  | .bndViolRead h => Sys2Proof.Machine.execBndViolRead h s
  | .ethCfgWrite h port value => Sys2Proof.Machine.execEthCfgWrite h port value s
  | .ethLinkDown port => Sys2Proof.Machine.execEthLinkDown port s
  | .ethLinkUp port => Sys2Proof.Machine.execEthLinkUp port s
  | .arpRetry port ip => Sys2Proof.Machine.execArpRetry port ip s
  | .neighborAgeOut port ip => Sys2Proof.Machine.execNeighborAgeOut port ip s
  | .ethTxTimeout port => Sys2Proof.Machine.execEthTxTimeout port s
  | .mdkFrameRx port f => Sys2Proof.Machine.execMdkFrameRx port f s
  | .mdkLinkctlRx port ack seq => Sys2Proof.Machine.execMdkLinkctlRx port ack seq s
  | .mdkAckTimer port => Sys2Proof.Machine.execMdkAckTimer port s
  | .mdkNakRepeat port => Sys2Proof.Machine.execMdkNakRepeat port s
  | .mdkReplayTimeout port => Sys2Proof.Machine.execMdkReplayTimeout port s
  | .mdkBlockLock port lanes aligned inv skew => Sys2Proof.Machine.execMdkBlockLock port lanes aligned inv skew s
  | .mdkStartupBurst port => Sys2Proof.Machine.execMdkStartupBurst port s
  | .mdkRecoveryTimeout port => Sys2Proof.Machine.execMdkRecoveryTimeout port s
  | .mdkIdleTimer port => Sys2Proof.Machine.execMdkIdleTimer port s
  | .mdkEidleRx port => Sys2Proof.Machine.execMdkEidleRx port s
  | .mdkExitBurstRx port => Sys2Proof.Machine.execMdkExitBurstRx port s
  | .mdkCfgWrite h port value => Sys2Proof.Machine.execMdkCfgWrite h port value s
  | .mdkPeerRxUp port up => Sys2Proof.Machine.execMdkPeerRxUp port up s
  | .dpHpdAssert out edid => Sys2Proof.Machine.execDpHpdAssert out edid s
  | .dpHpdIrq out lockLost => Sys2Proof.Machine.execDpHpdIrq out lockLost s
  | .dpHpdDeassert out => Sys2Proof.Machine.execDpHpdDeassert out s
  | .dpTrainingRetry out => Sys2Proof.Machine.execDpTrainingRetry out s
  | .dpTrainingDone out rate lanes => Sys2Proof.Machine.execDpTrainingDone out rate lanes s
  | .dpiLinkLoss input => Sys2Proof.Machine.execDpiLinkLoss input s
  | .pcieLinkUp ep => Sys2Proof.Machine.execPcieLinkUp ep s
  | .ringCfgWrite ep page ring evt cfg => Sys2Proof.Machine.execRingCfgWrite ep page ring evt cfg s
  | .msixUnmask ep vector => Sys2Proof.Machine.execMsixUnmask ep vector s
  | .discoverSend => Sys2Proof.Machine.execDiscoverSend s
  | .discoverRx port chainId position role ttl bid => Sys2Proof.Machine.execDiscoverRx port chainId position role ttl bid s
  | .chainLinkCut port => Sys2Proof.Machine.execChainLinkCut port s
  | .chainFrameRx port dst src ttl bid body => Sys2Proof.Machine.execChainFrameRx port dst src ttl bid body s
  | .readySend => Sys2Proof.Machine.execReadySend s
  | .goSend => Sys2Proof.Machine.execGoSend s
  | .barrierDeadline => Sys2Proof.Machine.execBarrierDeadline s
  | .atlasListenExpire => Sys2Proof.Machine.execAtlasListenExpire s
  | .takebackRunReached => Sys2Proof.Machine.execTakebackRunReached s
  | .takebackNWrite h value => Sys2Proof.Machine.execTakebackNWrite h value s
  | .summarySend => Sys2Proof.Machine.execSummarySend s
  | .resetReqSend position => Sys2Proof.Machine.execResetReqSend position s
  | .coldPowerOn => Sys2Proof.Machine.execColdPowerOn s
  | .brownout => Sys2Proof.Machine.execBrownout s
  | .supplyDrop => Sys2Proof.Machine.execSupplyDrop s
  | .resetPin lowNs => Sys2Proof.Machine.execResetPin lowNs s
  | .watchdog coreIdx => Sys2Proof.Machine.execWatchdog coreIdx s
  | .lockstep pair => Sys2Proof.Machine.execLockstep pair s
  | .criticalState sub code => Sys2Proof.Machine.execCriticalState sub code s
  | .safeResetExpire => Sys2Proof.Machine.execSafeResetExpire s
  | .resetStretchEnd => Sys2Proof.Machine.execResetStretchEnd s
  | .thermalResetRelease => Sys2Proof.Machine.execThermalResetRelease s
  | .optionLoad => Sys2Proof.Machine.execOptionLoad s
  | .pllLock pll => Sys2Proof.Machine.execPllLock pll s
  | .clockGoodTimeout pll => Sys2Proof.Machine.execClockGoodTimeout pll s
  | .blkSrstWrite value => Sys2Proof.Machine.execBlkSrstWrite value s
  | .blockResetDone block => Sys2Proof.Machine.execBlockResetDone block s
  | .bursolStart => Sys2Proof.Machine.execBursolStart s
  | .bootMailboxGo ep addr len image => Sys2Proof.Machine.execBootMailboxGo ep addr len image s
  | .svnCommitTimer => Sys2Proof.Machine.execSvnCommitTimer s
  | .faultReport unit sub code => Sys2Proof.Machine.execFaultReport unit sub code s
  | .faultRetryDone ok => Sys2Proof.Machine.execFaultRetryDone ok s
  | .tallyMessage channel msg => Sys2Proof.Machine.execTallyMessage channel msg s
  | .tamperEdge input assertion => Sys2Proof.Machine.execTamperEdge input assertion s
  | .pgoodAssert => Sys2Proof.Machine.execPgoodAssert s
  | .pgoodTimeout => Sys2Proof.Machine.execPgoodTimeout s
  | .vcoreSettle mv ok => Sys2Proof.Machine.execVcoreSettle mv ok s
  | .s0FrameRx ok bytes pkt => Sys2Proof.Machine.execS0FrameRx ok bytes pkt s
  | .debugHalt coreIdx halt => Sys2Proof.Machine.execDebugHalt coreIdx halt s

end Sys2Proof.Machine
end

