-- ==== Sys2Proof/Safety.lean ====
section
/-!
DEFINITION. The terms in which claims are made: what a safe run is, when a command that arrives as a packet is ready to run, and what it is for a command
to complete.
-/

namespace Sys2Proof.Machine

/-- The time unit holds a legal time: NS below one second (03 R68). -/
def TimeU.legal (t : TimeU) : Prop := t.ns.toNat < 1000000000

/-- A machine's outcome is safe: it goes on to a next state. -/
def Safe (o : Host.Outcome State Fault Refusal) : Prop := ∃ s, o = .next s

end Sys2Proof.Machine

namespace Sys2Proof.Goals

open Sys2Proof.Machine

/-! ### Commands that arrive as packets (10 R271 to R276) -/

/-- The session is open, its port listens, Bursol runs, and the packet is its next command, with nothing of its own or of another session waiting or
in flight before it; a port has one session (10 R253), and nothing forbids the command as a packet (10 R265, R271, R276). -/
def Ready (d : Dev) (h : Hdr) (op : IcpOp) (s : Session) : Prop :=
  d.alive = true ∧ d.cmdPairRuns = true ∧ d.ses h.port = some s ∧ (6 ≤ h.port ∨ d.flag .sesPortCfg h.port 63 = true) ∧
  ((h.port = 2 ∨ h.port = 3) → h.peer = s.peer) ∧ h.session = s.sid ∧ h.seq = s.h + 1 ∧ h.seq < 2 ^ 32 ∧ h.lenOk = true ∧
  (d.sessions.map Session.port).Nodup ∧ (∀ x ∈ d.sessions, x.waiting = []) ∧ (∀ r ∈ s.recs, r.slot = .done ∧ r.seq < h.seq) ∧
  d.nightNow = false ∧ d.flt.safe = false ∧ d.rst.maintenance = false ∧ d.headerForbids s h.tenancy = false ∧ d.lateFor (actOf s h) = false ∧
  (opCode op = 0x0900 → ∀ n ∈ tenNumbers, (d.ten n).run .reset = none ∧ (d.ten n).run .remove = none)

/-- The record with which an accepted command starts (10 R279). -/
def startRec (h : Hdr) (op : IcpOp) (s : Session) : Rec :=
  { seq := h.seq, slot := .run, opcode := opCode op, session := s.sid, inProgress := true, nPhase := (opPhases op).1, safeMax := (opPhases op).2,
    tenancy := actOf s h }

/-- The records that stay in the window when `h` is accepted (10 R271). -/
def kept (h : Hdr) (s : Session) : List Rec := s.recs.filter fun r => r.seq != h.seq && (decide (h.seq < r.seq + 64) || r.slot == .run)

/-- The session once it has accepted the command. -/
def accepted (h : Hdr) (op : IcpOp) (s : Session) : Session :=
  { s with h := h.seq, recs := kept h s ++ [startRec h op s], waiting := [{ h, op }] }

/-- The device as a command starts: the packet is counted, the command accepted and recorded, and it waits no more. -/
def taken (d : Dev) (h : Hdr) (op : IcpOp) (s : Session) : Dev :=
  (((d.sesCount h.port 0).modSes s.port fun x =>
      { x with h := h.seq, recs := kept h s ++ [startRec h op s], waiting := x.waiting ++ [{ h, op }] }).retain s.port (startRec h op s)).modSes s.port fun x =>
    { x with waiting := x.waiting.filter (·.h.seq != h.seq) }

/-- The issuer as the checks see it. -/
def issuer (h : Hdr) (op : IcpOp) (s : Session) : Ctx := { ses := accepted h op s, seq := h.seq, act := actOf s h }

/-- What follows the effect of a command: its reply, what the opcode does after it, and what that lets happen; no reply yet where the command goes
on. -/
def answered (d : Dev) (h : Hdr) (op : IcpOp) (s : Session) (r : Option Res) : Dev :=
  match r with
  | none => d.settle
  | some r => ((d.finishReply s.port s.sid h.seq r).afterReply s.port s.sid h.seq op r.st).settle

/-- Nothing waits for what a command brings about: no commit is armed, no background command of a tenancy runs, no command waits to start, and no
session is open on a disabled port. -/
def Quiet (d : Dev) : Prop :=
  d.commits = [] ∧ d.carts = [] ∧ (∀ n ∈ tenNumbers, (d.ten n).runs = []) ∧ (∀ x ∈ d.sessions, x.waiting = []) ∧
  (∀ x ∈ d.sessions, x.port < 6 → d.flag .sesPortCfg x.port 63 = true)

/-- The command `i` answers a next state: the queue as it was, and the device `d`. -/
def To (i : Instr) (s : State) (d : Dev) : Prop := exec i s = .next { s with dev := d }

/-- The command `i` answers a next state: the queue as it was, and a device of which `P` holds. -/
def Gives (i : Instr) (s : State) (P : Dev → Prop) : Prop := ∃ d, exec i s = .next { s with dev := d } ∧ P d

/-- The command of the table `i`, which delivers `op`, completes: on every state and session where it is ready and its own condition `ok` holds, it
answers a next state, with the effect `eff` and the reply `r` of the issuer and the device as it starts. A read-only reply fits the transport. -/
def Runs (i : Instr) (h : Hdr) (op : IcpOp) (ok : Ctx → Dev → Prop) (r : Ctx → Dev → Option Res) (eff : Ctx → Dev → Dev) : Prop :=
  ∀ (st : State) (s : Session), i.wellFormed = true → Ready st.dev h op s →
    ok (issuer h op s) (taken st.dev h op s) →
    (∀ x, r (issuer h op s) (taken st.dev h op s) = some x → (opPhases op).1 = 1 →
      28 + x.body.length ≤ (taken st.dev h op s).maxLen s.port) →
    To i st (answered (eff (issuer h op s) (taken st.dev h op s)) h op s (r (issuer h op s) (taken st.dev h op s)))

/-- The row `i` writes the item `it`: where its checks pass (19 R505) the item is written and the reply is OK at phase 2. -/
def Writes (i : Instr) (h : Hdr) (it : ParItem) : Prop :=
  Runs i h (.paramWrite it) (fun c d => d.itemStatus c false it = stOk) (fun _ _ => some rOk) (fun c d => d.writeItem c it)

end Sys2Proof.Goals
end

