-- ==== Sys2Proof/Certificates/Slice0/Obligations.lean ====
section
/-!
DEFINITION. The statements for the provers.
-/

open Sys2Proof Sys2Proof.Machine Sys2Proof.Goals

/-! ### The command protocol (10) -/

/-- The block takes the command at the front of its queue and has its effect on the device, with the queue's rest behind it. -/
def Obligations.StepRunsFront : Prop :=
  ∀ (c : Instr) (cs : List Instr) (d : Dev), step { pending := c :: cs, dev := d } = exec c { pending := cs, dev := d }

/-- With no command waiting, a step lets one PLL_TIM cycle pass (the model's choice, notes/assumptions/1.md). -/
def Obligations.StepOnEmptyQueueTicks : Prop :=
  ∀ d : Dev, step { pending := [], dev := d } = .next { pending := [], dev := d.tick }

/-- The handshake (10 R266 to R268) and the ways in which a session ends or is kept alive (10 R269, R270), where they take effect.
Choices of the model in it: notes/assumptions 10 and 39. -/
def Obligations.SessionCommandsComplete : Prop :=
  (∀ (s : State) (port peer role : Nat) (nonce key : Bytes), portOk port = true → s.dev.portAnswers port = true → (s.dev.prt port).locked = false →
      role = portRole port → s.dev.keyOf port = some key →
      let d := (s.dev.sesCount port 0).fresh.2
      let sid := (s.dev.sesCount port 0).fresh.1 % 65535 + 1
      let e := (d.freshBytes 32).2
      let n := (d.freshBytes 32).1
      To (.sessionHello port peer role nonce) s
        ((e.modPrt port fun p => { p with attempt := some { role, peer, sid, hostNonce := nonce, devNonce := n } }).handshake port peer sid 0 stOk
          (u16 sid ++ u8 (((e.prt port).key.map (·.kind)).getD 0) ++ zeros 1 ++ padTo 16 (((e.prt port).key.map (·.salt)).getD (zeros 16)) ++ n
            ++ padTo 16 Config.serial) none)) ∧
  (∀ (s : State) (port peer session : Nat) (mac key : Bytes) (a : Attempt), portOk port = true → s.dev.portAnswers port = true →
      (s.dev.prt port).attempt = some a → a.sid = session → a.peer = peer → s.dev.keyOf port = some key →
      mac = Config.hmacSha256 key (macBytes labelH port session a.devNonce a.hostNonce) →
      let d := (s.dev.sesCount port 0).closeSession port 1
      let cfg := d.get .sesPortCfg (d.cfgPort port)
      let x : Session :=
        { sid := session, port := port, role := portRole port, mediator := portRole port == 0 && bit cfg 62, peer := peer, cfg := cfg,
          timeoutMs := bits cfg 31 16 * 100, holeMs := bits cfg 15 8 }
      let d := d.modPrt port fun p => { p with attempt := none, fails := 0, locked := false, lockSecs := 0 }
      let d : Dev := { d with sessions := d.sessions ++ [x] }
      let d := d.when (decide (port < 2)) fun d => { d with pages := smSet 4 d.pages (port * 16) (bits cfg 59 56) }
      To (.sessionAuth port peer session mac) s
        (d.handshake port peer session 1 stOk
          (padTo 32 (Config.hmacSha256 key (macBytes labelD port session a.hostNonce a.devNonce)) ++ u32 x.timeoutMs ++ u32 (d.maxLen port)) none).settled) ∧
  (∀ (s : State) (port : Nat), portOk port = true →
      To (.authAttemptLapse port) s (s.dev.modPrt port fun p => { p with attempt := none }) ∧
      To (.authLockoutEnd port) s (s.dev.modPrt port fun p => { p with locked := false })) ∧
  (∀ h, Runs (.sessionClose h) h .sessionClose (fun _ _ => True) (fun _ _ => some (rRead [])) (fun _ d => d)) ∧
  (∀ h, Runs (.sessionPing h) h .sessionPing (fun _ _ => True) (fun _ d => some (rRead (tm d.now))) (fun _ d => d)) ∧
  (∀ (s : State) (port : Nat), portOk port = true →
      To (.sessionTimeout port) s (s.dev.closeSession port 2).settled ∧
      To (.sessionAlive port) s (s.dev.raise (toPort port) { code := 0xE000, object := port }) ∧
      To (.badPacket port) s ((s.dev.sesCount port 0).sesCount port 1)) ∧
  (∀ (s : State) (port seq : Nat) (x : Session), portOk port = true → s.dev.ses port = some x →
      (∃ r ∈ x.recs, r.seq = seq ∧ r.slot = .hole) →
      To (.holeExpire port seq) s
        ((s.dev.modSes port fun y => { y with recs := y.recs.filter (·.seq != seq) }).sesCount port 7).pump) ∧
  (∀ (s : State) (port : Nat) (x : Session), portOk port = true → s.dev.ses port = some x → x.undelivered = [] → 0 < x.lost →
      To (.eventsLost port) s
        ((s.dev.modSes port fun y => { y with lost := 0, lostFirst := 0 }).postEvent port
          { code := 0xE001, object := port, time := s.dev.now, epoch := s.dev.epoch, data := u32 x.lost ++ u32 x.lostFirst }))

/-- What a submission, completion or event doorbell does on a ring that is granted and enabled (10 R256, R257, R286).
Choices of the model in it: notes/assumptions 41. -/
def Obligations.DoorbellsComplete : Prop :=
  (∀ (s : State) (ep page ring tail : Nat) (l : List SubEntry), ep < 2 → page < 16 → ring < 8 → s.dev.alive = true →
      s.dev.ringOpen ep page ring = true → (s.dev.rng ((ep * 16 + page) * 8 + ring)).held = [] →
      let k := (ep * 16 + page) * 8 + ring
      let r := s.dev.rng k
      let n := min ((tail + 2 ^ 32 - r.sqHead % 2 ^ 32) % 2 ^ 32) (2 ^ r.cfg.sqLog2)
      To (.sqDoorbell ep page ring tail l) s (s.dev.each (l.take n) fun d e => d.takeEntry k e)) ∧
  (∀ (s : State) (ep page ring head : Nat), ep < 2 → page < 16 → ring < 8 → s.dev.ringOpen ep page ring = true →
      To (.cqDoorbell ep page ring head) s (s.dev.modRng ((ep * 16 + page) * 8 + ring) fun r => { r with cqHead := head % 2 ^ 32 })) ∧
  (∀ (s : State) (ep page head : Nat), ep < 2 → page < 16 → (s.dev.evr (ep * 16 + page)).en = true →
      (page = 0 ∨ (s.dev.pageOpen page = true ∧ s.dev.tenEp page = ep)) →
      (s.dev.evr (ep * 16 + page)).head + (head + 2 ^ 32 - (s.dev.evr (ep * 16 + page)).head % 2 ^ 32) % 2 ^ 32 ≤ (s.dev.evr (ep * 16 + page)).tail →
      let r := s.dev.evr (ep * 16 + page)
      To (.evtDoorbell ep page head) s
        ((s.dev.setEvr (ep * 16 + page) { r with head := r.head + (head + 2 ^ 32 - r.head % 2 ^ 32) % 2 ^ 32 }).eventSpaceBack (pagePort ep page)))

/-- DEVICE_DESCRIBE, TRAVERSE_QUERY, KEY_SET and EVENT_MASK run and answer (10 R267, R280, R282, R283, R286).
Choices of the model in it: notes/assumptions 38 and 40. -/
def Obligations.IdentityCommandsComplete : Prop :=
  (∀ h, Runs (.deviceDescribe h) h .deviceDescribe (fun _ _ => True) (fun c d => some (rRead (d.describe c))) (fun _ d => d)) ∧
  (∀ h session seq, Runs (.traverseQuery h session seq) h (.traverseQuery session seq) (fun _ _ => True)
      (fun c d => some (rRead (((d.traverse c session seq).map fun r => r.bytes false).getD (zeros 16)))) (fun _ d => d)) ∧
  (∀ h port kind salt key, Runs (.keySet h port kind salt key) h (.keySet port kind salt key)
      (fun c d => c.ses.mediator = true ∧ d.keyPort port = true ∧ kind ≤ 1) (fun _ _ => some rOk)
      (fun c d => (d.modPrt port fun p => { p with key := some { kind, salt := (padTo 16 salt).take 16, key := (padTo 32 key).take 32 } }).audit 0x0008
        (u8 port ++ u8 kind) c.ses.port (portRole c.ses.port))) ∧
  (∀ h mask, Runs (.eventMask h mask) h (.eventMask mask) (fun _ _ => True) (fun _ _ => some rOk)
      (fun c d => d.modSes c.ses.port fun s => { s with mask := mask % 65536 }))

/-! ### Parameters (19) -/

/-- PARAM_READ answers with the bytes of the value where the issuer may read every present element covered and the range is right (19 R504, R511,
R512); a read of BND.VIOL or TIM.TSI_FIFO removes the records it returns.
Choices of the model in it: notes/assumptions 44. -/
def Obligations.ParameterReadsComplete : Prop :=
  (∀ h p inForce off n, Runs (.paramRead h (some p) inForce off n) h (.paramRead (some p) inForce off n)
      (fun c d => (∀ e ∈ (p.info.covered off n).filter (d.parPresent p), d.mayRead c p e = true) ∧ off % 4 = 0 ∧ n % 4 = 0 ∧
        off + n ≤ p.info.bytes ∧ 28 + n ≤ d.maxLen c.ses.port)
      (fun _ d => some (rRead (d.parBytes p (inForce && p.info.shadow) off n)))
      (fun _ d => d.afterRead p ((p.info.covered off n).filter (d.parPresent p)))) ∧
  (∀ h n, n < 8 → Runs (.tsiFifoRead h n) h (.paramRead (some .timTsiFifo) false (n * 16) 16)
      (fun c d => (c.ses.mediator = true ∨ (d.tsi n).session = some (c.ses.port, c.ses.sid)) ∧ 44 ≤ d.maxLen c.ses.port)
      (fun _ d => some (rRead (d.parBytes .timTsiFifo false (n * 16) 16)))
      (fun _ d => d.setTsi n { d.tsi n with fifo := (d.tsi n).fifo.drop 1 })) ∧
  (∀ h, Runs (.bndViolRead h) h (.paramRead (some .bndViol) false 0 24)
      (fun c d => c.ses.mediator = true ∧ 52 ≤ d.maxLen c.ses.port)
      (fun _ d => some (rRead (d.parBytes .bndViol false 0 24)))
      (fun _ d => { d with mem := { d.mem with viol := d.mem.viol.drop 1 } }))

/-- PARAM_WRITE, and each row that writes one named parameter, writes its item where the item passes the checks of 19 R505; PARAM_WRITE_MULTI writes
its items in order where each passes them in its turn (10 R277).
Choices of the model in it: notes/assumptions 4 and 5. -/
def Obligations.ParameterWritesComplete : Prop :=
  (∀ h it, Writes (.paramWrite h it) h it) ∧
  (∀ h its, Runs (.paramWriteMulti h its) h (.paramWriteMulti its)
      (fun c d => (d.writeItems c its 0).2.1 = stOk)
      (fun _ _ => some { st := stOk, ph := 2, items := its.length })
      (fun c d => its.foldl (fun d it => d.writeItem c it) d)) ∧
  (∀ h n v, Writes (.srcCfgWrite h n v) h { par := some .srcCfg, offset := n * 8, data := leBytes 8 v }) ∧
  (∀ h p n v, Writes (.srcFlowWrite h p n v) h { par := some p, offset := n * p.info.bPow * p.info.stride, data := elemBytes p v }) ∧
  (∀ h input off data, Writes (.dpiEdidWrite h input off data) h { par := some .srcDpiEdid, offset := input * 512 + off, data }) ∧
  (∀ h v, Writes (.failbackNWrite h v) h { par := some .pltFailbackN, offset := 0, data := padTo 4 (leBytes 2 v) }) ∧
  (∀ h m v, Writes (.monCfgWrite h m v) h { par := some .encMonCfg, offset := m * 8, data := leBytes 8 v }) ∧
  (∀ h p o v, Writes (.witCfgWrite h p o v) h { par := some p, offset := o * p.info.bPow * p.info.stride, data := elemBytes p v }) ∧
  (∀ h v, Writes (.ptpCfgWrite h v) h { par := some .timPtpCfg, offset := 0, data := leBytes 4 v }) ∧
  (∀ h t v, t < 4 → Writes (.feCfgWrite h t v) h { par := some .grtFeCfg, offset := t * 8, data := leBytes 8 v }) ∧
  (∀ h v, Writes (.feCfgWrite h 4 v) h { par := some .grtSelfCfg, offset := 0, data := leBytes 8 v }) ∧
  (∀ h v, Writes (.baseStoreWrite h v) h { par := some .grtBaseStore, offset := 0, data := padTo 4 (leBytes 1 v) }) ∧
  (∀ h r v, Writes (.touchRingWrite h r v) h { par := some .grtRing, offset := r * 8, data := leBytes 8 v }) ∧
  (∀ h r v, Writes (.ringRdWrite h r v) h { par := some .grtRingRd, offset := r * 4, data := leBytes 4 v }) ∧
  (∀ h p v, Writes (.audioPortCfgWrite h p v) h { par := some .audPortCfg, offset := p * 4, data := leBytes 4 v }) ∧
  (∀ h p v, Writes (.ethCfgWrite h p v) h { par := some .lnkEthCfg, offset := p * 8, data := leBytes 8 v }) ∧
  (∀ h p v, Writes (.mdkCfgWrite h p v) h { par := some .mdkCfg, offset := p * 4, data := leBytes 4 v }) ∧
  (∀ (st : State) (h : Hdr) (v : Nat) (s : Session),
      let it : ParItem := { par := some .mdkBarrierCfg, offset := 0, data := leBytes 8 (setBits (st.dev.get .mdkBarrierCfg) 15 3 v) }
      let op : IcpOp := .paramWrite it
      portOk h.port = true → Ready st.dev h op s → (taken st.dev h op s).itemStatus (issuer h op s) false it = stOk →
      To (.takebackNWrite h v) st (answered ((taken st.dev h op s).writeItem (issuer h op s) it) h op s (some rOk)))

/-! ### Time (03) -/

/-- A PTP message is processed, a loss is noticed, a trust period ends, edges and pulses of the timed pins happen (03 R69, R73, R77 to R79, R85, R86,
R88), and TIME_STEP steps the clock (03 R80, R81), where each takes effect.
Choices of the model in it: notes/assumptions 11, 48 and 49. -/
def Obligations.TimeCommandsComplete : Prop :=
  (∀ (s : State) (port : Nat) (off : Int), s.dev.timePort port = true →
      To (.ptpMessageRx (.exchange port off)) s
        (let d : Dev := { s.dev with tim := { s.dev.tim with offset := off, lastValid := some s.dev.tim.elapsed, slavePort := port, gmValid := true } }
         let d := if s.dev.tim.st == .freeRun && !s.dev.tim.firstStepDone then d else d.stepNeeded (decide (s.dev.get .timStepThreshNs < off.natAbs))
         (d.servo off).exchangeState off)) ∧
  (∀ (s : State) (utc : Nat) (sm : Option Nat),
      To (.ptpMessageRx (.announce utc sm)) s
        { s.dev with tim := { s.dev.tim with utcOffset := utc % 65536, smpte := sm.getD s.dev.tim.smpte } }) ∧
  (∀ s : State, s.dev.tim.st = .locked →
      ∃ t, exec .announceTimeout s = .next t ∧ t.dev.tim.st = .holdover ∧ t.dev.tim.gmValid = false ∧ t.dev.tim.slavePort = 0xF ∧
        (s.dev.tim.rates.length < 64 → t.dev.tim.adj = s.dev.tim.adj)) ∧
  (∀ (s : State) (port : Nat), port < 10 → s.dev.timePort port = true → s.dev.tim.slavePort ≠ port → 8 ≤ port →
      To (.ptpSyncSend port) s (s.dev.send (.ptp port 0))) ∧
  (∀ s : State, s.dev.tim.st = .holdover → To .holdoverTrustExpire s { s.dev with tim := { s.dev.tim with trustOver := true } }) ∧
  (∀ (s : State) (n : Nat) (rise : Bool), n < 8 → s.dev.flag .timTsiCfg n 31 = true → s.dev.flag .timTsiCfg n (if rise then 29 else 30) = true →
      (∀ t, (s.dev.tsi n).lastEdge = some t → t + 8 ≤ s.dev.tim.elapsed) → (s.dev.tsi n).fifo.length < 16 →
      ∃ t, exec (.tsiEdge n rise) s = .next t ∧ (t.dev.tsi n).fifo.length = (s.dev.tsi n).fifo.length + 1 ∧
        (t.dev.tsi n).fifo.getLast? = some ((datumTime s.dev.now <<< 64) + (s.dev.epoch <<< 60) + (rise.toNat <<< 59) +
          ((s.dev.tsi n).ovfPending.toNat <<< 58) + (1 <<< 57) + ((s.dev.tsi n).count + 1) % 2 ^ 32) ∧
        (t.dev.tsi n).count = ((s.dev.tsi n).count + 1) % 2 ^ 32) ∧
  (∀ (s : State) (n : Nat), n < 4 → s.dev.tsoRuns n = true →
      To (.tsoEdge n) s
        (({ s.dev with tim := { s.dev.tim with tsoActive := if n ∈ s.dev.tim.tsoActive then s.dev.tim.tsoActive else n :: s.dev.tim.tsoActive } }.send
          (.pulse n true)).tsoSchedule n)) ∧
  (∀ (s : State) (n : Nat), n < 4 → n ∈ s.dev.tim.tsoActive →
      To (.tsoPulseEnd n) s ({ s.dev with tim := { s.dev.tim with tsoActive := s.dev.tim.tsoActive.filter (· != n) } }.send (.pulse n false))) ∧
  (∀ h mode delta, Runs (.timeStep h mode delta) h (.timeStep mode delta)
      (fun c d => c.partner = true ∧ d.chain.role = 0 ∧ (mode = 0 ∧ inS64 delta = true ∧ delta ≠ 0) ∧ d.recentStep = false)
      (fun _ d => some { st := stOk, ph := 3, body := stepReply delta ((d.epoch + 1) % 16) })
      (fun _ d => d.stepClock delta false))

/-- On every PLL_TIM cycle NS.F advances by 2 ns + ADJ and a full second carries into S; a step of either sign moves the clock by its size modulo 2⁴⁸
seconds, and both leave NS below 1,000,000,000 (03 R68). -/
def Obligations.ClockCountsAndSteps : Prop :=
  (∀ t : TimeU, t.ns.toNat < 1000000000 →
      let total := fun (t : TimeU) => ((t.s.toNat * 1000000000 + t.ns.toNat : Nat) : Int) * 2 ^ 32 + (t.f.toNat : Int)
      t.tick.ns.toNat < 1000000000 ∧ (total t.tick - (total t + 2 * 2 ^ 32 + t.adj.toInt)) % (2 ^ 48 * 1000000000 * 2 ^ 32) = 0) ∧
  (∀ (d : Dev) (size : Int) (auto : Bool),
      (d.stepClock size auto).tim.ns.toNat < 1000000000 ∧ (((d.stepClock size auto).now : Int) - ((d.now : Int) + size)) % (2 ^ 48 * 1000000000) = 0)

/-- A step, automatic or commanded, opens the next epoch in the cycle of the step and appends its size, the epoch it opened, the time after it and whether
it was automatic to a log of the last 15, newest first, in which an entry not yet filled reads zero (03 R81, 02 R45). -/
def Obligations.StepOpensEpochAndIsLogged : Prop :=
  ∀ (d : Dev) (size : Int) (auto : Bool),
    let e := d.stepClock size auto
    e.epoch = (d.epoch + 1) % 16 ∧ e.now = steppedTo d.now size ∧
    e.tim.log = ({ size, epoch := (d.epoch + 1) % 16, after := steppedTo d.now size, auto } :: d.tim.log).take 15 ∧
    (∀ i, e.tim.log.length ≤ i → e.stepLog i = 0)

/-- When the time unit leaves reset the device clock reads 0 s and 0 ns, ADJ is 0, the epoch is 0, the step log is empty and the state is FREE_RUN; every
SYS, POR and COLD reset resets it (03 R70, 16 R427). -/
def Obligations.TimeUnitReset : Prop :=
  let zero := fun (t : TimeU) => t.s = 0 ∧ t.ns = 0 ∧ t.adj = 0 ∧ t.epoch = 0 ∧ t.log = [] ∧ t.st = .freeRun
  zero State.reset.dev.tim ∧ (∀ (d : Dev) (cause level : Nat), level ≤ 2 → zero (d.takeReset cause level).tim)

/-! ### Sources and ingest (04) -/

/-- Frames of a source, the waits of ingest, multicast membership and the DisplayPort inputs' hot plug (04 R96, R97, R99, R100, R105, R106, R110, 02 R44),
and SOURCE_QUERY, where each takes effect.
Choices of the model in it: notes/assumptions 12 and 52. -/
def Obligations.IngestCommandsComplete : Prop :=
  (∀ (s : State) (port group : Nat), port < 8 → (s.dev.eth port).up = true → (s.dev.eth port).groupRepeat.contains group = true →
      To (.igmpReportRepeat port group) s
        (((s.dev.setEth port { s.dev.eth port with groupRepeat := (s.dev.eth port).groupRepeat.filter (· != group) }).send
          (s.dev.onEth port (.membership port group true))).count2 .lnkEthStat port 1)) ∧
  (∀ (s : State) (port group : Nat), port < 8 → (s.dev.eth port).up = true → group ≠ 0 → (s.dev.eth port).groups.filter (· == group) = [group] →
      To (.igmpQueryRx port group) s ((s.dev.send (s.dev.onEth port (.membership port group true))).count2 .lnkEthStat port 1)) ∧
  (∀ (s : State) (m n : Nat), m < 4 → s.dev.srcOn 3 m = some n → (s.dev.src n).hpdLow = true →
      To (.dpiHpdPulseEnd m) s ((s.dev.modSrc n fun x => { x with hpdLow := false }).send (.hpd m true))) ∧
  (∀ (s : State) (port : Nat) (vlan : Option Nat) (v6 : Bool) (dst sender udp n : Nat) (k : RtpPkt), port < 8 → (s.dev.eth port).up = true →
      let d := s.dev.count2 .lnkEthStat port 0
      d.rtpMatches port vlan v6 false dst sender udp k = true →
      argMin (fun n => (!d.flag .srcCfg n 52).toNat * 2 + (!d.flag .srcCfg n 53).toNat)
        (sourceNumbers.filter fun n => d.acceptsRtp n port vlan v6 dst sender udp k) = some n →
      To (.ethFrameRx port (.rtp vlan v6 false dst sender udp k)) s (d.rtpPacket n k (d.rxTime port))) ∧
  (∀ (s : State) (port : Nat), port < 8 → (s.dev.eth port).up = true →
      To (.ethFrameRx port .other) s ((s.dev.count2 .lnkEthStat port 0).count2 .lnkEthStat port 3)) ∧
  (∀ (s : State) (port : Nat), port < 8 → (s.dev.eth port).up = true → To (.ethFrameRx port .badFcs) s (s.dev.count2 .lnkEthStat port 2)) ∧
  (∀ (s : State) (n ts : Nat), n < 192 → (s.dev.src n).pics.any (·.ts == ts) = true →
      To (.jitterBufferExpire n ts) s
        ((s.dev.modSrc n fun x => { x with pics := x.pics.map fun p => if p.ts == ts || serialGt 32 ts p.ts then { p with expired := true } else p }).drain n)) ∧
  (∀ (s : State) (m n : Nat) (f : DpiFrame), m < 4 → s.dev.srcOn 3 m = some n → f.msaValid = true → f.complete = true → f.inRange = true →
      s.dev.inService (0x1C + m) = true → s.dev.inNight = false →
      Gives (.dpiFrameRx m f) s fun d => ∃ p ∈ (d.dec n).lastOut, p.stamp.cap = f.edge ∧ p.stamp.capsrc = 2 ∧ p.stamp.ing = s.dev.now ∧
        p.stamp.slice = 0xFF ∧ p.stamp.check = f.check ∧ p.slices.length = 1) ∧
  (∀ (s : State) (n : Nat), n < 192 → (s.dev.src n).st = .running ∨ (s.dev.src n).st = .format →
      Gives (.sourceLossTimeout n) s fun d => (d.src n).st = .lost ∧ (d.src n).lostAt = s.dev.tim.elapsed ∧ d.sourceLost n = true) ∧
  (∀ (s : State) (n : Nat) (t : Ns), n < 192 → (s.dev.src n).runStart = some t → (s.dev.src n).runRaised = false →
      To (.sourceFrozen n) s ((s.dev.modSrc n fun x => { x with runRaised := true }).srcEvent n 0xE204 (tm t ++ u32 ((s.dev.now - t) / 1000000)))) ∧
  (∀ h n, Runs (.sourceQuery h n) h (.sourceQuery n)
      (fun c d => n < 192 ∧ c.ownsOrMed (d.srcOwner n) = true)
      (fun _ d =>
        let x := d.stampBytes (d.lastWhole n)
        some (rRead (u32 (x.2.srcStatus n) ++ u32 (x.2.decStatus n) ++ u64 (x.2.detect n) ++ x.1)))
      (fun _ d => (d.stampBytes (d.lastWhole n)).2)) ∧
  (∀ h n k, Runs (.diagStampRead h n k) h (.diagStampRead n k)
      (fun c d => n < 192 ∧ k ≤ 255 ∧ c.ownsOrMed (d.srcOwner n) = true)
      (fun _ d => some (rRead (d.stampBytes (if k = 255 then d.lastWhole n else d.lastSlice n k)).1))
      (fun _ d => (d.stampBytes (if k = 255 then d.lastWhole n else d.lastSlice n k)).2))

/-- Ingest chooses the earliest of the heartbeat's and the mapped time while mapping is permitted and none lies after the ingest time, then CAPSRC
is 0; else the ingest time less the allowance, CAPSRC 1, with TIME_SUSPECT set where a time lay after the ingest time (04 R94, 02 R32). -/
def Obligations.CaptureTimeChoice : Prop :=
  (∀ (d : Dev) (n ts allow : Nat) (ing t : Ns), d.mappingPermitted = true → d.srcClock n ≠ 1 → t ≤ ing →
      d.captureTime n ts ing allow (some (some t)) = (t, 0, false)) ∧
  (∀ (d : Dev) (n ts allow : Nat) (ing t m : Ns), d.mappingPermitted = true → d.srcClock n = 1 → t ≤ ing → m ≤ ing →
      mapRtp (d.get .srcMediaOff n) ts ing = some m → d.captureTime n ts ing allow (some (some t)) = (min t m, 0, false)) ∧
  (∀ (d : Dev) (n ts allow : Nat) (ing t : Ns), d.mappingPermitted = true → ing < t →
      d.captureTime n ts ing allow (some (some t)) = (ing - allow * 100000, 1, true)) ∧
  (∀ (d : Dev) (n ts allow : Nat) (ing : Ns) (hb : Option (Option Ns)), d.mappingPermitted = false →
      d.captureTime n ts ing allow hb = (ing - allow * 100000, 1, false))

/-! ### Decode engines (05) -/

/-- An engine's slice completes (05 R124, R128 to R130): its stamp joins those of the picture in decode with CHECK written, CONCEALED where the slice
was a gap, did not parse or used a substitute; a redundant slice is only counted (R116). Of a source that no route forwards.
Choices of the model in it: notes/assumptions 7 and 57. -/
def Obligations.DecodeCommandsComplete : Prop :=
  (∀ (s : State) (r : SliceDec), r.src < 192 → r.outcome = .redundant → (s.dev.dec r.src).curStamps = [] →
      To (.sliceDecoded r) s (s.dev.decCount r.src 15)) ∧
  (∀ (s : State) (r : SliceDec) (p : AccPic) (e i : Nat) (own : Stamp), r.src < 192 → s.dev.routes = [] → (s.dev.dec r.src).cur = some p → p.seq = r.seq →
      (s.dev.dec r.src).engine = some e → s.dev.engUsable e = true → r.last = false → r.outcome = .ok → r.poison = false →
      p.slices.find? (·.1 == r.slice) = some (i, false, own) →
      Gives (.sliceDecoded r) s fun d =>
        (d.dec r.src).curStamps.getLast? = some { own with check := r.check, taint := own.taint ||| taintIf r.substituted tConcealed } ∧
        (r.substituted = false → (d.dec r.src).curStamps.dropLast = (s.dev.dec r.src).curStamps) ∧
        (d.dec r.src).cur = some { p with done := p.done ++ [i] }) ∧
  (∀ (s : State) (r : SliceDec) (p : AccPic) (e i : Nat) (gap : Bool) (own : Stamp), r.src < 192 → s.dev.routes = [] → (s.dev.dec r.src).cur = some p →
      p.seq = r.seq → (s.dev.dec r.src).engine = some e → s.dev.engUsable e = true → r.last = false → (gap = true ∨ r.outcome = .parseError) →
      r.outcome ≠ .redundant → p.slices.find? (·.1 == r.slice) = some (i, gap, own) →
      Gives (.sliceDecoded r) s fun d =>
        ∃ st, (d.dec r.src).curStamps.getLast? = some st ∧ bit st.taint 0 = true ∧ st.check = r.check ∧
          (d.dec r.src).cur = some { p with done := p.done ++ [i] })

/-- `taint_update` (05 R131): a concealed reference picture makes PENDING true and abandons any cycle, a concealed one that is not used for reference
changes neither; an intra picture and a picture that completes a cycle end the taint; any other picture while PENDING carries REF_TAINT; and without
PENDING nothing changes. -/
def Obligations.TaintProcedure : Prop :=
  (∀ (d : Dev) (n gen seq cause : Nat) (h : PicHead), h.isRef = true →
      let r := d.taintUpdate n gen seq h true cause
      r.1 = false ∧ (r.2.dec n).pending = true ∧ (r.2.dec n).cycle = .none) ∧
  (∀ (d : Dev) (n gen seq cause : Nat) (h : PicHead), (d.dec n).pending = false → d.taintUpdate n gen seq h false cause = (false, d)) ∧
  (∀ (d : Dev) (n gen seq cause : Nat) (h : PicHead), (d.dec n).pending = true → h.irap = true →
      let r := d.taintUpdate n gen seq h false cause
      r.1 = false ∧ (r.2.dec n).pending = false ∧ (r.2.dec n).cycle = .none) ∧
  (∀ (d : Dev) (n gen seq cause k : Nat) (h : PicHead), (d.dec n).pending = true → h.irap = false →
      (d.dec n).cycle = .assumed (k + 1) →
      let r := d.taintUpdate n gen seq h false cause
      r.1 = decide (0 < k) ∧ (r.2.dec n).pending = decide (0 < k) ∧ (r.2.dec n).cycle = if k = 0 then .none else .assumed k) ∧
  (∀ (d : Dev) (n gen seq cause : Nat) (h : PicHead), (d.dec n).pending = true → h.irap = false → h.recovery = none → (d.dec n).cycle = .none →
      d.fld .decCfg n 23 15 = 0 →
      let r := d.taintUpdate n gen seq h false cause
      r.1 = true ∧ (r.2.dec n).pending = true ∧ (r.2.dec n).cycle = .none)

/-! ### The camera image pipeline (06) -/

/-- The packets of a camera frame, its exposures' ends, the finished frame, exposure sets and reprocessing (06 R146, R151 to R160), where each takes
effect on a pipe that runs.
Choices of the model in it: notes/assumptions 53, 58 and 59. -/
def Obligations.ImagePipelineCommandsComplete : Prop :=
  (∀ (s : State) (c n vc fn : Nat), c < 4 → s.dev.pipeRuns c = true → s.dev.srcOn 4 c = some n →
      ({ s.dev.pipe c with port := s.dev.get .ipuPortCfg c } : Pipe).expOf vc = some 0 → (s.dev.pipe c).sets = [] → (s.dev.pipe c).early = [] →
      (s.dev.pipe c).cam = s.dev.get .ipuCamCfg c →
      Gives (.csiFrameStart c vc fn) s fun d =>
        (d.pipe c).sets = [{ e := ((s.dev.pipe c).extend fn).e, fn, fs := s.dev.now, epoch := s.dev.epoch, holdover := s.dev.holdoverFlag,
                             gen := s.dev.srcGen n, exps := [(0, {})] }] ∧
        (d.pipe c).e = ((s.dev.pipe c).extend fn).e ∧ (d.pipe c).fPrev = ((s.dev.pipe c).extend fn).fPrev) ∧
  (∀ (s : State) (c x : Nat) (l : CsiLine) (f : CamSet) (r : ExpRx), c < 4 → s.dev.pipeRuns c = true → l.corrected = false → l.supported = true →
      l.embedded = false → l.crcOk = true → l.overflow = false → (s.dev.pipe c).expOf l.vc = some x → (s.dev.pipe c).sets = [f] → f.exps = [(x, r)] →
      r.closed = false → r.lines < bits (s.dev.pipe c).cam 47 32 → l.samples = bits (s.dev.pipe c).cam 63 48 →
      Gives (.csiLineRx c l) s fun d => (d.pipe c).sets = [{ f with exps := [(x, { r with lines := r.lines + 1 })] }]) ∧
  (∀ (s : State) (c vc fn : Nat) (f : CamSet) (r : ExpRx), c < 4 → s.dev.pipeRuns c = true → (s.dev.pipe c).expOf vc = some 0 →
      (s.dev.pipe c).nExp = 1 → (s.dev.pipe c).sets = [f] → f.exps = [(0, r)] → r.closed = false → f.ing = none → f.discard = false →
      r.lines = bits (s.dev.pipe c).cam 47 32 →
      Gives (.csiFrameEnd c vc fn) s fun d =>
        (d.pipe c).sets = [{ f with exps := [(0, { r with closed := true })], ing := some ((s.dev.now : Int) - s.dev.stepSum f.epoch).toNat }]) ∧
  (∀ (s : State) (c : Nat) (f : CamSet) (r : ExpRx), c < 4 → (s.dev.pipe c).nExp = 1 → (s.dev.pipe c).sets = [f] →
      f.exps = [(0, r)] → r.closed = false → f.ing = none → f.discard = false → r.lines < bits (s.dev.pipe c).cam 47 32 →
      Gives (.csiExposureTimeout c 0) s fun d =>
        (d.pipe c).sets = [{ f with exps := [(0, { r with closed := true })], cropPad := true,
                                    ing := some ((s.dev.now : Int) - s.dev.stepSum f.epoch).toNat }]) ∧
  (∀ (s : State) (c n : Nat) (f : CamFrame) (m : CamSet) (t : Ns), c < 4 → s.dev.routes = [] → s.dev.srcOn 4 c = some n →
      (s.dev.pipe c).sets = [m] →
      m.ing = some t → m.gen = s.dev.srcGen n → (s.dev.src n).st = .running → (s.dev.src n).fmt = some (s.dev.pipeFormat c) →
      (s.dev.pipe c).pend = [] → (s.dev.pipe c).inForce = none →
      Gives (.ipuFrameDone c f) s fun d =>
        ∃ p, (d.dec n).lastOut = some p ∧ p.stamp.cap = m.fs - bits (s.dev.pipe c).cam 15 0 * 1000 ∧ p.stamp.capsrc = 2 ∧ p.stamp.ing = t ∧
          p.stamp.slice = 0xFF ∧ p.stamp.src = n ∧ p.stamp.seq = (s.dev.src n).nextSeq ∧ p.stamp.check = f.check ∧ p.stamp.hbCtr = 0 ∧
          (d.pipe c).sets = []) ∧
  (∀ h pipe tag sets, Runs (.ipuExpose h pipe tag sets) h (.ipuExpose pipe tag sets)
      (fun c d => d.present 20 = true ∧ (((d.srcOn 4 pipe).any fun n => c.owns (d.srcOwner n)) = true ∨ c.ses.mediator = true) ∧ pipe ≤ 3 ∧ tag ≠ 0 ∧
        sets.length = bits (d.get .ipuPortCfg pipe) 7 6 + 1 ∧ (∀ x ∈ sets, x.expNs ≠ 0 ∧ x.gain ≠ 0) ∧ (d.pipe pipe).pend = [])
      (fun _ d => some { st := stOk, ph := 3, body := u32 (if d.flag .ipuCamCfg pipe 20 then 0xFFFFFFFF
        else ((d.pipe pipe).e + d.fld .ipuCamCfg pipe 19 16) % 2 ^ 32) })
      (fun c d => d.modPipe pipe fun p =>
        { p with pend := [{ tag, sets, port := c.ses.port, session := c.ses.sid, seq := c.seq, embedded := d.flag .ipuCamCfg pipe 20,
                            target := if d.flag .ipuCamCfg pipe 20 then 0xFFFFFFFF
                              else ((d.pipe pipe).e + d.fld .ipuCamCfg pipe 19 16) % 2 ^ 32 }] })) ∧
  (∀ (s : State) (c : Nat) (x : ExpSet), c < 4 → (s.dev.pipe c).pend = [x] → x.embedded = true → x.framesLeft = 0 →
      To (.ipuExposeTimeout c x.tag) s
        ((s.dev.modPipe c fun p => { p with pend := [] }).ipuEvent c 4 (u32 (s.dev.pipe c).e ++ u16 x.tag))) ∧
  (∀ h tap pipe copy inAddr outAddr outFmt config, Runs (.ipuReprocess h tap pipe copy inAddr outAddr outFmt config) h
        (.ipuReprocess tap pipe copy inAddr outAddr outFmt config)
      (fun c d =>
        let cam := if copy = 1 then leVal (config.take 8) else d.get .ipuCamCfg pipe
        let nin := tapBytes cam tap (d.fld .ipuPortCfg pipe 7 6 + 1)
        d.present 20 = true ∧ (((d.srcOn 4 pipe).any fun n => c.owns (d.srcOwner n)) = true ∨ c.ses.mediator = true) ∧ pipe ≤ 3 ∧ tap ≤ 4 ∧
        (copy = 0 ∨ (copy = 1 ∧ 8 ≤ config.length)) ∧ 64 ≤ bits outFmt 63 48 ∧ bits outFmt 63 48 ≤ 7680 ∧ 64 ≤ bits outFmt 47 32 ∧
        bits outFmt 47 32 ≤ 7680 ∧ 1 ≤ bits outFmt 31 28 ∧ bits outFmt 31 28 ≤ 3 ∧ bits outFmt 27 24 = 10 ∧
        (bits outFmt 23 20 = 1 ∨ bits outFmt 23 20 = 2) ∧ 0 < nin ∧ d.allTagged inAddr nin (d.ownerColour c.act) = true ∧
        d.allTagged outAddr (bits outFmt 63 48 * bits outFmt 47 32 * 8) (d.ownerColour c.act) = true)
      (fun _ _ => none)
      (fun c d => (d.modPipe pipe fun p => { p with reproc := p.reproc ++
          [{ port := c.ses.port, session := c.ses.sid, seq := c.seq, inAddr, outAddr, outLen := bits outFmt 63 48 * bits outFmt 47 32 * 8, pipe }] }).phaseDone c.ses.port c.ses.sid c.seq 2)) ∧
  (∀ (s : State) (c : Nat) (j : Reproc) (rest : List Reproc), c < 4 → (s.dev.pipe c).reproc = j :: rest →
      (∀ i < 4, ((s.dev.pipe i).taps.find? (·.1 == j.inAddr)) = none) →
      let (st, d) := s.dev.unprovenStamp
      let d := (d.scribble j.outAddr j.outLen).modPipe c fun p => { p with reproc := rest, outs := (j.outAddr, st) :: p.outs.filter (·.1 != j.outAddr) }
      let d := d.each (List.range 4) fun d i => d.modPipe i fun p => { p with taps := p.taps.filter (·.1 != j.outAddr) }
      st.proof = 0 ∧ To (.reprocessDone c) s (d.finishReply j.port j.session j.seq { st := stOk, ph := 3 }).settled)

/-- The extended frame number (06 R160): a frame number of 0 advances E by one, a jump of 2 to 16 from the last nonzero number advances E by as
much, and any other jump, or a repeat, by one, modulo 2³². -/
def Obligations.ExtendedFrameNumber : Prop :=
  (∀ p : Pipe, (p.extend 0).e = (p.e + 1) % 2 ^ 32 ∧ (p.extend 0).fPrev = p.fPrev) ∧
  (∀ (p : Pipe) (q j : Nat), p.fPrev = some q → q < 2 ^ 16 → j < 2 ^ 16 → (q + j) % 2 ^ 16 ≠ 0 →
      (p.extend ((q + j) % 2 ^ 16)).e = (p.e + if 1 ≤ j ∧ j ≤ 16 then j else 1) % 2 ^ 32 ∧
      (p.extend ((q + j) % 2 ^ 16)).fPrev = some ((q + j) % 2 ^ 16)) ∧
  (∀ (p : Pipe) (fn : Nat), p.fPrev = none → fn ≠ 0 → (p.extend fn).e = (p.e + 1) % 2 ^ 32 ∧ (p.extend fn).fPrev = some fn)

/-! ### Composition (07, 02 R53 to R66) -/

/-- LAYER_COMMIT and the cartouche opcodes where their checks pass (07 R180, R187, R190): a commit is armed and accepted with its target frames; a bank
that is neither in force nor armed takes its bytes.
Choices of the model in it: notes/assumptions 66. -/
def Obligations.CommitCommandsComplete : Prop :=
  (∀ h mask, Runs (.layerCommit h mask) h (.layerCommit mask)
      (fun c d => ∀ x ∈ d.commitChecks (d.plan mask (c.ses.mediator && c.act == 0) c.act) c.act, x.1 = false)
      (fun c d => some (rAccepted 2 (outputNumbers.flatMap fun o =>
        u64 (if bit mask o then d.targetFrame (d.plan mask (c.ses.mediator && c.act == 0) c.act) o else 0))))
      (fun c d => d.arm c.ses.port c.ses.sid c.seq c.act (c.ses.mediator && c.act == 0) (d.plan mask (c.ses.mediator && c.act == 0) c.act))) ∧
  (∀ h o off data, Runs (.cartWrite h o off data) h (.cartWrite o off data)
      (fun c d => o < 8 ∧ d.present (4 + plateOf o) = true ∧ c.ownsCart d o = true ∧ off + data.length ≤ 0x6E000 ∧
        ∀ b ∈ d.cartBanks o, ∀ r ∈ d.cartRects o b, min ((rectRange r).1 + (rectRange r).2) (off + data.length) ≤ max (rectRange r).1 off)
      (fun _ _ => some rOk) (fun _ d => d.poke (cartSlot o + off) data)) ∧
  (∀ h o bank entries, Runs (.cartLut h o bank entries) h (.cartLut o bank entries)
      (fun c d => o < 8 ∧ d.present (4 + plateOf o) = true ∧ c.ownsCart d o = true ∧ bank ≤ 1 ∧ entries.length = 256 ∧
        ∀ b ∈ d.cartBanks o, bits (d.cartCtl o b) 31 31 ≠ bank)
      (fun _ _ => some rOk) (fun _ d => d.poke (cartSlot o + 0x76000 + bank * 0x800) (entries.flatMap u64))) ∧
  (∀ h o bank images, Runs (.cartGlyph h o bank images) h (.cartGlyph o bank images)
      (fun c d => o < 8 ∧ d.present (4 + plateOf o) = true ∧ c.ownsCart d o = true ∧ bank ≤ 1 ∧ images.length = 16384 ∧
        ∀ b ∈ d.cartBanks o, bits (d.cartCtl o b) 30 30 ≠ bank)
      (fun _ _ => some rOk) (fun _ d => d.poke (cartSlot o + 0x6E000 + bank * 0x4000) images)) ∧
  (∀ h o bank ctl rects, Runs (.cartDesc h o bank ctl rects) h (.cartDesc o bank ctl rects)
      (fun c d => o < 8 ∧ d.present (4 + plateOf o) = true ∧ c.ownsCart d o = true ∧ bank ≤ 1 ∧ bank ∉ d.cartBanks o ∧ bits ctl 3 0 ≤ 8 ∧
        rects.length = bits ctl 3 0 ∧ bits ctl 63 48 % 32 = 0 ∧ bits ctl 47 32 % 32 = 0 ∧
        ∀ w ∈ rects, 1 ≤ bits w 39 30 ∧ bits w 39 30 ≤ 960 ∧ 1 ≤ bits w 29 20 ∧ bits w 29 20 ≤ 540)
      (fun _ _ => some rOk) (fun _ d => d.poke (cartSlot o + 0x77100 + bank * 128) (u64 (ctlFields ctl) ++ rects.flatMap u64))) ∧
  (∀ h mask bank, Runs (.cartCommit h mask bank) h (.cartCommit mask bank)
      (fun c d => mask % 256 ≠ 0 ∧ bank ≤ 1 ∧ ∀ o ∈ outsOf mask, d.present (4 + plateOf o) = true ∧ c.ownsCart d o = true ∧ d.cartFits o bank = true)
      (fun _ _ => some (rAccepted 3))
      (fun c d =>
        let e := d.each (outsOf mask) fun d o => d.computeExpected o bank true
        { e with carts := e.carts ++ [{ port := c.ses.port, session := c.ses.sid, seq := c.seq, bank, mask, left := mask % 256 }] }))

/-- The frames and bands of an output, the sink's readback and the compares, where each takes effect (07 R163 to R166, R192 to R197, 02 R54, R57,
R64). A commit point whose output has nothing armed numbers the frame; the frame that begins to leave starts its checks afresh; a composed band
leaves as composed, any other from the hold reader.
Choices of the model in it: notes/assumptions 60 to 65. -/
def Obligations.FrameCommandsComplete : Prop :=
  (∀ (s : State) (o : Nat), o < 8 → Quiet s.dev → (s.dev.out o).raster = true → s.dev.composes o = true → s.dev.plateComposes o = true →
      s.dev.chain.role = 0 →
      Gives (.frameCommitPoint o) s fun d =>
        (d.out o).cp = (s.dev.out o).cpNext ∧ (d.out o).cpNext = (s.dev.out o).cpNext + 1 ∧ (d.out o).fromBand0 = true ∧
        (d.out o).barrierHold = false ∧ (d.out o).noticeDrawn = s.dev.sec.service.isSome) ∧
  (∀ (s : State) (o : Nat) (err : Int), o < 8 → Quiet s.dev → (s.dev.out o).raster = true → (s.dev.out o).stopping = false →
      (s.dev.out o).offNext = false → (s.dev.plate (plateOf o)).backAtFrame = false →
      Gives (.frameStart o err) s fun d =>
        (d.out o).frame = (s.dev.out o).cp ∧ (d.out o).errNs = err ∧ (d.out o).glyphOk = false ∧ (d.out o).witnessTiles = [] ∧
        (d.out o).witnessBands = [] ∧ (d.out o).witnessHeld = false ∧
        (d.out o).frameLocked = (s.dev.flagF .pltOutCfg o 30 && s.dev.tim.st != .freeRun &&
          decide (err.natAbs * tmPclk (s.dev.timing o) < tmHtotal (s.dev.timing o) * 1000000000))) ∧
  (∀ (s : State) (o band : Nat) (t : Ns) (tiles : List TileIn) (px : List BandPx), Instr.wellFormed (.bandCompose o band t tiles px) = true →
      s.dev.composes o = true → s.dev.plateComposes o = true → (s.dev.out o).barrierHold = false → band ∉ (s.dev.out o).heldBands →
      band < s.dev.bands o →
      To (.bandCompose o band t tiles px) s (s.dev.composeBand o band t tiles px)) ∧
  (∀ (s : State) (o band : Nat), Instr.wellFormed (.bandDeadline o band) = true → s.dev.composes o = true → band < s.dev.bands o →
      band ∉ (s.dev.out o).bandsDone → band ∉ (s.dev.out o).heldBands →
      let d := s.dev.modOut o fun x => { x with heldBands := band :: x.heldBands }
      To (.bandDeadline o band) s (if s.dev.plateComposes o = true ∧ (s.dev.out o).barrierHold = false then d.reportFault (s.dev.driver o) 0 3 else d)) ∧
  (∀ (s : State) (o band : Nat) (t : Ns), Instr.wellFormed (.bandScanout o band t) = true → s.dev.composes o = true → band + 1 < s.dev.bands o →
      band ≠ (s.dev.out o).glyphBand → band ∈ (s.dev.out o).bandsDone → band ∉ (s.dev.out o).heldBands → s.dev.flt.safe = false →
      To (.bandScanout o band t) s (s.dev.bandLeaves o band t false ((s.dev.out o).tiles.filter fun e => e.1 / 32 == band)
        (smGet [] (s.dev.out o).bandPx band) (smGet 0 (s.dev.out o).bandCheck band))) ∧
  (∀ (s : State) (o band : Nat) (t : Ns), Instr.wellFormed (.bandScanout o band t) = true → s.dev.composes o = true → band + 1 < s.dev.bands o →
      (band ∉ (s.dev.out o).bandsDone ∨ band ∈ (s.dev.out o).heldBands ∨ s.dev.flt.safe = true) →
      Gives (.bandScanout o band t) s fun d =>
        (d.out o).witnessHeld = true ∧ (d.out o).witnessBands.any (fun e => e.1 == band) = true ∧
        ∃ check, d.sent = .band o band check true :: s.dev.sent) ∧
  (∀ (s : State) (o a b c x y z : Nat), Instr.wellFormed (.sinkCrcReadback o [a, b, c] [a, b, c, x, y, z]) = true →
      s.dev.flag .datSinkCrcEn o 0 = true → (s.dev.dp o).up = true → (s.dev.out o).raster = true → (s.dev.out o).unwitnessed = false →
      To (.sinkCrcReadback o [a, b, c] [a, b, c, x, y, z]) s
        (s.dev.modOut o fun p => { p with sinkOk := true, sinkRun := 0, sinkResult := some ([a, b, c], [a, b, c], true) })) ∧
  (∀ (s : State) (o band v : Nat), Instr.wellFormed (.benchCompare o band v) = true → s.dev.spareOk = true → s.dev.bench.standIn = none →
      s.dev.bench.stage = 0 → s.dev.comparable o = true → s.dev.bandValue o band = some v →
      To (.benchCompare o band v) s
        (({ s.dev with bench := { s.dev.bench with lfsr := Config.lfsrNext s.dev.bench.lfsr, compares := s.dev.bench.compares + 1 } } : Dev).outCount o 7)) ∧
  (∀ (s : State) (p o band v : Nat), Instr.wellFormed (.failbackCompare p o band v) = true → (s.dev.plate p).failover = true →
      (s.dev.plate p).resetDone = true → s.dev.inReset p = false → plateOf o = p → s.dev.composes o = true → s.dev.bandValue o band = some v →
      To (.failbackCompare p o band v) s ((s.dev.modPlate p fun x => { x with run := x.run + 1 }).failbackDue p)) ∧
  (∀ (s : State) (p : Nat), p < 4 → (s.dev.plate p).failover = true → (s.dev.plate p).resetDone = true → s.dev.get .pltFailbackN ≤ (s.dev.plate p).run →
      To (.failbackRunReached p) s (s.dev.modPlate p fun x => { x with backAtFrame := true }))


/-! ### Encode engines and the witness recorder (08) -/

/-- What the encode engines, the recorder and the command pair finish, and the recorder's timeout (08 R210, R215, R216, R220, R222), where each takes
effect, and WITNESS_QUERY. A record takes the next RSEQ of its segment.
Choices of the model in it: notes/assumptions 17 and 67. -/
def Obligations.WitnessCommandsComplete : Prop :=
  (∀ (s : State) (o : Nat) (c : Ckpt), o < 8 → (s.dev.wit o).ckptPending = some c →
      Gives (.checkpointWrite o) s fun d =>
        (d.wit o).ckptPending = none ∧ (d.wit o).writeB = (!(s.dev.wit o).writeB) ∧
        ((s.dev.wit o).writeB = true → (d.wit o).slotB = some c ∧ (d.wit o).slotA = (s.dev.wit o).slotA) ∧
        ((s.dev.wit o).writeB = false → (d.wit o).slotA = some c ∧ (d.wit o).slotB = (s.dev.wit o).slotB)) ∧
  (∀ (s : State) (o : Nat) (r : WRec), o < 8 → (s.dev.wit o).recs = [r] → r.signed = true → r.sent = false →
      Gives (.recordSigned o r.rseq) s fun d =>
        (d.wit o).recs = [{ r with sent := true, bytes := r.bytes ++ padTo 96 (Config.ecdsaSign 0 r.chain) }]) ∧
  (∀ (s : State) (o : Nat) (rows : List CodedRow) (au : Bytes) (p : WPend), Instr.wellFormed (.witnessPictureCoded o rows au) = true →
      (s.dev.wit o).pend = [p] → p.due = true → p.gapCode = 0 → (s.dev.wit o).started = true → (s.dev.wit o).rseq < 0xFFFFFFFF →
      Gives (.witnessPictureCoded o rows au) s fun d =>
        (d.wit o).pend = [] ∧ (d.wit o).rseq = (s.dev.wit o).rseq + 1 ∧
        ∃ r, (d.wit o).recs.getLast? = some r ∧ r.rseq = (s.dev.wit o).rseq + 1 ∧ r.type = 1 ∧ r.chain = (d.wit o).chain) ∧
  (∀ (s : State) (o cause : Nat) (p : WPend), Instr.wellFormed (.witnessNotCoded o cause) = true → 1 ≤ cause → cause ≤ 4 →
      (s.dev.wit o).pend = [p] → p.due = true → (s.dev.wit o).started = true → (s.dev.wit o).rseq < 0xFFFFFFFF →
      Gives (.witnessNotCoded o cause) s fun d =>
        (d.wit o).pend = [] ∧ (d.wit o).rseq = (s.dev.wit o).rseq + 1 ∧
        ∃ r, (d.wit o).recs.getLast? = some r ∧ r.type = 1 ∧ r.signed = true ∧ r.sent = false) ∧
  (∀ (s : State) (m : Nat) (rows : List CodedRow), Instr.wellFormed (.monitorPictureCoded m rows) = true → s.dev.monEn m = true →
      (s.dev.mon m).running = true →
      Gives (.monitorPictureCoded m rows) s fun d => (d.mon m).started = true ∧ (d.mon m).idrDue = false ∧ (d.mon m).sizes ≠ []) ∧
  (∀ (s : State) (o : Nat), o < 8 → (s.dev.wit o).started = true → (s.dev.wit o).lost = false → (s.dev.wit o).rseq < 0xFFFFFFFF →
      Gives (.witnessAckTimeout o) s fun d =>
        (d.wit o).lost = true ∧ (d.wit o).rseq = (s.dev.wit o).rseq + 1 ∧ ∃ r, (d.wit o).recs.getLast? = some r ∧ r.type = 4 ∧ r.signed = true) ∧
  (∀ h o, Runs (.witnessQuery h o) h (.witnessQuery o) (fun c _ => c.partner = true ∧ o < 8)
      (fun _ d =>
        let ck := (d.wit o).newest
        some (rRead (u32 ((ck.map (·.segment)).getD 0) ++ u32 ((ck.map (·.rseq)).getD 0) ++ padTo 48 ((ck.map (·.chain)).getD []) ++ u8 (d.wit o).lost.toNat)))
      (fun _ d => d))

/-- The records of an output form one chain per segment (08 R213, R215): a record that is made takes the next RSEQ, carries the CHAIN of the record
before it as PREV_HASH, and its own CHAIN is the hash of what stands before that. -/
def Obligations.RecordsFormAChain : Prop :=
  ∀ (d : Dev) (o type wlevel frame : Nat) (ref : Ns) (flags epoch : Nat) (sections : List (Nat × Bytes)) (au : Bytes),
    (d.wit o).started = true → (d.wit o).rseq < 0xFFFFFFFF →
    let e := d.chainRecord o type wlevel frame ref flags epoch sections au
    (e.wit o).rseq = (d.wit o).rseq + 1 ∧ (e.wit o).segment = (d.wit o).segment ∧
    ∃ r, (e.wit o).recs.getLast? = some r ∧ r.rseq = (d.wit o).rseq + 1 ∧ (r.bytes.drop 40).take 48 = padTo 48 (d.wit o).chain ∧
      r.bytes = r.bytes.take (r.bytes.length - 48) ++ r.chain ∧ r.chain = padTo 48 (Config.sha384 (r.bytes.take (r.bytes.length - 48))) ∧
      (e.wit o).chain = r.chain ∧ r.signed = bit flags 15

/-- By the row-exhaustion rule a picture never exceeds its cap (08 R208, R210), where the cap holds the reserve of the whole picture, a slice header
takes at most 256 bits and a block coded as skip at most K. -/
def Obligations.PictureFitsItsCap : Prop :=
  ∀ (idr : Bool) (cap : Nat) (target : Rat) (rows : List CodedRow),
    let k := if idr then 32 else 16
    (∀ r ∈ rows, r.header ≤ 256 ∧ ∀ b ∈ r.blocks, b.2.2.1 ≤ k) → rowsReserve k rows ≤ cap → (codePicture idr cap target rows).used ≤ cap

/-! ### The Bushel scheduler and device states (09, 18 R486) -/

/-- The scheduler's frame starts, its energy account, admissions, islands, sensors and thermal budget, where each takes effect (09 R226 to R232, R238,
R239, R241). The account of a frame grows by exactly the energy of the activities counted.
Choices of the model in it: notes/assumptions 68. -/
def Obligations.SchedulerCommandsComplete : Prop :=
  (∀ (s : State) (f : Forecast), Instr.wellFormed (.accountingFrameStart f) = true → s.dev.bsh.running = false → s.dev.bsh.suspended = [] →
      Gives (.accountingFrameStart f) s fun d =>
        let host := s.dev.fld .bshCfg 0 63 48
        let b := budget (min host (clampTherm host s.dev.bsh.bTherm)) f.frameNs
        let allow := b - ((f.base : Nat) : Rat) / 1000 - max (b / 20) (((f.c : Nat) : Rat) / 1000) - s.dev.bsh.debt
        let cand := f.sources.filter fun x => (s.dev.routesOf x.1).isEmpty
        d.bsh.running = true ∧ d.bsh.cfg = s.dev.get .bshCfg ∧ d.bsh.bFrame = b ∧ d.bsh.allow = allow ∧
        (d.bsh.level, d.bsh.fits) = nextLevel f (12 + cand.length) s.dev.bsh.level s.dev.bsh.fits allow ∧
        d.bsh.base = 0 ∧ d.bsh.c = 0 ∧ d.bsh.l = 0 ∧ d.bsh.a = 0) ∧
  (∀ (s : State) (acts : List Activity), Instr.wellFormed (.energyTick acts) = true →
      Gives (.energyTick acts) s fun d =>
        d.bsh.base + d.bsh.c + d.bsh.l + d.bsh.a =
          s.dev.bsh.base + s.dev.bsh.c + s.dev.bsh.l + s.dev.bsh.a + (acts.map fun a => s.dev.energyOf a).sum ∧
        d = { s.dev with bsh := d.bsh }) ∧
  (∀ (s : State) (src cost cls : Nat), Instr.wellFormed (.jobLatestStart src cost cls) = true →
      let b := s.dev.bsh
      (cls = 1 → To (.jobLatestStart src cost cls) s s.dev) ∧
      (cls = 2 → b.l + b.a < b.allow ∨ b.debt < b.bFrame / 4 → To (.jobLatestStart src cost cls) s s.dev) ∧
      (cls = 2 → b.allow ≤ b.l + b.a → b.bFrame / 4 ≤ b.debt → To (.jobLatestStart src cost cls) s (s.dev.count .bshStat 4 1)) ∧
      (cls = 3 → b.l + b.a + ((cost : Nat) : Rat) / 1000 ≤ b.allow → To (.jobLatestStart src cost cls) s s.dev) ∧
      (cls = 3 → b.allow < b.l + b.a + ((cost : Nat) : Rat) / 1000 → To (.jobLatestStart src cost cls) s (s.dev.count .bshStat 5 1))) ∧
  (∀ (s : State) (unit sub : Nat), Instr.wellFormed (.jobTimeout unit sub) = true →
      To (.jobTimeout unit sub) s (s.dev.reportFault unit sub 3).settled) ∧
  (∀ (s : State) (i : Nat), Instr.wellFormed (.islandWake i) = true → s.dev.inNight = false →
      Gives (.islandWake i) s fun d => i ∈ d.bsh.islandsOn ∧ (∀ j ≠ i, j ∈ d.bsh.islandsOn ↔ j ∈ s.dev.bsh.islandsOn) ∧
        d.sent = .powerGate i true :: s.dev.sent) ∧
  (∀ (s : State) (p : Nat), Instr.wellFormed (.pllRestart p) = true →
      To (.pllRestart p) s { s.dev with bsh := { s.dev.bsh with pllStopped := s.dev.bsh.pllStopped.filter (· != p) } }) ∧
  (∀ (s : State) (v : Nat → Int), Quiet s.dev → (∀ k < 12, -2 ^ 15 ≤ v k ∧ v k < 115 * 16) →
      let t : Temps := (List.range 12).map fun k => some (v k)
      Instr.wellFormed (.thermalSample t) = true →
      Gives (.thermalSample t) s fun d =>
        (∀ k < 12, v k ≤ d.bsh.tMax) ∧ (∃ k < 12, v k = d.bsh.tMax ∧ d.bsh.tMaxSensor = k) ∧ d.bsh.excluded = [] ∧ d.bsh.tripRun = 0 ∧ d.rst = s.dev.rst) ∧
  (∀ s : State, Gives .bthermUpdate s fun d =>
      d.bsh.bTherm = clampTherm s.dev.bsh.host (if (16 * s.dev.bsh.target : Int) < s.dev.bsh.tMax then s.dev.bsh.bTherm - 500
        else if s.dev.bsh.tMax < (16 * s.dev.bsh.target : Int) - 32 then s.dev.bsh.bTherm + 100 else s.dev.bsh.bTherm))

/-- POWER_STATE and the steps of NIGHT and of the way back, the wake timer and the core voltage, where each takes effect (09 R244 to R247, R252,
18 R486). -/
def Obligations.PowerCommandsComplete : Prop :=
  (∀ h target, Runs (.powerState h target) h (.powerState target)
      (fun c d => c.ses.mediator = true ∧ (target = 1 ∨ target = 2) ∧ (target = 2 → ∀ n ∈ tenNumbers, d.tenExists n = false) ∧
        d.sec.service = none ∧ d.acting = false ∧ d.bsh.st = .active)
      (fun _ _ => some (rAccepted 1))
      (fun c d => d.startEntry (target == 2) (some { port := c.ses.port, session := c.ses.sid, seq := c.seq }))) ∧
  (∀ h, Runs (.powerState h 0) h (.powerState 0)
      (fun c d => c.ses.mediator = true ∧ d.sec.service = none ∧ (d.bsh.st = .enterNight ∨ d.bsh.st = .enterStandby))
      (fun _ _ => some (rAccepted 1))
      (fun c d => { d with bsh := { d.bsh with queued := d.bsh.queued ++ [(0, { port := c.ses.port, session := c.ses.sid, seq := c.seq })] } })) ∧
  (∀ s : State, Quiet s.dev → (s.dev.bsh.st = .enterNight ∨ s.dev.bsh.st = .enterStandby) → s.dev.bsh.cmd = none → s.dev.bsh.phase = 2 →
      To .nightEntryStep s { s.dev with bsh := { s.dev.bsh with islandsOn := [], pllStopped := [0, 1], phase := 3 } }) ∧
  (∀ s : State, Quiet s.dev → s.dev.bsh.st = .enterNight → s.dev.bsh.cmd = none → s.dev.bsh.phase = 3 → s.dev.bsh.wakeQueued = false →
      s.dev.bsh.queued = [] →
      Gives .nightEntryStep s fun d => d.bsh.st = .night ∧ d.bsh.phase = 4) ∧
  (∀ (s : State) (failed : Nat), Quiet s.dev → s.dev.bsh.st = .waking → s.dev.bsh.cmd = none → s.dev.bsh.phase = 1 → s.dev.sup.target = none →
      To (.nightExitStep failed) s { s.dev with bsh := { s.dev.bsh with pllStopped := [], phase := 2 } }) ∧
  (∀ s : State, Quiet s.dev → s.dev.bsh.st = .night → s.dev.get .bshWakeMs ≠ 0 → To .wakeTimerExpire s (s.dev.startWake none)) ∧
  (∀ (s : State) (t mv : Nat), Quiet s.dev → s.dev.sup.target = some t → 97 * t ≤ 100 * mv → 100 * mv ≤ 103 * t →
      To (.vcoreSettle mv true) s { s.dev with sup := { s.dev.sup with vcore := t, target := none, raising := false } })

/-- The thermal budget (09 R231): it stands at B_host at reset, every update leaves it between 10,000 mW and B_host, and THERM_LIMIT says whether it lies below
B_host. -/
def Obligations.ThermalBudgetStaysInRange : Prop :=
  State.reset.dev.bsh.bTherm = State.reset.dev.bsh.host ∧
  (∀ (d : Dev), 10000 ≤ d.bsh.host → 10000 ≤ (bthermOp d).bsh.bTherm ∧ (bthermOp d).bsh.bTherm ≤ (bthermOp d).bsh.host) ∧
  (∀ (d : Dev) (f : Forecast), 10000 ≤ d.fld .bshCfg 0 63 48 →
      let e := accountingOp f d
      10000 ≤ e.bsh.bTherm ∧ e.bsh.bTherm ≤ e.bsh.host) ∧
  (∀ d : Dev, d.bsh.suspended.length < 256 → bit d.bshStatus 22 = decide (d.bsh.bTherm < d.bsh.host))

/-! ### Tenancies (11) -/

/-- The tenancy commands where their checks pass (11 R294, R295, R298, R303 to R306): what each starts and what it answers.
Choices of the model in it: notes/assumptions 70 to 73. -/
def Obligations.TenancyCommandsComplete : Prop :=
  (∀ h n cls grant, Runs (.tenancyCreate h n cls grant) h (.tenancyCreate n cls grant)
      (fun c d => c.ses.mediator = true ∧ 1 ≤ n ∧ n ≤ 8 ∧ d.tenTaken n = false ∧ cls ≤ 2 ∧ grant.length = 208 ∧
        (cls = 0 → ∀ m ∈ tenNumbers, d.tenTaken m = true → (d.ten m).cls ≠ 0) ∧ ∀ x ∈ d.grantChecks n cls (grant.take 176), x.1 = false)
      (fun _ _ => some (rAccepted 1))
      (fun c d => d.setTen n { cls, grant := grant.take 176, closed := true,
                               runs := [{ job := .create, cmds := [(c.ses.port, c.ses.sid, c.seq)], given := grant.drop 176 }] })) ∧
  (∀ h n g, Runs (.tenancyConfigure h n g) h (.tenancyConfigure n g)
      (fun c d =>
        let old := (d.ten n).grant
        let same := fun (k len : Nat) => gf g k len = gf old k len
        c.ses.mediator = true ∧ 1 ≤ n ∧ n ≤ 8 ∧ ((d.ten n).st = .active ∨ (d.ten n).st = .frozen) ∧ same 0 1 ∧ same 2 1 ∧ same 8 8 ∧ same 16 4 ∧ same 20 4 ∧
        same 3 1 ∧ same 25 1 ∧ same 26 1 ∧ same 27 1 ∧ same 28 4 ∧ (∀ x ∈ d.grantChecks n (d.ten n).cls g, x.1 = false) ∧ d.grantInUse n g = false)
      (fun _ _ => some { st := stOk, ph := 3 })
      (fun c d => ((d.withdrawTouches n (d.keepsTouch (d.ten n).grant g)).modTen n fun t => { t with grant := g }).tenEvent n 1 (u32 c.seq))) ∧
  (∀ h n mode, Runs (.tenancyReset h n mode) h (.tenancyReset n mode)
      (fun c d => c.ses.mediator = true ∧ 1 ≤ n ∧ n ≤ 8 ∧ mode ≤ 1 ∧ ((d.ten n).st = .active ∨ (d.ten n).st = .frozen) ∧ (d.ten n).runs = [])
      (fun _ _ => some (rAccepted 2)) (fun c d => d.tearDown n mode false (c.ses.port, c.ses.sid, c.seq))) ∧
  (∀ h n mode, Runs (.tenancyRemove h n mode) h (.tenancyRemove n mode)
      (fun c d => c.ses.mediator = true ∧ 1 ≤ n ∧ n ≤ 8 ∧ mode ≤ 1 ∧ ((d.ten n).st = .active ∨ (d.ten n).st = .frozen ∨ (d.ten n).st = .incomplete) ∧
        (d.ten n).runs = [])
      (fun _ _ => some (rAccepted 2)) (fun c d => d.tearDown n mode true (c.ses.port, c.ses.sid, c.seq))) ∧
  (∀ h n, Runs (.tenancyFreeze h n) h (.tenancyFreeze n)
      (fun c d => c.ses.mediator = true ∧ 1 ≤ n ∧ n ≤ 8 ∧ (d.ten n).st = .active ∧ (d.ten n).runs = [])
      (fun _ _ => none)
      (fun c d => (((d.phaseDone c.ses.port c.ses.sid c.seq 2).setTenSt n .active true).modTen n fun t =>
        { t with runs := t.runs ++ [{ job := .freeze, cmds := [(c.ses.port, c.ses.sid, c.seq)], phase := 2 }] }))) ∧
  (∀ h n dest len, Runs (.tenancySave h n dest len) h (.tenancySave n dest len)
      (fun c d => c.ses.mediator = true ∧ 1 ≤ n ∧ n ≤ 8 ∧ (d.ten n).st = .frozen ∧ d.inWindowOf c.ses.port dest (d.tenImage n).length = true ∧
        (d.tenImage n).length ≤ len ∧ (d.tenImage n).length ≤ 2097152)
      (fun _ _ => some { st := stOk, ph := 3 }) (fun _ d => d.busWrite dest (d.tenImage n))) ∧
  (∀ h n src len image, Runs (.tenancyRestore h n src len image) h (.tenancyRestore n src len image)
      (fun c d => c.ses.mediator = true ∧ 1 ≤ n ∧ n ≤ 8 ∧ d.tenTaken n = false ∧ d.inWindowOf c.ses.port src len = true ∧
        imageGenuine (padTo len image) = true ∧
        ∃ cls needs g secs, parseImage (padTo len image) = some (cls, needs, g, secs) ∧ 1 ≤ cls ∧ cls ≤ 2 ∧ d.needsAbsent needs = false ∧
          (∀ x ∈ d.grantChecks n cls (replant g d.freeColour (d.freeBase (grantSpan g).2)), x.1 = false) ∧
          (secs.filter (·.1 == 1)).length ≤ d.freeSources.length ∧ (secs.filter (·.1 == 2)).length ≤ d.freeLayers.length ∧
          (secs.filter (·.1 == 4)).length ≤ d.freeMonitors.length)
      (fun _ _ => none)
      (fun c d =>
        let p := (parseImage (padTo len image)).getD (0, 0, [], [])
        (d.phaseDone c.ses.port c.ses.sid c.seq 1).setTen n
          { cls := p.1, grant := replant p.2.2.1 d.freeColour (d.freeBase (grantSpan p.2.2.1).2), closed := true,
            runs := [{ job := .restore, cmds := [(c.ses.port, c.ses.sid, c.seq)], given := padTo len image }] })) ∧
  (∀ h n, Runs (.tenancyThaw h n) h (.tenancyThaw n)
      (fun c d => c.ses.mediator = true ∧ 1 ≤ n ∧ n ≤ 8 ∧ (d.ten n).st = .frozen ∧ (d.ten n).restored = false ∧ d.ses (0x10 + n) = none)
      (fun _ _ => some { st := stOk, ph := 3 })
      (fun _ d => (d.setTenSt n .active false).raise (toOwnerMed n) { code := 0xE705, object := n, tenancy := n }))

/-- The waits of tenancies end (11 R294, R298, R299, R303, R305): a freeze that cannot drain is withdrawn, a drain squashes what is left, a quiesced
reset returns to ACTIVE with its pool filled with zeros, a creation's memory is granted.
Choices of the model in it: notes/assumptions 28, 29 and 71. -/
def Obligations.TenancyWaitsComplete : Prop :=
  (∀ (s : State) (n : Nat) (r : TenRun), Instr.wellFormed (.freezeDrainTimeout n) = true → (s.dev.ten n).run .freeze = some r →
      To (.freezeDrainTimeout n) s ((s.dev.setTenSt n .active false).endRun n r { st := stBusyRetry, ph := 1 }).settled) ∧
  (∀ (s : State) (n : Nat) (r : TenRun), Instr.wellFormed (.tenancyDrainExpired n) = true → (s.dev.ten n).run .reset = some r → r.phase = 2 →
      r.mode = 0 → s.dev.tenInFlight n ≠ [] →
      To (.tenancyDrainExpired n) s
        ((((s.dev.squash n).2.setRun n { r with squashed := (s.dev.squash n).1 }).tenEvent n 6 (u16 (s.dev.squash n).1)).tenSettle).settled) ∧
  (∀ (s : State) (n : Nat) (r : TenRun), Instr.wellFormed (.tenancyQuiesced n) = true → (s.dev.ten n).run .reset = some r → r.job = .reset → r.phase = 5 →
      r.removes = [] →
      let g := (s.dev.ten n).grant
      let d := s.dev.zeroFill (gf g 8 8 + gf g 16 4 * 2 ^ 20) (gf g 20 4 * 2 ^ 20)
      To (.tenancyQuiesced n) s
        (((((d.runPhase n r 6).setTenSt n .active false).endRun n r { st := stOk, ph := 6 }).tenEvent n 2 (u8 r.mode ++ u8 0 ++ u16 r.squashed)).settled)) ∧
  (∀ (s : State) (n : Nat) (r : TenRun), Instr.wellFormed (.zeroFillDone n) = true → (s.dev.ten n).runs = [r] → r.job = .create → r.phase = 1 →
      To (.zeroFillDone n) s (s.dev.createdTen n r).tenSettle.settled)

/-- What a creation's and a restore's memory holds once it is reserved, and a removed one's: all bytes of the host region and of the pool read as they do when
nothing has written them, under the tenancy's colour and then under that of free memory; memory outside them is as it was (11 R294 phase 2,
R298 phase 7, 13 R360).
Choices of the model in it: notes/assumptions 13 and 27. -/
def Obligations.TenancyMemoryIsFilledAndTagged : Prop :=
  (∀ (d : Dev) (n a : Nat),
      let g := (d.ten n).grant
      let s := grantSpan g
      (d.reserveTen n).peek a = if s.1 ≤ a ∧ a < s.1 + s.2 then memDefault a else d.peek a) ∧
  (∀ (d : Dev) (n a : Nat) (r : TenRun),
      let g := (d.ten n).grant
      let s := grantSpan g
      (d.eraseTen n r).peek a = if s.1 ≤ a ∧ a < s.1 + s.2 then memDefault a else d.peek a) ∧
  (∀ (d : Dev) (n : Nat), d.mem.wf = true → (d.reserveTen n).mem.wf = true ∧ ∀ r, (d.eraseTen n r).mem.wf = true)

/-- Table 11.3: of what is checked against the other tenancies, a colour that another one holds, memory that overlaps, an output that another owns and a
cartouche that another owns each make the grant NOT_PERMITTED (11 R292). -/
def Obligations.GrantsThatClashAreRefused : Prop :=
  ∀ (g h : Bytes), (gb g 2 = gb h 2 ∨ spansMeet (grantSpan g) (grantSpan h) = true ∨ gb g 25 &&& gb h 25 ≠ 0 ∨ gb g 26 &&& gb h 26 ≠ 0) →
    ∀ (d : Dev) (n m cls : Nat), m ∈ tenNumbers → m ≠ n → d.tenTaken m = true → (d.ten m).grant = h → (true, stNotPermitted) ∈ d.grantChecks n cls g

/-! ### The console (12) -/

/-- Recalibration and haptic plays where their checks pass, a contact that rests too long, the driver's own happenings, the mixer's block and the alert's end, where
each takes effect (12 R313, R316, R325, R326, R328, R329, R332).
Choices of the model in it: notes/assumptions 18, 74 and 75. -/
def Obligations.ConsoleCommandsComplete : Prop :=
  (∀ h feMask, Runs (.touchRecalibrate h feMask 0) h (.touchRecalibrate feMask 0)
      (fun c d => d.present 19 = true ∧ c.ses.mediator = true ∧ c.act = 0 ∧ 0 < feMask ∧ feMask < 16)
      (fun _ _ => none)
      (fun c d => d.each ([0, 1, 2, 3].filter (bit feMask)) fun d t =>
        d.modFe t fun fe => { fe with recal := 4, acc := [], waits := (c.ses.port, c.ses.sid, c.seq) :: fe.waits })) ∧
  (∀ h v w m rep, Runs (.hapticPlay h v w m rep) h (.hapticPlay v w m rep)
      (fun c d => d.present 18 = true ∧ v < 8 ∧ c.owns (d.hapOwner v) = true ∧ w ≤ 7 ∧ d.flag .hapCfg v 31 = true ∧ (d.hap v).queue.length < 4 ∧
        d.quarantined 0x0E v = false)
      (fun _ _ => some rOk)
      (fun _ d =>
        let e := d.modHap v fun h => { h with queue := h.queue ++ [⟨w, m, 1 + rep⟩] }
        if (d.hap v).queue = [] ∧ (d.hap v).stopped = false then e.startPlay v else e)) ∧
  (∀ (s : State) (v : Nat) (p : Play) (q : List Play), v < 8 → (s.dev.hap v).queue = p :: q →
      To (.hapticPlayEnd v) s ((((s.dev.modHap v fun h => { h with queue := q, openLoop := false }).count2 .hapStat v 0).hapDone v p.waveform 0).startPlay v)) ∧
  (∀ (s : State) (v freq : Nat), v < 8 → (s.dev.hap v).queue ≠ [] → (s.dev.hap v).openLoop = false → s.dev.flag .hapCfg v 29 = true →
      s.dev.flag .hapCfg v 30 = false →
      To (.hapticTrackLost v freq) s (((s.dev.modHap v fun h => { h with openLoop := true }).count2 .hapStat v 2).raise (toOwnerMed (s.dev.hapOwner v))
        { code := 0xEA06, object := v, tenancy := s.dev.hapOwner v, data := u16 freq })) ∧
  (∀ (s : State) (v peak : Nat), v < 8 →
      To (.hapticOvercurrent v peak) s
        ((((s.dev.flushPlays v 2).modHap v fun h => { h with stopped := true, peak }).count2 .hapStat v 1).reportFault 0x0E v 4).settled) ∧
  (∀ (s : State) (t id r : Nat) (c : Contact), t < 4 → id < 10 → ((s.dev.fe t).contacts.find? fun c => c.id == id && !c.stuck) = some c →
      c.recipient = some r →
      To (.touchStuck t id) s ((s.dev.modFe t fun fe =>
          { fe with contacts := fe.contacts.map fun x => if x.id == id then { x with stuck := true } else x }).raise (toRecipient r)
        { code := 0xEA01, object := t, tenancy := r, data := u8 id ++ u8 r ++ u16 c.x ++ u16 c.y ++ u32 ((s.dev.tim.elapsed - c.at_) / 1000000000) })) ∧
  (∀ (s : State) (f : SelfFrame), Quiet s.dev → s.dev.feScans 4 = true → (s.dev.fe 4).suspect = false → (s.dev.fe 4).contacts = [] →
      (s.dev.fe 4).recal = 0 → (s.dev.fe 4).firstScan = false → (s.dev.fe 4).frames % 2 = 0 → f.values = [] →
      (∀ g < 16, bits (s.dev.get .grtSelfGroup g) 14 13 = 0) → 0 < touchTh (s.dev.get .grtSelfCfg) →
      Gives (.selfScanFrame f) s fun d =>
        (d.fe 4).frames = (s.dev.fe 4).frames + 1 ∧ (d.fe 4).contacts = [] ∧ (d.fe 4).freq = (s.dev.fe 4).freq ∧ (d.fe 4).base = (s.dev.fe 4).base) ∧
  (∀ s : State, s.dev.inNight = true → To .audioBlock s s.dev) ∧
  (∀ s : State, s.dev.inNight = false → s.dev.inService 0x0F = true → s.dev.alertHolder = 0 →
      portSlots 0 (s.dev.get .audPortCfg 0) ≠ [] → portSlots 1 (s.dev.get .audPortCfg 1) ≠ [] →
      Gives .audioBlock s fun d => ∃ a b : List Int, d.sent = .audio 1 b :: .audio 0 a :: s.dev.sent ∧
        a.length = 16 * (portSlots 0 (s.dev.get .audPortCfg 0)).length ∧ b.length = 16 * (portSlots 1 (s.dev.get .audPortCfg 1)).length) ∧
  (∀ s : State, s.dev.aud.alertActive = true → s.dev.aud.emptySince.isSome = true →
      To .alertIdleExpire s (({ s.dev with aud := { s.dev.aud with alertActive := false } } : Dev).alertEvent false))

/-- The life of a contact (12 R312): a node that stands at TOUCH_TH or above for a second frame, alone on the panel, starts contact 0 at the node's own
place, for the recipient whose region holds that place; a frame in which no node stands out ends every contact.
Choices of the model in it: notes/assumptions 74. -/
def Obligations.ContactsStartAndEnd : Prop :=
  ∀ (s : State) (t : Nat) (noise : List Nat), t < 4 → Quiet s.dev → s.dev.feScans t = true → (s.dev.fe t).suspect = false →
    (s.dev.fe t).firstScan = false → (s.dev.fe t).recal = 0 →
    (∀ (n : Node),
        let cfg := s.dev.get .grtFeCfg t
        let k := nodeKey n.sense n.drive
        let delta := (s.dev.fe t).baseOf (s.dev.fe t).freq k - n.value
        n.sense < bits cfg 51 45 → n.drive < bits cfg 57 52 → 4 ≤ bits cfg 51 45 * bits cfg 57 52 → releaseTh cfg < touchTh cfg →
        touchTh cfg ≤ delta → k ∈ (s.dev.fe t).starting → (s.dev.fe t).contacts = [] →
        Gives (.touchScanFrame t { nodes := [n], noise }) s fun d =>
          ∃ c, (d.fe t).contacts = [c] ∧ c.id = 0 ∧ c.x = 64 * n.sense ∧ c.y = 64 * n.drive ∧ c.z = delta.toNat ∧
            (c.recipient, c.region) = (some (s.dev.routeTouch t (64 * n.sense) (64 * n.drive)).1, (s.dev.routeTouch t (64 * n.sense) (64 * n.drive)).2) ∧
            (d.fe t).frames = (s.dev.fe t).frames + 1) ∧
    Gives (.touchScanFrame t { nodes := [], noise }) s fun d => (d.fe t).contacts = [] ∧ (d.fe t).frames = (s.dev.fe t).frames + 1

/-- The mixer (12 R330): whatever the other inputs, their gains and the slot's are, an alert that alone stays within full scale passes unclipped, at its
own level and no more than 12 dB below it; only the others' sum is limited.
Choices of the model in it: notes/assumptions 19 and 76. -/
def Obligations.AlertPassesTheMixer : Prop :=
  ∀ (slotAtt duck alertAtt lim : Nat) (xs : List (Int × Nat)) (alert : Int),
    let n := (xs.map fun e => (e.1 : Rat) * (if e.2 = 1023 then 0 else gain (e.2 + duck))).sum * gainReg slotAtt
    let m := (alert : Rat) * (if alertAtt = 1023 then 0 else gain (alertAtt + min slotAtt 120))
    m ≤ fullScale → -fullScale ≤ m →
    ∃ l : Rat, 0 ≤ l ∧ l ≤ ((lim : Nat) : Rat) / 2147483648 ∧ -fullScale ≤ n * l + m ∧ n * l + m ≤ fullScale ∧
      (mixSlot slotAtt xs true duck alert alertAtt lim).1 = if n * l + m < 0 then -((-(n * l + m)).floor) else (n * l + m).floor

/-! ### Memory, crossbar and boundary units (13) -/

/-- Reads and writes of memory by a master, where its boundary unit allows them, where it denies them, and where no target answers (13 R340, R346, R356, R362, 01 R20). Each part is
within 2 KiB. A write leaves every byte outside its own as it was; a denied one leaves all memory.
Choices of the model in it: notes/assumptions 13 and 77. -/
def Obligations.MemoryAccessesComplete : Prop :=
  (∀ (s : State) (m a n qos claim : Nat), Instr.wellFormed (.memRead m a n qos claim false .clean) = true → 0 < n → a % 2048 + n ≤ 2048 →
      s.dev.detached m = false → s.dev.checkPage m (a / 4096) .read (claimOf m claim) = .allow →
      5 ≤ s.dev.targetOf a → s.dev.targetOf a ≤ 8 → (s.dev.chan (s.dev.targetOf a - 5)).faulted = false → (∀ b ∈ beatsOf a n, s.dev.poisoned b = false) →
      Gives (.memRead m a n qos claim false .clean) s fun d =>
        d.sent = .memData m a (s.dev.peekN a n) false false :: s.dev.sent ∧ d.mem.cells = s.dev.mem.cells ∧ d.mem.viol = s.dev.mem.viol) ∧
  (∀ (s : State) (m a n qos claim r : Nat) (t : Bool), Instr.wellFormed (.memRead m a n qos claim false .clean) = true → 0 < n → a % 2048 + n ≤ 2048 →
      m ≠ 23 → s.dev.checkPage m (a / 4096) .read (claimOf m claim) = .deny r t →
      Gives (.memRead m a n qos claim false .clean) s fun d =>
        d.sent.head? = some (.memData m a (zeros n) true false) ∧ d.mem.cells = s.dev.mem.cells) ∧
  (∀ (s : State) (m a n qos claim : Nat), Instr.wellFormed (.memRead m a n qos claim false .clean) = true → 0 < n → a % 2048 + n ≤ 2048 →
      m ≠ 23 → s.dev.checkPage m (a / 4096) .read (claimOf m claim) = .allow → s.dev.targetOf a = 11 → s.dev.mem.viol.length < 16 →
      Gives (.memRead m a n qos claim false .clean) s fun d =>
        d.sent.head? = some (.memData m a (zeros n) true false) ∧ d.mem.cells = s.dev.mem.cells ∧
        ∃ v, d.mem.viol = s.dev.mem.viol ++ [v] ∧ v.decode = true ∧ v.addr = a ∧ v.master = m ∧ v.region = 0 ∧ v.claim = 0 ∧ v.tag = 0) ∧
  (∀ (s : State) (m a claim : Nat) (data : Bytes), Quiet s.dev → Instr.wellFormed (.memWrite m a claim data false) = true → s.dev.mem.wf = true →
      data ≠ [] → a % 2048 + data.length ≤ 2048 → s.dev.detached m = false → s.dev.checkPage m (a / 4096) .write (claimOf m claim) = .allow →
      5 ≤ s.dev.targetOf a → s.dev.targetOf a ≤ 8 → (s.dev.chan (s.dev.targetOf a - 5)).faulted = false →
      Gives (.memWrite m a claim data false) s fun d =>
        (∀ x, d.peek x = if a ≤ x ∧ x < a + data.length then data.getD (x - a) 0 else s.dev.peek x) ∧ d.mem.wf = true ∧
        d.sent = .memAck m a false :: s.dev.sent) ∧
  (∀ (s : State) (m a claim r : Nat) (data : Bytes) (bad t : Bool), Quiet s.dev → Instr.wellFormed (.memWrite m a claim data bad) = true →
      data ≠ [] → a % 2048 + data.length ≤ 2048 → m ≠ 23 → s.dev.checkPage m (a / 4096) .write (claimOf m claim) = .deny r t →
      Gives (.memWrite m a claim data bad) s fun d => d.mem.cells = s.dev.mem.cells ∧
        ∃ e, d.sent.head? = some (.memAck m a e) ∧ (t = false ∨ posts m = false → e = true))

/-- The DRAM controller's own work, the scrubbers and repairs, where each takes effect (13 R337, R338, R342 to R345, R347, R349, R350).
Choices of the model in it: notes/assumptions 77 and 80. -/
def Obligations.MemoryUpkeepCompletes : Prop :=
  (∀ (s : State) (c : Nat) (hot : Bool), c < 4 → s.dev.mem.trained = true →
      (s.dev.mem.panics = [] → To (.dramRefresh c hot) s (s.dev.modChan c fun x => { x with postponed := 0 })) ∧
      (s.dev.mem.panics ≠ [] → (s.dev.chan c).postponed < 4 →
        To (.dramRefresh c hot) s ((s.dev.modChan c fun x => { x with postponed := x.postponed + 1 }).count2 .memStat c 7))) ∧
  (∀ (s : State) (c rank : Nat), Instr.wellFormed (.zqCalibration c rank) = true → s.dev.mem.trained = true →
      To (.zqCalibration c rank) s (s.dev.modChan c fun x =>
        { x with zqDeferred := x.zqDeferred.filter (· != rank) ++ if s.dev.mem.panics = [] then [] else [rank] })) ∧
  (∀ (s : State) (o : Nat), o < 8 → o ∉ s.dev.mem.panics →
      Gives (.scanoutPanic o true) s fun d => d.mem.panics = o :: s.dev.mem.panics ∧ d.mem.cells = s.dev.mem.cells) ∧
  (∀ (s : State) (o : Nat), o < 8 → (∀ p ∈ s.dev.mem.panics, p = o) → 
      Gives (.scanoutPanic o false) s fun d => d.mem.panics = [] ∧ ∀ c < 4, (d.chan c).postponed = 0 ∧ (d.chan c).zqDeferred = []) ∧
  (∀ (s : State) (c : Nat), c < 4 → s.dev.mem.trained = true → bit (s.dev.get .memDramCfg) 56 = true →
      To (.caParityAlert c false) s (s.dev.count2 .memStat c 4) ∧
      To (.caParityAlert c true) s
        (((s.dev.modChan c fun x => { x with faulted := true }).faultEvent 8 c (u8 0)).reportFault (0x30 + c) 0 2)) ∧
  (∀ (s : State) (c : Nat), c < 4 → s.dev.mem.trained = true → bit (s.dev.get .memDramCfg) 55 = true →
      To (.writeCrcAlert c false) s (s.dev.count2 .memStat c 5) ∧
      Gives (.writeCrcAlert c true) s fun d => ∃ k < 8,
        let e := (s.dev.modChan c fun x => { x with faulted := true }).faultEvent 8 c (u8 1)
        d = e.fresh.2.reportFault (0x30 + c) 0 k) ∧
  (∀ (s : State) (a : Nat), Instr.wellFormed (.patrolScrub a .corrected) = true → 5 ≤ s.dev.targetOf a → s.dev.targetOf a ≤ 8 →
      (s.dev.chan (s.dev.targetOf a - 5)).faulted = false → s.dev.poisoned (a / 4 * 4) = false →
      a / 64 * 64 ≠ dramBase + s.dev.dramBytes - (4 - (s.dev.targetOf a - 5)) * 2048 + 1984 →
      To (.patrolScrub a .corrected) s (s.dev.count2 .memStat (s.dev.targetOf a - 5) 0)) ∧
  (∀ (s : State) (a : Nat), Instr.wellFormed (.patrolScrub a .lasting) = true → 5 ≤ s.dev.targetOf a → s.dev.targetOf a ≤ 8 →
      (s.dev.chan (s.dev.targetOf a - 5)).faulted = false → s.dev.poisoned (a / 4 * 4) = false →
      Gives (.patrolScrub a .lasting) s fun d => d.poisoned (a / 4 * 4) = true ∧ d.mem.cells = s.dev.mem.cells) ∧
  (∀ (s : State) (a : Nat), Instr.wellFormed (.chartScrub a .lasting) = true → s.dev.targetOf a = 1 → privateBlock a = none →
      Gives (.chartScrub a .lasting) s fun d => d.poisoned (a / 4 * 4) = true ∧ d.mem.cells = s.dev.mem.cells) ∧
  (∀ (s : State) (a b : Nat), Instr.wellFormed (.chartScrub a .lasting) = true → s.dev.targetOf a = 1 → privateBlock a = some b →
      To (.chartScrub a .lasting) s (s.dev.reportFault b 0 1)) ∧
  (∀ (s : State) (a : Nat), Instr.wellFormed (.cartScrub a .lasting) = true → s.dev.targetOf a = 2 →
      Gives (.cartScrub a .lasting) s fun d => a / 8 * 8 ∈ d.mem.cartBad ∧ d.mem.cells = s.dev.mem.cells) ∧
  (∀ (s : State) (a : Nat), Instr.wellFormed (.cartoucheRepair a) = true → a / 8 * 8 ∈ s.dev.mem.cartBad →
      Gives (.cartoucheRepair a) s fun d => a / 8 * 8 ∉ d.mem.cartBad ∧ d.mem.cartRepairs = s.dev.mem.cartRepairs + 1 ∧ d.mem.cells = s.dev.mem.cells) ∧
  (∀ (s : State) (t : Int), Instr.wellFormed (.dramTraining true t) = true → s.dev.mem.trained = false → s.dev.rst.stage = .idle →
      s.dev.rst.maintenance = false → dramGibOf (s.dev.get .memDramCfg) ≠ none → bit s.dev.rst.pllGood 4 = true →
      To (.dramTraining true t) s { s.dev with mem := { s.dev.mem with trained := true, trainTemp := some t } })

/-- Tags, the remap and the regions (13 R357, R360, R366): a retag of chart memory or DRAM gives every page of its range the new colour and no other page any, a zero-fill
clears what it names, only master 0 writes the remap and puts regions in force, and a commit of regions leaves those of every master it does not name.
Choices of the model in it: notes/assumptions 13 and 14. -/
def Obligations.TagsAndRegionsComplete : Prop :=
  (∀ (s : State) (lo hi tag : Nat), Instr.wellFormed (.tagRetag lo hi tag false) = true → lo ≤ hi →
      Gives (.tagRetag lo hi tag false) s fun d =>
        (∀ p, lo ≤ p → p ≤ hi → (s.dev.targetOf (p * 4096) = 1 ∨ (5 ≤ s.dev.targetOf (p * 4096) ∧ s.dev.targetOf (p * 4096) ≤ 8)) → d.tagOf p = tag % 64) ∧
        (∀ p, (p < lo ∨ hi < p) → d.tagOf p = s.dev.tagOf p) ∧ d.mem.cells = s.dev.mem.cells) ∧
  (∀ (s : State) (lo hi tag : Nat), Instr.wellFormed (.tagRetag lo hi tag true) = true → lo ≤ hi →
      Gives (.tagRetag lo hi tag true) s fun d =>
        (∀ x, d.peek x = if lo * 4096 ≤ x ∧ x < (hi + 1) * 4096 then memDefault x else s.dev.peek x) ∧ (∀ p, (p < lo ∨ hi < p) → d.tagOf p = s.dev.tagOf p)) ∧
  (∀ (s : State) (m v : Nat), Instr.wellFormed (.remapWrite m v) = true →
      To (.remapWrite m v) s (if m = 0 then { s.dev with mem := { s.dev.mem with remap := decide (v % 2 = 1) } } else s.dev)) ∧
  (∀ (s : State) (mask : Nat), Instr.wellFormed (.bndCommit 0 mask) = true → 
      Gives (.bndCommit 0 mask) s fun d =>
        ∀ k < 24, ∀ r < 32, d.bndRegion k r = if bit mask k then smGet 0 s.dev.mem.staged (k * 32 + r) else s.dev.bndRegion k r) ∧
  (∀ (s : State) (m mask : Nat), Instr.wellFormed (.bndCommit m mask) = true → m ≠ 0 → To (.bndCommit m mask) s s.dev)

/-- The boundary unit's verdict (13 R362): the first region that holds the page decides, whatever the later ones say; it denies without its permission, and
by the tag unless KEY_MODE accepts it; with no region the access is denied with 63. -/
def Obligations.FirstMatchingRegionDecides : Prop :=
  ∀ (d : Dev) (m page claim r : Nat) (kind : AccKind),
    let w := d.bndRegion m r
    let perm := bit w (match kind with | .read => 54 | .write => 53 | .fetch => 52)
    let hit := fun (q : Nat) => bit (d.bndRegion m q) 55 = true ∧ bits (d.bndRegion m q) 91 56 ≤ page ∧ page ≤ bits (d.bndRegion m q) 127 92
    (r < 32 → hit r → (∀ q < r, ¬hit q) →
      (d.checkPage m page kind claim = .allow ↔
        perm = true ∧ (bits w 51 50 = 1 ∨ (bits w 51 50 = 0 ∧ d.tagOf page = bits w 49 44) ∨ (bits w 51 50 = 2 ∧ d.tagOf page = claim))) ∧
      (d.checkPage m page kind claim ≠ .allow → ∃ t, d.checkPage m page kind claim = .deny r t)) ∧
    ((∀ q < 32, ¬hit q) → d.checkPage m page kind claim = .deny 63 false)

/-- A write of any length whose every page the boundary unit denies reaches no memory (13 R362, R363, 17 R469: a report by the debug master alone is written
into the audit log). -/
def Obligations.DeniedWritesReachNoMemory : Prop :=
  ∀ (s : State) (m a claim : Nat) (data : Bytes) (bad : Bool), Quiet s.dev → Instr.wellFormed (.memWrite m a claim data bad) = true →
    (∀ p ∈ partsOf a data.length, s.dev.checkPage m (p.1 / 4096) .write (claimOf m claim) ≠ .allow) →
    Gives (.memWrite m a claim data bad) s fun d => ∀ x, (m ≠ 23 ∨ x < 0x30000000 ∨ 0x30400000 ≤ x) → d.peek x = s.dev.peek x

/-- The queue of violation reports (13 R365): a report is kept with the device's time and epoch while fewer than 16 are held; else it is discarded, and the next one kept
carries OVF; a read takes the oldest away.
Choices of the model in it: notes/assumptions 78. -/
def Obligations.ViolationQueue : Prop :=
  (∀ (d : Dev) (v : Viol), d.mem.viol.length < 16 →
      (d.report v).mem.viol = d.mem.viol ++ [{ v with time := d.now, epoch := d.epoch, ovf := d.mem.ovfPending }] ∧ (d.report v).mem.ovfPending = false) ∧
  (∀ (d : Dev) (v : Viol), 16 ≤ d.mem.viol.length → (d.report v).mem.viol = d.mem.viol ∧ (d.report v).mem.ovfPending = true) ∧
  (∀ d : Dev, (d.afterRead .bndViol [0]).mem.viol = d.mem.viol.tail) ∧
  (∀ (d : Dev), d.mem.viol = [] → d.view .bndViol false 0 0 = 0)

/-- R19: DRAM addresses up to the installed capacity are spread across the four channels in 2 KiB blocks, by bits [12:11] of their offset; an address at
or above the capacity goes to the default target. -/
def Obligations.DramIsSpreadOverChannels : Prop :=
  ∀ (d : Dev) (a g : Nat), d.mem.trained = true → dramGibOf (d.get .memDramCfg) = some g → 0x001000000000 ≤ a →
    (a < 0x001000000000 + g * 2 ^ 30 → d.targetOf a = 5 + bits (a - 0x001000000000) 12 11) ∧
    (0x001000000000 + g * 2 ^ 30 ≤ a → a < 0x800000000000 → d.targetOf a = 11)

/-- R16: whatever the regions in force, the lifecycle state and the remap, a write to cartouche memory has a path from master 1 alone; from any other master
it goes to the default target, with that target's report, and leaves cartouche memory as it was. -/
def Obligations.CartoucheHasOneWritePath : Prop :=
  ∀ (d : Dev) (m a claim qos : Nat), 0x20000000 ≤ a → a < 0x20400000 →
    (m ≠ 1 → (d.routePart m a qos .write claim).1 = none ∧
      (d.checkPage m (a / 4096) .write (claimOf m claim) = .allow → d.routePart m a qos .write claim = (none, (d.grantAt 11 m qos).decodeError m a .write))) ∧
    (d.checkPage 1 (a / 4096) .write 0 = .allow → d.routePart 1 a qos .write claim = (some 2, d)) ∧
    (∀ (s : State) (data : Bytes) (bad : Bool), s.dev = d → Quiet d → m ≠ 1 → a + data.length ≤ 0x20400000 →
      Instr.wellFormed (.memWrite m a claim data bad) = true →
      Gives (.memWrite m a claim data bad) s fun e => ∀ x, 0x20000000 ≤ x → x < 0x20400000 → e.peek x = d.peek x)

/-! ### The external links (14) -/

/-- Ethernet ports and DisplayPort links, where each happening takes effect (14 R371 to R374, R393, R394, R397; 04 R106). A frame cut short by the loss of a DisplayPort input's
link leaves nothing behind.
Choices of the model in it: notes/assumptions 20, 81, 83 and 84. -/
def Obligations.PortLinksComplete : Prop :=
  (∀ (s : State) (p : Nat), p < 8 → (s.dev.eth p).up = true →
      Gives (.ethLinkDown p) s fun d => (d.eth p).up = false ∧
        (∀ q, q ≠ p → (d.eth q).up = (s.dev.eth q).up) ∧ (s.dev.tim.slavePort = p → d.tim.slavePort = 0xF)) ∧
  (∀ (s : State) (p : Nat), p < 8 → s.dev.flag .lnkEthCfg p 63 = true → (s.dev.eth p).up = false → s.dev.inService (0x10 + p) = true →
      Gives (.ethLinkUp p) s fun d => (d.eth p).up = true ∧ (d.eth p).tx = [] ∧ (d.eth p).groupRepeat = (s.dev.eth p).groups ∧
        ∀ g ∈ (s.dev.eth p).groups, ∃ tag dscp, Out.onEth p tag dscp (.membership p g true) ∈ d.sent) ∧
  (∀ (s : State) (p ip : Nat), p < 8 → (s.dev.eth p).up = true → ((s.dev.eth p).entry ip).mac = none →
      let n := (s.dev.eth p).entry ip
      (0 < n.attempts → n.attempts < 3 → To (.arpRetry p ip) s
        (((s.dev.modEth p fun e => { e with neigh := smSet {} e.neigh ip { n with attempts := n.attempts + 1 } }).send (s.dev.onEth p (.neighbourRequest p ip))).count2
          .lnkEthStat p 1)) ∧
      (3 ≤ n.attempts → To (.arpRetry p ip) s
        ((s.dev.modEth p fun e => { e with neigh := smErase e.neigh ip }).count2 .lnkEthStat p 3 n.waiting.length))) ∧
  (∀ (s : State) (p ip m : Nat), Instr.wellFormed (.neighborAgeOut p ip) = true → ((s.dev.eth p).entry ip).mac = some m →
      To (.neighborAgeOut p ip) s (s.dev.modEth p fun e => { e with neigh := smErase e.neigh ip })) ∧
  (∀ (s : State) (p : Nat) (f : Nat × Out) (q : List (Nat × Out)), p < 8 → (s.dev.eth p).tx = f :: q →
      To (.ethTxTimeout p) s ((s.dev.modEth p fun e => { e with tx := q }).count2 .lnkEthStat p 3)) ∧
  (∀ (s : State) (o : Nat) (edid : Bytes), o < 8 → Gives (.dpHpdAssert o edid) s fun d =>
      (d.dp o).hpd = true ∧ (d.dp o).up = false ∧ (d.dp o).training = s.dev.flagF .lnkDpCfg o 63) ∧
  (∀ (s : State) (o : Nat), o < 8 → (s.dev.dp o).hpd = true →
      To (.dpHpdIrq o true) s (s.dev.dpTrain o) ∧ To (.dpHpdIrq o false) s s.dev ∧
      ((s.dev.dp o).up = false → (s.dev.dp o).training = false → To (.dpTrainingRetry o) s (s.dev.dpTrain o))) ∧
  (∀ (s : State) (o : Nat), o < 8 → To (.dpHpdDeassert o) s ((s.dev.modDp o fun l => { l with hpd := false }).dpDown o)) ∧
  (∀ (s : State) (o r l : Nat), o < 8 → (s.dev.dp o).training = true →
      (s.dev.dpMayTrain o r l = true → To (.dpTrainingDone o (some r) (some l)) s
        ((s.dev.modDp o fun x => { x with up := true, training := false, rate := r, lanes := l }).linkEvent (12 + o) r l true)) ∧
      To (.dpTrainingDone o none none) s (s.dev.modDp o fun x => { x with training := false })) ∧
  (∀ (s : State) (i : Nat), Instr.wellFormed (.dpiLinkLoss i) = true → To (.dpiLinkLoss i) s s.dev)

/-- The Mindanko link layer, where each happening takes effect on a device whose two ports are linked, or the port's own state has it (14 R383, R385 to R388).
Choices of the model in it: notes/assumptions 21. -/
def Obligations.MindankoCommandsComplete : Prop :=
  (∀ (s : State) (p : Nat), p < 2 → (∀ q < 2, (s.dev.mdk q).linked = true) →
      let m := s.dev.mdk p
      (∀ f : MdkFrame, f.ok = true → f.room = true → f.seq % 65536 = m.expect → m.sinceAck < 7 →
        Gives (.mdkFrameRx p f) s fun d => (d.mdk p).expect = (m.expect + 1) % 65536 ∧ (d.mdk p).ackDue = true ∧ (d.mdk p).nakOut = false ∧
          (d.mdk p).sinceAck = m.sinceAck + 1 ∧ d.sent = s.dev.sent) ∧
      (∀ f : MdkFrame, f.ok = false → m.nakOut = false →
        Gives (.mdkFrameRx p f) s fun d => (d.mdk p).expect = m.expect ∧ (d.mdk p).nakOut = true ∧ d.sent = .mdk p 2 m.expect [] :: s.dev.sent) ∧
      (∀ seq, m.waiting = [] → Gives (.mdkLinkctlRx p true seq) s fun d =>
        (d.mdk p).replay = m.replay.filter (fun f => serialGt 16 f.1 seq) ∧ (d.mdk p).waiting = [] ∧ d.sent = s.dev.sent) ∧
      (m.ackDue = true → To (.mdkAckTimer p) s
        ((s.dev.setMdk p { m with sinceAck := 0, ackDue := false }).send (.mdk p 1 ((m.expect + 65535) % 65536) []))) ∧
      (m.nakOut = true → Gives (.mdkNakRepeat p) s fun d => d.sent = .mdk p 2 m.expect [] :: s.dev.sent ∧ d.mdk p = m) ∧
      (∀ f l, m.replay = f :: l → m.st = .active → m.resends < 4 →
        Gives (.mdkReplayTimeout p) s fun d => (d.mdk p).replay = m.replay ∧ (d.mdk p).resends = m.resends + 1 ∧
          d.sent = ((m.from_ f.1).map fun x => Out.mdk p 0 x.1 (u8 x.2.1 ++ x.2.2)).reverse ++ s.dev.sent) ∧
      (m.st = .active → s.dev.flag .mdkCfg p 22 = true → m.replay = [] → m.waiting = [] → m.eidleSent = false → m.eidleRcvd = false →
        To (.mdkIdleTimer p) s ((s.dev.setMdk p { m with eidleSent := true }).send (.mdk p 4 0 []))) ∧
      (m.st = .active → m.eidleSent = false → To (.mdkEidleRx p) s (s.dev.setMdk p { m with eidleRcvd := true })) ∧
      (m.st = .active → m.eidleSent = true → s.dev.chain.role = 0 → Gives (.mdkEidleRx p) s fun d => (d.mdk p).st = .idle) ∧
      (m.st = .idle → s.dev.chain.role = 0 → m.waiting = [] → Gives (.mdkExitBurstRx p) s fun d =>
        (d.mdk p).st = .active ∧ d.sent = .mdk p 5 0 [] :: s.dev.sent)) ∧
  (∀ (s : State) (p inv skew : Nat), p < 2 → s.dev.flag .mdkCfg p 31 = true → s.dev.inService (0x18 + p) = true →
      To (.mdkBlockLock p 15 true inv skew) s
        (s.dev.withPorts fun d => (d.modMdk p fun m => { m with rxUp := true, inv := inv % 16, skew := min 528 skew }).mdkRx p)) ∧
  (∀ (s : State) (p : Nat) (up : Bool), p < 2 → s.dev.flag .mdkCfg p 31 = true →
      To (.mdkPeerRxUp p up) s (s.dev.withPorts fun d => (d.modMdk p fun m => { m with peerRxUp := up }).mdkRx p)) ∧
  (∀ (s : State) (p : Nat), p < 2 → (s.dev.mdk p).st = .startup → (s.dev.mdk p).rxUp = false →
      ((s.dev.mdk p).commas = false → To (.mdkStartupBurst p) s ((s.dev.setMdk p { s.dev.mdk p with commas := true }).send (.mdk p 3 0 []))) ∧
      ((s.dev.mdk p).commas = true → To (.mdkStartupBurst p) s (s.dev.setMdk p { s.dev.mdk p with commas := false }))) ∧
  (∀ (s : State) (p : Nat), p < 2 → (s.dev.mdk p).st = .recovery →
      To (.mdkRecoveryTimeout p) s (s.dev.withPorts fun d => d.mdkEnter p .startup))

/-- Mindanko delivers in SEQ order (14 R385): whatever arrives, the expected number moves on only for an intact frame that bears it and finds a buffer, and then by one; a NAK changes no
replay buffer, and a cumulative ACK leaves in it exactly the frames above the number it names, in their order, before any that start anew. -/
def Obligations.MindankoKeepsOrder : Prop :=
  (∀ (d : Dev) (p : Nat) (f : MdkFrame), (d.mdk p).linked = true →
      let e := mdkFrameOp p f d
      (e.mdk p).expect = (if f.ok = true ∧ f.room = true ∧ f.seq % 65536 = (d.mdk p).expect then ((d.mdk p).expect + 1) % 65536 else (d.mdk p).expect) ∧
      (e.mdk p).replay = (d.mdk p).replay ∧ (e.mdk p).txSeq = (d.mdk p).txSeq) ∧
  (∀ (d : Dev) (p seq : Nat), (d.mdk p).st = .active → ((mdkLinkctlOp p false seq d).mdk p).replay = (d.mdk p).replay) ∧
  (∀ (d : Dev) (p seq : Nat), (d.mdk p).st = .active →
      ∃ l, ((mdkLinkctlOp p true seq d).mdk p).replay = ((d.mdk p).replay.filter fun f => serialGt 16 f.1 seq) ++ l ∧ l.length ≤ (d.mdk p).waiting.length)

/-- The PCIe endpoints and their BARs, where each access or happening takes effect (01 R21, R22, 10 R256, 14 R377 to R380): a ring of the partner's page is configured, a pending vector is sent, a function's
reset closes the partner session and disables the rings of its endpoint alone, an access to an aperture without a tenancy is aborted and reported.
Choices of the model in it: notes/assumptions 46, 47 and 82. -/
def Obligations.EndpointCommandsComplete : Prop :=
  (∀ (s : State) (ep page : Nat), ep < 2 → page < 16 → (s.dev.pcie ep).up = true →
      To (.bar0Access ep page false) s { s.dev with sent := .busRead ep (s.dev.pageBytes ep page) false :: s.dev.sent } ∧
      To (.bar0Access ep page true) s s.dev ∧ (s.dev.pageAssigned ep page = false → s.dev.pageBytes ep page = zeros 0x224)) ∧
  (∀ (s : State) (ep a off len : Nat), ep < 2 → a < 8 → 20 ≤ (s.dev.pcie ep).bar2Log → (s.dev.pcie ep).up = true → off < 2 ^ (s.dev.pcie ep).bar2Log / 8 →
      s.dev.apertureOpen ep (a + 1) = false → s.dev.mem.viol.length < 16 →
      Gives (.bar2Read ep a off len) s fun d => d.sent.head? = some (.completerAbort ep false) ∧ d.mem.cells = s.dev.mem.cells ∧
        ∃ v, d.mem.viol = s.dev.mem.viol ++ [v] ∧ v.master = 17 + ep ∧ v.region = 63 ∧ v.kind = 0) ∧
  (∀ (s : State) (ep a off : Nat) (data : Bytes), Quiet s.dev → ep < 2 → a < 8 → (s.dev.pcie ep).up = true → off < 2 ^ (s.dev.pcie ep).bar2Log / 8 →
      s.dev.apertureOpen ep (a + 1) = false →
      Gives (.bar2Write ep a off data false) s fun d => d.sent.head? = some (.completerAbort ep true) ∧ d.mem.cells = s.dev.mem.cells ∧
        (d.pcie ep).aer = (s.dev.pcie ep).aer + 1) ∧
  (∀ (s : State) (ep a off len : Nat), ep < 2 → a < 8 → (s.dev.pcie ep).up = true → off < 2 ^ (s.dev.pcie ep).bar2Log / 8 →
      let x := s.dev.gLe (a + 1) 8 8 + off
      let claim := s.dev.ownerColour (a + 1)
      s.dev.apertureOpen ep (a + 1) = true → 0 < len → x % 2048 + len ≤ 2048 → 5 ≤ s.dev.targetOf x → s.dev.targetOf x ≤ 8 →
      s.dev.checkPage (17 + ep) (x / 4096) .read (claimOf (17 + ep) claim) = .allow → (s.dev.chan (s.dev.targetOf x - 5)).faulted = false →
      (∀ b ∈ beatsOf x len, s.dev.poisoned b = false) →
      Gives (.bar2Read ep a off len) s fun d => d.sent = .busRead ep (s.dev.peekN x len) false :: s.dev.sent) ∧
  (∀ (s : State) (ep m : Nat), Instr.wellFormed (.outboundReadTimeout ep m) = true → canReach m (9 + ep) .read = true →
      Gives (.outboundReadTimeout ep m) s fun d => ∃ a, d.sent = .memData m a [] true false :: s.dev.sent) ∧
  (∀ (s : State) (ep : Nat) (k : PcieReset), ep < 2 → s.dev.rings = [] → s.dev.evtRings = [] → s.dev.sessions = [] → Quiet s.dev → (s.dev.pcie ep).up = false →
      Gives (.pcieFunctionReset ep k) s fun d => d.pcie (1 - ep) = s.dev.pcie (1 - ep) ∧ (d.pcie ep).masked = ({} : Pcie).masked ∧
        d.tens = s.dev.tens ∧ d.sessions = [] ∧ d.rings = []) ∧
  (∀ (s : State) (ep v : Nat), ep < 2 → v < 72 → v ∈ (s.dev.pcie ep).pendingVec →
      Gives (.msixUnmask ep v) s fun d => d.sent = .msix ep v :: s.dev.sent) ∧
  (∀ (s : State) (ep ring : Nat) (c : RingCfg), ep < 2 → ring < s.dev.ringsGranted ep 0 → ring < 8 → (s.dev.rng (ep * 16 * 8 + ring)).cfg.en = false →
      c.msix < 8 → 4 ≤ c.sqLog2 → c.sqLog2 ≤ 12 → 4 ≤ c.cqLog2 → c.cqLog2 ≤ 12 → c.sqBase % 64 = 0 → c.cqBase % 64 = 0 →
      s.dev.inOutbound ep c.sqBase (32 * 2 ^ c.sqLog2) = true → s.dev.inOutbound ep c.cqBase (16 * 2 ^ c.cqLog2) = true →
      To (.ringCfgWrite ep 0 ring false c) s (s.dev.setRng (ep * 16 * 8 + ring) { cfg := c, sqHead := 0, cqTail := 0, cqHead := 0 })) ∧
  (∀ (s : State) (ep : Nat), ep < 2 → (s.dev.pcie ep).up = false → s.dev.rst.stage = .idle → s.dev.inService (0x1A + ep) = true →
      Gives (.pcieLinkUp ep) s fun d => (d.pcie ep).up = true)

/-! ### Atlas and Sheet chains (15) -/

/-- The chain's commands, where each takes effect (15 R399, R400, R402, R408 to R411, R414, R418 to R422): a role is stored and applied, a layout staged, the
query answered, DISCOVER learnt from, frames for others forwarded and repeats of a broadcast dropped, READY and GO sent, the barrier met or missed,
summaries and reset requests sent.
Choices of the model in it: notes/assumptions 85 to 88. -/
def Obligations.ChainCommandsComplete : Prop :=
  (∀ h role position chainId, Runs (.chainRole h role position chainId) h (.chainRole role position chainId)
      (fun c d => (d.present 15 = true ∨ d.present 16 = true) ∧ c.ses.mediator = true ∧ position ≤ 31 ∧ role ≤ 3 ∧ (chainId = 0 → role = 0))
      (fun _ _ => some { st := stOk, ph := 3 })
      (fun _ d =>
        let e := Dev.writeOptions { d with chain := { d.chain with role, position, chainId, listening := role == 1, acting := none, waiting := false,
                                                                   missed := false, inService := [], hops := [] } } 2
        let p := e.get .sesPortCfg 5
        (if role = 0 then e.put .sesPortCfg 5 (setBit p 62 false) else if role = 1 then e
          else e.put .sesPortCfg 5 (setBit (setBit p 63 true) 62 true)).topology)) ∧
  (∀ h addr len l, Runs (.chainLayout h addr len) h (.chainLayout addr len)
      (fun c d => c.ses.mediator = true ∧ d.acting = true ∧ d.allTagged addr len (d.ownerColour c.act) = true ∧ d.chain.run = none ∧
        parseLayout (d.peekN addr len) = some (l, d.chain.chainId) ∧ l.id ≠ d.layoutId ∧ (∀ p < l.ndev, d.reaches p = true) ∧ (d.routesOk l).1 = true)
      (fun c d =>
        let e := ((d.routesOk l).2.phaseDone c.ses.port c.ses.sid c.seq 1).stageItems l
        if e.chain.stageFail ≠ 0 then some { st := e.chain.stageFail, ph := 1 } else none)
      (fun c d =>
        let e := ((d.routesOk l).2.phaseDone c.ses.port c.ses.sid c.seq 1).stageItems l
        let f := e.each ((List.range l.ndev).filter (· != e.chain.position)) fun e p => e.sendLayout p (d.peekN addr len)
        if e.chain.stageFail ≠ 0 then e
        else { f with chain := { f.chain with run := some { port := c.ses.port, session := c.ses.sid, seq := c.seq, id := l.id } } })) ∧
  (∀ h first, Runs (.chainQuery h first) h (.chainQuery first) (fun c d => c.partner = true ∧ (d.acting = true → first < d.ndev))
      (fun c d =>
        let n := if d.acting = true then min ((d.maxLen c.ses.port - 64) / 96) (d.ndev - first) else 0
        some (rRead (u8 d.chain.role ++ u8 d.chain.position ++ u8 (d.chain.acting.getD 0xFF) ++ u8 (d.chain.standby.getD 0xFF) ++
          u32 d.chain.chainId ++ u8 d.ndev ++ u8 d.chain.topology ++
          u16 (d.chain.excluded.toNat + 2 * d.chain.waiting.toNat + 4 * (!d.chain.miscabled.isEmpty).toNat) ++ u32 d.layoutId ++ u64 d.chain.wallFrame ++
          u32 ((d.chain.go.map (·.exclude)).getD 0) ++ u32 d.reachMask ++ u16 d.chain.takeback ++ u8 (if d.acting = true then first else 0) ++ u8 n ++
          (List.range n).flatMap fun i => padTo 96 (((d.chain.summaries.find? (·.1 == first + i)).map (·.2)).getD []))))
      (fun _ d => d)) ∧
  (∀ (s : State), s.dev.chain.role ≠ 0 → To .discoverSend s
      (s.dev.chainBroadcast ([0, 1].filter fun p => (s.dev.mdk p).linked) 8
        (u32 s.dev.chain.chainId ++ u8 s.dev.chain.position ++ u8 s.dev.chain.role ++ zeros 2))) ∧
  (∀ (s : State) (port chainId position role bid : Nat), Quiet s.dev → port < 2 → s.dev.chain.role ≠ 0 → (s.dev.mdk port).linked = true →
      (∀ n ∈ sourceNumbers, s.dev.mirrorRoute n = none) → s.dev.chain.inService = [] → position < 32 → role < 4 → chainId < 2 ^ 32 → bid < 256 →
      (chainId = s.dev.chain.chainId → s.dev.faces port position = true → position ≠ s.dev.chain.position →
        Gives (.discoverRx port chainId position role 32 bid) s fun d =>
          d.chain.inService = [port] ∧ port ∉ d.chain.miscabled ∧ d.chain.hops.head? = some (port, position, 1, role, s.dev.tim.elapsed)) ∧
      (chainId ≠ s.dev.chain.chainId →
        Gives (.discoverRx port chainId position role 32 bid) s fun d => d.chain.inService = [] ∧ port ∈ d.chain.miscabled)) ∧
  (∀ (s : State) (port : Nat), Quiet s.dev → port < 2 → port ∈ s.dev.chain.inService → (∀ n ∈ sourceNumbers, s.dev.mirrorRoute n = none) →
      Gives (.chainLinkCut port) s fun d => d.chain.inService = s.dev.chain.inService.filter (· != port) ∧ ∀ h ∈ d.chain.hops, h.1 ≠ port) ∧
  (∀ (s : State) (port dst src ttl bid : Nat) (body : ChainBody), port < 2 → s.dev.chain.role ≠ 0 → port ∈ s.dev.chain.inService → 1 ≤ ttl →
      src ≠ s.dev.chain.position →
      (dst ≠ 0xFF → dst ≠ s.dev.chain.position → goesOn body = true →
        (ttl = 1 → To (.chainFrameRx port dst src ttl bid body) s s.dev) ∧
        (∀ p, 2 ≤ ttl → s.dev.pathTo dst = some p → To (.chainFrameRx port dst src ttl bid body) s
          (s.dev.mdkSend p (chainBytes body).1 (u8 dst ++ u8 src ++ u8 (ttl - 1) ++ u8 bid ++ (chainBytes body).2)))) ∧
      (dst = 0xFF → goesOn body = true → (∃ t, (src, bid, t) ∈ s.dev.chain.bids ∧ s.dev.tim.elapsed ≤ t + 100000000) →
        Gives (.chainFrameRx port dst src ttl bid body) s fun d => d = { s.dev with chain := { s.dev.chain with bids := d.chain.bids } }) ∧
      (∀ k b, dst = s.dev.chain.position → dst ≠ 0xFF → s.dev.acting = true → body = .summary k b →
        To (.chainFrameRx port dst src ttl bid body) s
          { s.dev with chain := { s.dev.chain with summaries := (src, b) :: s.dev.chain.summaries.filter (·.1 != src) } }) ∧
      (∀ k st fo fl su, dst = s.dev.chain.position → dst ≠ 0xFF → body = .ready k st fo fl su →
        To (.chainFrameRx port dst src ttl bid body) s
          (s.dev.readyRx src { frame := k, staged := st, inForce := fo, flags := fl, status := su }).settled)) ∧
  (∀ (s : State) (a : Nat), s.dev.chain.role ≠ 0 → s.dev.chain.acting = some a → a ≠ s.dev.chain.position → s.dev.chain.standby = none →
      let k := s.dev.wallFrameAt (bits s.dev.barrierCfg 63 48 * 1000)
      let e : Dev := { s.dev with chain := { s.dev.chain with wallFrame := k, goFrame := s.dev.chain.goFrame.filter (· == k) } }
      To .readySend s (e.chainUnicast 3 a (e.readyNow k).bytes).settled) ∧
  (∀ (s : State), Quiet s.dev → s.dev.chain.role = 1 → s.dev.acting = true → s.dev.chain.run = none →
      (s.dev.ndev ≤ 2 * s.dev.reachCount → Gives .goSend s fun d => ∃ g, d.chain.go = some g ∧ g.frame = s.dev.chain.wallFrame ∧ g.apply = 0 ∧
        g.inForce = s.dev.chain.wallForce ∧ g.ndev = s.dev.ndev ∧ g.original = true ∧ g.last = s.dev.chain.lastPending ∧ g.src = s.dev.chain.position ∧
        g.exclude = ((s.dev.wallPositions.filter fun p => (s.dev.excludeCause s.dev.chain.wallFrame 0 p).isSome).map (2 ^ ·)).sum) ∧
      (2 * s.dev.reachCount < s.dev.ndev → bits s.dev.barrierCfg 19 16 ≤ s.dev.chain.fewRun + 1 →
        To .goSend s { s.dev with chain := { s.dev.chain with acting := none, fewRun := 0, lastPending := false } })) ∧
  (∀ (s : State), Quiet s.dev → s.dev.chain.role = 3 → s.dev.chain.ready = [] → s.dev.chain.stepPending = none →
      (∀ g, s.dev.chain.goFrame = some s.dev.chain.wallFrame → s.dev.chain.go = some g → bit g.exclude s.dev.chain.position = false →
        s.dev.chain.missed = false → g.step = 0 → s.dev.stagedId = 0 → s.dev.acting = false →
        To .barrierDeadline s { s.dev with chain := { s.dev.chain with passed := some s.dev.chain.wallFrame, missed := false, excluded := false, missedRun := 0 } }) ∧
      (s.dev.chain.goFrame = none → Gives .barrierDeadline s fun d => d.chain.missed = true ∧ d.chain.missedRun = s.dev.chain.missedRun + 1 ∧
        d.chain.passed = some s.dev.chain.wallFrame ∧ d.chain.inForce = s.dev.chain.inForce)) ∧
  (∀ (s : State), s.dev.chain.role = 1 → s.dev.chain.listening = true → s.dev.ndev ≤ 2 * s.dev.reachCount →
      To .atlasListenExpire s (Dev.settled
        { s.dev with chain := { s.dev.chain with listening := false, acting := some s.dev.chain.position, wallForce := s.dev.layoutId } })) ∧
  (∀ (s : State), s.dev.acting = true → s.dev.chain.role = 2 → bits (s.dev.get .mdkBarrierCfg) 15 3 ≤ s.dev.chain.takeback →
      (∃ r ∈ s.dev.chain.ready, bit r.2.flags 2 = true) →
      To .takebackRunReached s (Dev.settled { s.dev with chain := { s.dev.chain with lastPending := true } })) ∧
  (∀ (s : State), s.dev.chain.role ≠ 0 →
      let body := outputNumbers.flatMap s.dev.outSummary
      (s.dev.acting = true → To .summarySend s
        { s.dev with chain := { s.dev.chain with summaries := (s.dev.chain.position, body) :: s.dev.chain.summaries.filter (·.1 != s.dev.chain.position) } }) ∧
      (∀ a, s.dev.acting = false → s.dev.chain.acting = some a → To .summarySend s (s.dev.chainUnicast 6 a (u64 s.dev.chain.wallFrame ++ body)))) ∧
  (∀ (s : State) (pos : Nat), pos < 32 → s.dev.acting = true → pos ≠ s.dev.chain.position → s.dev.reaches pos = true → 600 ≤ smGet 0 s.dev.chain.exclRun pos →
      ((∀ r ∈ s.dev.chain.resetSent, r.1 = pos → r.2 + 60000000000 ≤ s.dev.tim.elapsed) →
        Gives (.resetReqSend pos) s fun d => d.chain.resetSent = (pos, s.dev.tim.elapsed) :: s.dev.chain.resetSent.filter (·.1 != pos)) ∧
      ((∃ r ∈ s.dev.chain.resetSent, r.1 = pos ∧ s.dev.tim.elapsed < r.2 + 60000000000) → To (.resetReqSend pos) s s.dev))

/-! ### Resets, supplies and clocks (16 R425 to R438, R447, R448, 18 R487) -/

/-- The sources of a reset where no other reset runs and no SERVICE visit is open (16 R426, R427, R429, R447, R448): each starts the stretch, drives RSTOUT_N low and records its own cause,
level and history bit. The watchdog of a core that a debugger halts, a pulse below 2 µs, and SAFE with RST.SAFE_RESET_MS at 0 reset nothing.
Choices of the model in it: notes/assumptions 89. -/
def Obligations.ResetSourcesComplete : Prop :=
  (∀ (s : State), s.dev.rst.stage = .idle → s.dev.sec.service = none →
      let taken := fun (d : Dev) (cause level history : Nat) => d.rst.stage = .stretch ∧ d.rst.rstOutLow = true ∧ d.rst.bursol = false ∧
        d.rst.cause = cause ∧ d.rst.level = level ∧ d.rst.history = history ∧ d.rst.aoCleared = (level == 0)
      let old := s.dev.rst.history
      Gives .coldPowerOn s (taken · 0x01 0 1) ∧ Gives .brownout s (taken · 0x02 0 2) ∧
      (s.dev.bsh.st ≠ .standby → s.dev.rst.waitSupply = false → Gives .supplyDrop s (taken · 0x03 1 (old ||| 4))) ∧
      (∀ ns, 2500 ≤ ns → s.dev.bsh.st ≠ .standby → Gives (.resetPin ns) s (taken · 0x04 1 (old ||| 8))) ∧
      (∀ ns, 2500 ≤ ns → s.dev.bsh.st = .standby → Gives (.resetPin ns) s (taken · 0x05 1 (old ||| 16))) ∧
      (∀ k, Instr.wellFormed (.watchdog k) = true → k ∉ s.dev.rst.halted → s.dev.alive = true → s.dev.coreResets.length < 2 →
        Gives (.watchdog k) s (taken · 0x06 3 (old ||| 32))) ∧
      (∀ k, Instr.wellFormed (.lockstep k) = true → s.dev.coreResets.length < 2 → Gives (.lockstep k) s (taken · 0x07 3 (old ||| 64))) ∧
      (∀ k, Instr.wellFormed (.lockstep k) = true → 2 ≤ s.dev.coreResets.length → Gives (.lockstep k) s (taken · 0x08 2 (old ||| 128))) ∧
      (∀ sub code, Instr.wellFormed (.criticalState sub code) = true → Gives (.criticalState sub code) s fun d => taken d 0x09 2 (old ||| 256) ∧
        ∃ f l, d.flt.retained = f :: l ∧ f.unit = 0x3F ∧ f.sub = sub ∧ f.code = code) ∧
      (s.dev.flt.safe = true → s.dev.rst.safeResetMs ≠ 0 → Gives .safeResetExpire s (taken · 0x0B 2 (old ||| 1024)))) ∧
  (∀ s : State, (∀ ns, ns < 2000 → To (.resetPin ns) s s.dev) ∧
      (∀ k, Instr.wellFormed (.watchdog k) = true → k ∈ s.dev.rst.halted → To (.watchdog k) s s.dev) ∧
      (s.dev.rst.safeResetMs = 0 → To .safeResetExpire s s.dev))

/-- How a reset ends (16 R427, R431, R433, R436, R438, 18 R487): the supplies come up, the stretch ends, the option loader writes the option registers
from the copy it finds or from safe defaults, PLLs lock, and blocks are released or deferred.
Choices of the model in it: notes/assumptions 22 and 24. -/
def Obligations.ResetReleaseCompletes : Prop :=
  (∀ s : State, s.dev.sup.supplyEn = true → s.dev.sup.started = false →
      To .pgoodAssert s { s.dev with sup := { s.dev.sup with pgood := true, started := true }, rst := { s.dev.rst with waitSupply := false } } ∧
      To .pgoodTimeout s { s.dev with sent := .supplyEn true :: .supplyEn false :: s.dev.sent }) ∧
  (∀ s : State, To .thermalResetRelease s { s.dev with rst := { s.dev.rst with thermalHold := false } }) ∧
  (∀ s : State, s.dev.rst.stage = .stretch → s.dev.rst.thermalHold = false → s.dev.rst.waitSupply = false →
      (s.dev.rst.level = 3 → To .resetStretchEnd s
        { s.dev with rst := { s.dev.rst with stage := .idle, rstOutLow := false, wasLoading := false }, sent := .rstOut true :: s.dev.sent }) ∧
      (s.dev.rst.level ≠ 3 → s.dev.rst.wasLoading = false →
        To .resetStretchEnd s { s.dev with rst := { s.dev.rst with stage := .loading, loadRestarts := 0 } }) ∧
      (s.dev.rst.level ≠ 3 → s.dev.rst.wasLoading = true →
        To .resetStretchEnd s { s.dev with rst := { s.dev.rst with stage := .loading, wasLoading := false, loadRestarts := min 15 (s.dev.rst.loadRestarts + 1) } })) ∧
  (∀ s : State, s.dev.rst.stage = .stretch → (s.dev.rst.thermalHold = true ∨ s.dev.rst.waitSupply = true) → To .resetStretchEnd s s.dev) ∧
  (∀ s : State, s.dev.rst.stage = .loading → s.dev.optUse = none → 
      Gives .optionLoad s fun d => d.rst.stage = .idle ∧ d.rst.rstOutLow = false ∧ d.rst.optSrc = 2 ∧ d.rst.maintenance = true ∧
        d.rst.wdtMs = 500 ∧ d.rst.safeResetMs = 5000 ∧ d.sup.vr = 0x40A00000 ∧ d.chain.role = 0 ∧ (d.pcie 0).bar2Log = 32 ∧ (d.pcie 1).bar2Log = 32 ∧
        d.sent = .rstOut true :: s.dev.sent) ∧
  (∀ (s : State) (b : Bool) (gen : Nat) (w : List Nat), s.dev.rst.stage = .loading → s.dev.optUse = some (b, gen, w) →
      dramGibOf (w.getD 0 0) ≠ none →
      let w3 := w.getD 3 (500 + 65536 * 5000)
      Gives .optionLoad s fun d => d.rst.stage = .idle ∧ d.rst.rstOutLow = false ∧ d.rst.optSrc = b.toNat ∧
        d.rst.maintenance = decide (s.dev.lifecycle = 4) ∧ d.rst.wdtMs = bits w3 15 0 ∧ d.rst.safeResetMs = bits w3 31 16 ∧
        d.sup.vr = w.getD 4 0x40A00000 ∧ d.chain.role = bits (w.getD 2 0) 7 0 ∧ d.chain.position = bits (w.getD 2 0) 15 8 ∧ d.chain.chainId = bits (w.getD 2 0) 63 32) ∧
  (∀ (s : State) (p : Nat), Instr.wellFormed (.pllLock p) = true → (∀ b < 40, bit s.dev.rst.deferRaised b = true → pllOf b ≠ p) →
      To (.pllLock p) s { s.dev with rst := { s.dev.rst with pllGood := setBit s.dev.rst.pllGood p true } }) ∧
  (∀ (s : State) (p b : Nat), Instr.wellFormed (.clockGoodTimeout p) = true → bit s.dev.rst.pllGood p = false → b < 40 → bit s.dev.rst.deferRaised b = true →
      pllOf b = p → To (.clockGoodTimeout p) s (s.dev.reportFault (0x38 + p) 0 5).settled) ∧
  (∀ (s : State) (b : Nat), Quiet s.dev → 11 ≤ b → b < 24 → bit s.dev.rst.blkSrst b = true → s.dev.blockPresent b = true →
      (∀ c < 40, s.dev.blockPresent c = false → bit s.dev.rst.blkSrst c = true) →
      let w := setBit s.dev.rst.blkSrst b false
      Instr.wellFormed (.blkSrstWrite w) = true →
      (bit s.dev.rst.pllGood (pllOf b) = true → To (.blkSrstWrite w) s { s.dev with rst := { s.dev.rst with blkSrst := w } }) ∧
      (bit s.dev.rst.pllGood (pllOf b) = false → Gives (.blkSrstWrite w) s fun d =>
        d.rst.blkSrst = w ∧ bit d.rst.blkDefer b = true ∧ bit d.rst.deferRaised b = true)) ∧
  (∀ (s : State) (b : Nat), Quiet s.dev → Instr.wellFormed (.blockResetDone b) = true → s.dev.rst.blkRun.find? (·.1 == b) = some (b, false) →
      Gives (.blockResetDone b) s fun d => d.rst.blkRun = s.dev.rst.blkRun.filter (·.1 != b) ∧
        ∀ x, d.peek x = if (match chartPart b with | some (lo, n) => decide (lo ≤ x ∧ x < lo + n) | none => false) then memDefault x else s.dev.peek x)

/-- R428: a reset taken while another is being stretched or released restarts the stretch, at the deeper of the two levels and with the cause of the deeper one, or
with its own at the same level; both causes are in HISTORY, which COLD and BROWNOUT clear first (R429). -/
def Obligations.ResetsMerge : Prop :=
  ∀ (d : Dev) (cause level : Nat), 1 ≤ cause → level ≤ 3 → d.rst.stage ≠ .idle →
    let e := d.resetTo cause level
    e.rst.stage = .stretch ∧ e.rst.level = min d.rst.level level ∧ e.rst.cause = (if d.rst.level < level then d.rst.cause else cause) ∧
    (cause ≠ 1 → cause ≠ 2 → e.rst.history = d.rst.history ||| 2 ^ (cause - 1)) ∧
    (cause = 1 ∨ cause = 2 → e.rst.history = 2 ^ (cause - 1))

/-- The reach of each level (16 Table 16.1, R425; 11 R302): audit MRAM and the fuses survive every reset, the AO domain all but a COLD one; a CORE reset keeps
memory, the device clock, tenancies, sessions and what the outputs show; a deeper one clears them.
Choices of the model in it: notes/assumptions 13 and 25. -/
def Obligations.ResetReach : Prop :=
  ∀ (d : Dev) (cause level : Nat), level ≤ 3 → d.sec.service = none → d.sup.supplyEn = true →
    let e := d.resetTo cause level
    (∀ x, 0x30000000 ≤ x → x < 0x30400000 → e.peek x = d.peek x) ∧
    (e.sec.fuseOpen, e.sec.fuseSealed, e.sec.fuseRetired, e.sec.rootHash, e.sec.rootRevoke, e.sec.svnBursol, e.sec.svnService, e.sec.flash) =
      (d.sec.fuseOpen, d.sec.fuseSealed, d.sec.fuseRetired, d.sec.rootHash, d.sec.rootRevoke, d.sec.svnBursol, d.sec.svnService, d.sec.flash) ∧
    (level ≠ 0 → (∀ i < 32, e.get .rstBackup i = d.get .rstBackup i) ∧ e.sec.tamperLog = d.sec.tamperLog ∧ e.flt.retained = d.flt.retained) ∧
    (level = 0 → (∀ i < 32, e.get .rstBackup i = 0) ∧ e.sec.tamperLog = [] ∧ e.flt.retained = []) ∧
    (level = 3 → e.sessions = d.sessions ∧ e.tens = d.tens ∧ e.tim = d.tim ∧ e.outs = d.outs ∧ e.srcs = d.srcs ∧ e.wits = d.wits ∧
      e.mem.cells = d.mem.cells ∧ e.mem.tags = d.mem.tags ∧ e.mem.trained = d.mem.trained ∧ e.mem.remap = false) ∧
    (level ≠ 3 → e.sessions = [] ∧ e.tens = [] ∧ e.tim = {} ∧ e.outs = [] ∧ e.srcs = [] ∧ e.mem.tags = [] ∧ e.mem.trained = false ∧ e.mem.remap = false ∧
      ∀ x, (x < 0x30000000 ∨ 0x30400000 ≤ x) → e.peek x = memDefault x)

/-- State.reset: the values that the spec gives for the device after a COLD reset: cause 1 and level 0 with its own history bit (Table 16.3), the AO domain cleared (Table 16.4), RSTOUT_N
low and the stretch before it (R427), the reset bits of Table 16.6, TIM.STATUS FREE_RUN with S and NS zero (R70), no session and no tenancy, the lifecycle MANUFACTURE of a blank
part (R457), and memory in its canonical form. The spec's values alone; the others are the model's choices. -/
def Obligations.ResetState : Prop :=
  let d := State.reset.dev
  d.rst.cause = 1 ∧ d.rst.level = 0 ∧ d.rst.history = 1 ∧ d.rst.aoCleared = true ∧ d.rst.stage = .stretch ∧ d.rst.rstOutLow = true ∧ d.rst.blkSrst = 0xFFF3FFFFFF ∧
  d.rst.wdtMs = 500 ∧ d.rst.safeResetMs = 5000 ∧ d.tim.st = .freeRun ∧ d.tim.s = 0 ∧ d.tim.ns = 0 ∧ d.sessions = [] ∧ d.tens = [] ∧ d.lifecycle = 0 ∧
  d.sup.vr = 0x40A00000 ∧ d.mem.wf = true ∧ State.reset.pending = []

/-! ### Faults and tally channels (16 R440 to R453) -/

/-- FAULT_READ, FAULT_CLEAR, RESET and DIAG_TALLY_READ where their checks pass, a fault's report and its retry, and a tally channel's message (16 R442, R443, R445, R446, R449, R453,
10 Table 10.9). A deeper RESET replies first and is taken then.
Choices of the model in it: notes/assumptions 90 and 91. -/
def Obligations.FaultCommandsComplete : Prop :=
  (∀ h, Runs (.faultRead h) h .faultRead (fun c _ => c.partner = true)
      (fun _ d => some (rRead (u8 d.flt.queue.length ++ u8 d.flt.log.length ++ zeros 2 ++ (d.flt.queue ++ d.flt.log).flatMap (·.bytes)))) (fun _ d => d)) ∧
  (∀ h w, Runs (.faultClear h w) h (.faultClear w)
      (fun c d => c.ses.mediator = true ∧ 4 ≤ w % 256 ∧ d.quarantined (w % 256) (w / 256 % 256) = true ∧ ∀ b ∈ d.rst.blkRun, b.1 ≠ w % 256)
      (fun _ _ => some rOk)
      (fun _ d =>
        let u := w % 256
        let s := w / 256 % 256
        let e : Dev := { d with flt := { d.flt with quar := d.flt.quar.filter (· != (u, s)) } }
        ((e.when (u == 0x0E) fun d => d.modHap s fun h => { h with stopped := false }).faultEvent 2 u (u8 s) false).backInService u)) ∧
  (∀ h b, Runs (.reset h 0 b) h (.reset 0 b) (fun c d => c.ses.mediator = true ∧ b < 40 ∧ d.blockPresent b = true)
      (fun _ _ => some { st := stOk, ph := 1 }) (fun _ d => d.blockReset b true)) ∧
  (∀ h level b, 1 ≤ level → level ≤ 3 → Runs (.reset h level b) h (.reset level b) (fun c _ => c.ses.mediator = true)
      (fun _ _ => some { st := stOk, ph := 1 }) (fun _ d => d)) ∧
  (∀ h ch, Runs (.diagTallyRead h ch) h (.diagTallyRead ch) (fun c _ => c.partner = true ∧ ch < 16)
      (fun _ d => some (rRead (u64 (d.get .talValue ch) ++ u16 (bits (d.talStatus ch) 31 16) ++ u16 (bits (d.talStatus ch) 1 0)))) (fun _ d => d)) ∧
  (∀ (s : State) (unit sub code : Nat), Quiet s.dev → Instr.wellFormed (.faultReport unit sub code) = true → reportable unit = true → unit ≠ 0x28 →
      (unit < 4 → (s.dev.plate unit).failover = false) → s.dev.flt.safe = false → s.dev.flt.handling = false → s.dev.flt.queue = [] →
      Gives (.faultReport unit sub code) s fun d => d.flt.handling = true ∧ d.flt.queue =
        [{ time := s.dev.now, unit, sub := subOf unit sub, code, severity := faultSeverity unit, verdict := 0, epoch := s.dev.epoch, seq := s.dev.flt.seq }]) ∧
  (∀ (s : State) (f : FaultRec), Quiet s.dev → s.dev.flt.handling = true → s.dev.flt.safe = false → s.dev.flt.queue = [f] → s.dev.rst.stage = .idle →
      (f.unit ≠ 0x0E → f.unit < 0x30 → Gives (.faultRetryDone true) s fun d =>
        d.flt.handling = false ∧ d.flt.queue = [] ∧ d.flt.quar = s.dev.flt.quar ∧ d.flt.log = ({ f with verdict := 1 } :: s.dev.flt.log).take 64) ∧
      (f.unit = 0x0F → f.severity = 1 → Gives (.faultRetryDone false) s fun d =>
        d.flt.handling = false ∧ d.flt.queue = [] ∧ (f.unit, f.sub) ∈ d.flt.quar ∧ d.flt.log.head? = some { f with verdict := 2 }) ∧
      (f.severity = 3 → s.dev.sec.service = none → Gives (.faultRetryDone false) s fun d =>
        d.rst.cause = 0x0A ∧ d.rst.level = 2 ∧ d.rst.stage = .stretch ∧ d.flt.retained.head? = some { f with verdict := 2 })) ∧
  (∀ (s : State) (ch : Nat) (msg : Bytes), Instr.wellFormed (.tallyMessage ch msg) = true →
      let cfg := s.dev.get .talCfg ch
      bit cfg 63 = true → bit cfg 51 = false → s.dev.talReserved ch = false → (bits cfg 60 59 = 2 → talMatches (s.dev.get .talMatch ch) msg = true) →
      To (.tallyMessage ch msg) s ((s.dev.put .talValue ch (tallyCrc (bits cfg 62 61) msg)).count .talCount ch))

/-- How a fault that arrives while another one is handled fares (16 R443): of equal or higher severity in another unit it escalates, and beyond HIGH that takes a SYS reset with
cause FAULT; of lower severity it waits its turn, and where 16 records are held the device enters SAFE, which is told and takes no more. The record that is handled next is the
most severe of those that wait.
Choices of the model in it: notes/assumptions 90. -/
def Obligations.FaultsEscalateOrWait : Prop :=
  (∀ (d : Dev) (unit sub code : Nat) (h : FaultRec) (q : List FaultRec), reportable unit = true → unit ≠ 0x28 → 4 ≤ unit → d.flt.safe = false →
      d.flt.handling = true → d.flt.queue = h :: q → (h.unit, h.sub) ≠ (unit, subOf unit sub) → d.sec.service = none → d.rst.stage = .idle →
      (h.severity ≤ faultSeverity unit → 2 ≤ h.severity →
        let e := d.reportFault unit sub code
        e.rst.cause = 0x0A ∧ e.rst.level = 2 ∧ e.rst.stage = .stretch) ∧
      (faultSeverity unit < h.severity → d.flt.queue.length < 16 →
        ∃ f, (d.reportFault unit sub code).flt.queue = (h :: q) ++ [f] ∧ f.unit = unit ∧ f.sub = subOf unit sub ∧ f.code = code ∧ f.verdict = 0) ∧
      (faultSeverity unit < h.severity → 16 ≤ d.flt.queue.length →
        (d.reportFault unit sub code).flt.safe = true ∧ (d.reportFault unit sub code).flt.queue = h :: q)) ∧
  (∀ (d : Dev) (unit sub code : Nat), 4 ≤ unit → d.flt.safe = true → (d.reportFault unit sub code).flt.queue = d.flt.queue ∧
      (d.reportFault unit sub code).rst = d.rst) ∧
  (∀ (d : Dev) (f : FaultRec), d.nextFault.flt.queue.head? = some f → f ∈ d.flt.queue ∧ ∀ g ∈ d.flt.queue, g.severity ≤ f.severity)


/-! ### Boot, attestation, audit, SERVICE, tamper inputs, debug (17) -/

/-- The security opcodes and the diagnostic reads where their checks pass (17 R465, R466, R470, R472, R475; 10 Table 10.9, 14 R395): what each answers and what it
changes.
Choices of the model in it: notes/assumptions 38 and 92 to 95. -/
def Obligations.SecurityCommandsComplete : Prop :=
  (∀ h nonce, Runs (.attest h nonce) h (.attest nonce) (fun _ d => d.lifecycle ≠ 4 ∧ nonce.length = 32)
      (fun _ d => some (rRead (d.quote nonce ++ padTo 96 (Config.ecdsaSign 0 (d.quote nonce))))) (fun _ d => d)) ∧
  (∀ h first count, Runs (.auditRead h first count) h (.auditRead first count)
      (fun c d => c.ses.mediator = true ∧ 28 + 16 + 128 * count ≤ d.maxLen c.ses.port ∧ 1 ≤ d.sec.auditSeq)
      (fun _ d =>
        let s := d.auditFrom (first % 2 ^ 32)
        some (rRead (u64 d.auditOldest ++ u64 d.sec.auditSeq ++
          (List.range (min count (d.sec.auditSeq + 1 - s))).flatMap fun i => d.peekN (auditAddr (s + i)) 128)))
      (fun _ d => d)) ∧
  (∀ h, Runs (.serviceChallenge h) h .serviceChallenge (fun c d => c.ses.mediator = true ∧ d.lifecycle = 2)
      (fun _ d => some (rRead ((d.freshBytes 32).1 ++ padTo 16 Config.serial ++ u8 d.sec.svnService ++ zeros 3 ++ tm (d.now + 60000000000))))
      (fun _ d => { (d.freshBytes 32).2 with sec := { d.sec with challenge := some ((d.freshBytes 32).1, d.now + 60000000000) } })) ∧
  (∀ h body, Runs (.serviceEnter h body) h (.serviceEnter body)
      (fun c d => c.ses.mediator = true ∧ ∀ x ∈ d.serviceChecks body, x.1 = false)
      (fun _ _ => some rOk)
      (fun c d =>
        let gen := leVal ((body.drop 196).take 4)
        let dur := leVal ((body.drop 200).take 4)
        let e := Dev.audit { d with sec := { d.sec with challenge := none } } 0x0006 (u8 0 ++ u16 0 ++ u32 gen) c.ses.port 0
        let e : Dev := { e with sec := { e.sec with service := some { gen, durationS := dur, since := e.tim.elapsed }, serviceSinceBoot := true } }
        ((e.measure 7 (Config.sha384 body)).setDebugRegions).raise toPartners { code := 0xED01, object := c.ses.port, data := u32 gen ++ u32 dur })) ∧
  (∀ h, Runs (.serviceExit h) h .serviceExit (fun c d => c.ses.mediator = true ∧ d.sec.service ≠ none) (fun _ _ => some rOk) (fun _ d => d.endService 0)) ∧
  (∀ h off data, Runs (.firmwareStage h off false data) h (.firmwareStage off false data)
      (fun c _ => c.ses.mediator = true ∧ off + data.length ≤ 2 ^ 24) (fun _ _ => some rOk) (fun _ d => d.stage off data)) ∧
  (∀ h off data, Runs (.firmwareStage h off true data) h (.firmwareStage off true data)
      (fun c d => c.ses.mediator = true ∧ off + data.length ≤ 2 ^ 24 ∧ (d.stage off data).imgStatus (d.stage off data).stagedImage = stOk ∧
        imgType (d.stage off data).stagedImage = 1)
      (fun _ _ => some rOk)
      (fun c d =>
        let e := d.stage off data
        let b := e.stagedImage
        let f := e.firmwareDone e.stageSlot stOk b c.ses.port
        { f with sec := { f.sec with flash := smSet [] f.sec.flash e.stageSlot b } })) ∧
  (∀ h o band, Runs (.diagTileRead h o band) h (.diagTileRead o band)
      (fun c d => o < 8 ∧ d.present (4 + plateOf o) = true ∧ c.ownsOrMed (d.outOwner o) = true ∧ band < d.bands o)
      (fun _ d => some (rRead (d.bandSummaries o band).1)) (fun _ d => (d.bandSummaries o band).2)) ∧
  (∀ h lane dwell dest, Runs (.diagEyeScan h lane dwell dest) h (.diagEyeScan lane dwell dest)
      (fun c d => lane ≤ 23 ∧ d.lanePresent lane = true ∧ c.ses.mediator = true ∧ d.allTagged dest 16384 (d.ownerColour c.act) = true ∧ 10 ≤ dwell ∧ dwell ≤ 32 ∧
        ∀ x ∈ d.scans, x.1 ≠ lane / 4)
      (fun _ _ => some (rAccepted 1))
      (fun c d => { d with scans := (lane / 4, { port := c.ses.port, session := c.ses.sid, seq := c.seq, lane, dest }) :: d.scans })) ∧
  (∀ (s : State) (q : Nat) (counts : Bytes) (e : EyeScan), q < 6 → s.dev.scans.find? (·.1 == q) = some (q, e) →
      To (.eyeScanDone q counts) s
        ((({ s.dev with scans := s.dev.scans.filter (·.1 != q) } : Dev).poke e.dest (padTo 16384 counts)).finish e.port e.session e.seq stOk 2).settled)

/-- Boot, the way an image is accepted or waited for, SVN_BURSOL, SERVICE's end, tamper inputs, debug halts and frames on S0, where each takes effect (17 R458, R460, R461, R464, R472, R476,
R477, Table 17.7; 16 R435; 10 R260).
Choices of the model in it: notes/assumptions 92 and 93. -/
def Obligations.BootAndTamperComplete : Prop :=
  (∀ (s : State), s.dev.rst.stage = .idle → s.dev.rst.bursol = false → s.dev.bsh.st ≠ .standby →
      (s.dev.rst.level = 3 → s.dev.sec.running.digest ≠ [] → To .bursolStart s s.dev.restartBursol.takeHeld.settled) ∧
      (s.dev.rst.level ≠ 3 → s.dev.sec.mailbox.waiting = false → bit s.dev.rst.pllGood 2 = true →
        (∀ k l, s.dev.bootOrder = k :: l → s.dev.bootStatus (s.dev.flashImg k) = stOk →
          To .bursolStart s (s.dev.startBursol (s.dev.flashImg k) false).takeHeld.settled) ∧
        ((∀ k ∈ s.dev.bootOrder, s.dev.bootStatus (s.dev.flashImg k) ≠ stOk) →
          To .bursolStart s { s.dev with sec := { s.dev.sec with mailbox := { waiting := true } } }))) ∧
  (∀ (s : State) (ep addr len : Nat) (image : Bytes), Instr.wellFormed (.bootMailboxGo ep addr len image) = true → s.dev.sec.mailbox.waiting = true →
      (s.dev.bootStatus image = stOk → To (.bootMailboxGo ep addr len image) s (s.dev.startBursol image true).settled) ∧
      (s.dev.bootStatus image ≠ stOk → Quiet s.dev → To (.bootMailboxGo ep addr len image) s
        { s.dev with sec := { s.dev.sec with mailbox := { waiting := true, status := 2, code := s.dev.bootStatus image, addr, len } } })) ∧
  (∀ s : State, s.dev.alive = true → s.dev.sec.running.commitSvn = true → s.dev.sec.running.coreReset = false →
      s.dev.sec.svnBursol < s.dev.sec.running.svn →
      To .svnCommitTimer s
        (Dev.audit { s.dev with sec := { s.dev.sec with svnBursol := s.dev.sec.running.svn } } 0x0004 (u8 3 ++ u8 0 ++ u16 s.dev.sec.running.svn))) ∧
  (∀ (s : State) (v : Service), Quiet s.dev → s.dev.sec.service = some v →
      Gives .serviceExpire s fun d => d.sec.service = none ∧ d.rst.halted = [] ∧ d.sec.auditSeq = s.dev.sec.auditSeq + 1) ∧
  (∀ (s : State) (n : Nat), n < 4 → Quiet s.dev → bit (s.dev.get .secTamperCfg n) 15 = true → s.dev.sec.tamperLog.length < 16 →
      Gives (.tamperEdge n false) s fun d => d.sec.tamperLog = s.dev.sec.tamperLog ++ [s.dev.tamperEntry n false false] ∧
        (s.dev.alive = true → d.sec.auditSeq = s.dev.sec.auditSeq + 1) ∧ (s.dev.alive = false → d.sec.auditSeq = s.dev.sec.auditSeq)) ∧
  (∀ (s : State) (n : Nat), n < 4 → Quiet s.dev → bit (s.dev.get .secTamperCfg n) 15 = true →
      bit (s.dev.get .secTamperCfg n) 6 = true → bit (s.dev.get .secTamperCfg n) 7 = false → bit (s.dev.get .secTamperCfg n) 5 = false →
      s.dev.flag .bshNightCfg 0 (20 + n) = false →
      Gives (.tamperEdge n true) s fun d => ∀ i < 24, d.get .rstBackup i = 0) ∧
  (∀ (s : State) (n : Nat) (on : Bool), n < 4 → bit (s.dev.get .secTamperCfg n) 15 = false → Quiet s.dev → To (.tamperEdge n on) s s.dev) ∧
  (∀ (s : State) (k : Nat), k < 4 → Quiet s.dev →
      (s.dev.mayHalt k = true → k ∉ s.dev.rst.halted → To (.debugHalt k true) s { s.dev with rst := { s.dev.rst with halted := k :: s.dev.rst.halted } }) ∧
      (s.dev.mayHalt k = false → To (.debugHalt k true) s s.dev) ∧
      To (.debugHalt k false) s { s.dev with rst := { s.dev.rst with halted := s.dev.rst.halted.filter (· != k) } }) ∧
  (∀ (s : State) (n : Nat) (p : Packet), s.dev.alive = true →
      (n ≤ 4124 → To (.s0FrameRx true n p) s (s.dev.packet 4 0 p)) ∧
      To (.s0FrameRx false n p) s ((s.dev.sesCount 4 0).sesCount 4 1) ∧
      (4124 < n → To (.s0FrameRx true n p) s ((s.dev.sesCount 4 0).sesCount 4 1)))

/-- The audit log (17 R473): an entry carries the next SEQ and a CHAIN over the entry before it, at its own slot of the ring; the entries of every other slot stay as they were, and memory
outside the ring too.
Choices of the model in it: notes/assumptions 3. -/
def Obligations.AuditEntriesChain : Prop :=
  ∀ (d : Dev) (code port tenancy : Nat) (data : Bytes), d.mem.wf = true →
    let e := d.audit code data port tenancy
    let a := auditAddr (d.sec.auditSeq + 1)
    let entry := e.peekN a 128
    e.sec.auditSeq = d.sec.auditSeq + 1 ∧ e.mem.wf = true ∧
    e.sec.auditChain = padTo 48 (Config.sha384 (d.sec.auditChain ++ entry.take 80)) ∧ entry.drop 80 = e.sec.auditChain ∧
    entry.take 8 = u64 (d.sec.auditSeq + 1) ∧ (entry.drop 16).take 2 = u16 code ∧ (entry.drop 24).take 56 = padTo 56 data ∧
    (∀ x, (x < mramBase + 0x110000 ∨ mramBase + 0x3F0000 ≤ x) → e.peek x = d.peek x) ∧
    (∀ k, auditAddr k ≠ a → e.peekN (auditAddr k) 128 = d.peekN (auditAddr k) 128)

/-- The lifecycle (17 R455, R457): the state is the highest group with three fuses blown or more, MANUFACTURE with none, and SERVICE only while a visit lasts in SEALED; a directive that is
accepted never lowers a thermometer count, a group's fuses or a root's revocation. -/
def Obligations.FusesOnlyGrow : Prop :=
  (∀ d : Dev, d.lifecycle =
      if 3 ≤ d.sec.fuseRetired then 4 else if 3 ≤ d.sec.fuseSealed then (if d.sec.service.isSome then 3 else 2) else if 3 ≤ d.sec.fuseOpen then 1 else 0) ∧
  (∀ (d : Dev) (b : Bytes) (port : Nat), d.dirStatus b = stOk → d.sec.fuseOpen ≤ 4 → d.sec.fuseSealed ≤ 4 → d.sec.fuseRetired ≤ 4 →
      (∀ i, smGet 0 d.sec.rootRevoke i ≤ 4) → 
      let e := d.applyDirective b port
      d.sec.fuseOpen ≤ e.sec.fuseOpen ∧ d.sec.fuseSealed ≤ e.sec.fuseSealed ∧ d.sec.fuseRetired ≤ e.sec.fuseRetired ∧
      d.sec.svnBursol ≤ e.sec.svnBursol ∧ d.sec.svnService ≤ e.sec.svnService ∧ (∀ i, smGet 0 d.sec.rootRevoke i ≤ smGet 0 e.sec.rootRevoke i) ∧
      (∀ i, smGet [] d.sec.rootHash i ≠ [] → smGet [] e.sec.rootHash i = smGet [] d.sec.rootHash i))

/-! ### The whole block -/

/-- A number runs once (10 R271, R273): a packet that bears a number of the window whose command runs or is done runs nothing. It is counted and answered DUPLICATE with the status, the
phase and the first 64 bytes that the original has, and nothing else of the device changes: no session, no memory, no unit. -/
def Obligations.DuplicatesRunNothing : Prop :=
  ∀ (d : Dev) (h : Hdr) (op : IcpOp) (s : Session) (r : Rec), d.alive = true → d.ses h.port = some s → (6 ≤ h.port ∨ d.flag .sesPortCfg h.port 63 = true) →
    ((h.port = 2 ∨ h.port = 3) → h.peer = s.peer) → h.session = s.sid → 1 ≤ h.seq → h.seq ≤ s.h → s.h < h.seq + 64 → s.h < 2 ^ 32 →
    s.recs.find? (·.seq == h.seq) = some r → r.slot ≠ .hole →
    let e := d.deliver h op
    e = { d with regs := e.regs, eths := e.eths, sent := e.sent } ∧
    (h.port ≠ 2 → h.port ≠ 3 → e.eths = d.eths ∧ e.sent = .reply h.port h.session h.seq (opCode op + 0x8000) stDuplicate r.phase (decide (64 < r.replyLen)) false
      (u16 r.orig ++ zeros 2 ++ r.cached) :: d.sent)

/-- What a reply changes (10 R257, R273): once a command's effect is there, and with nothing else waiting for it, answering touches the issuer's session and its logs, the counters and
the transports by which the reply leaves. No other session, no memory, no source, output, tenancy, clock or security state changes. -/
def Obligations.RepliesChangeTheirSessionAlone : Prop :=
  ∀ (d : Dev) (h : Hdr) (op : IcpOp) (s : Session) (r : Option Res), Quiet d → opCode op ≠ opCode .sessionClose → (∀ level block, op ≠ .reset level block) →
    let e := answered d h op s r
    e = { d with regs := e.regs, sessions := e.sessions, orphans := e.orphans, travLogs := e.travLogs, rings := e.rings, eths := e.eths,
                 pcies := e.pcies, sent := e.sent } ∧
    ∀ p, p ≠ s.port → e.ses p = d.ses p

/-- The block never stops on well-formed commands, and takes them first in, first out: from any state whose waiting commands are all well-formed, as many steps as there are commands
answer next states, each with the rest of the queue, until the queue is empty. -/
def Obligations.WellFormedQueuesDrain : Prop :=
  ∀ s : State, (∀ c ∈ s.pending, c.wellFormed = true) →
    ∃ f : Nat → State, f 0 = s ∧ (∀ k ≤ s.pending.length, (f k).pending = s.pending.drop k) ∧ ∀ k < s.pending.length, step (f k) = .next (f (k + 1))

/-- Every step of the block keeps memory in its canonical form (01 Table 1.7, one sparse map over the address space): addresses strictly rising, and no byte listed that an unlisted
address reads. It holds after reset (`ResetState`). -/
def Obligations.StepsKeepMemoryForm : Prop :=
  ∀ s t : State, s.dev.mem.wf = true → step s = .next t → t.dev.mem.wf = true
end

