-- ==== Sys2Proof/Laws/State.lean ====
section
/-!
SUPPORT. What the named operations over the state do: the sparse maps in which units, parameters and memory are held, the parameter fabric, and
the frames of counting, sending and raising an event.
-/

namespace Sys2Proof.Machine

/-! ### Sparse maps -/

/-- Keys that rise from a bound are not below it. -/
theorem smSorted_ge {α : Type} {m : List (Nat × α)} {lo : Nat} (h : smSorted lo m = true) : ∀ e ∈ m, lo ≤ e.1 := by
  induction m generalizing lo with
  | nil => simp
  | cons a m ih =>
    simp only [smSorted, Bool.and_eq_true, decide_eq_true_eq] at h
    intro e he
    rcases List.mem_cons.mp he with rfl | he
    · exact h.1
    · have := ih h.2 e he; omega

/-- A lower bound may be lowered. -/
theorem smSorted_mono {α : Type} {m : List (Nat × α)} {lo lo' : Nat} (hl : lo' ≤ lo) (h : smSorted lo m = true) : smSorted lo' m = true := by
  cases m with
  | nil => rfl
  | cons a m =>
    simp only [smSorted, Bool.and_eq_true, decide_eq_true_eq] at h ⊢
    exact ⟨by omega, h.2⟩

/-- Erasing keeps the order. -/
theorem smErase_sorted {α : Type} {m : List (Nat × α)} {lo : Nat} (k : Nat) (h : smSorted lo m = true) : smSorted lo (smErase m k) = true := by
  induction m generalizing lo with
  | nil => rfl
  | cons a m ih =>
    obtain ⟨k', v⟩ := a
    simp only [smSorted, Bool.and_eq_true, decide_eq_true_eq] at h
    simp only [smErase]
    split
    · exact smSorted_mono (by omega) (ih h.2)
    · simp only [smSorted, Bool.and_eq_true, decide_eq_true_eq]
      exact ⟨h.1, ih h.2⟩

/-- Inserting keeps the order. -/
theorem smInsert_sorted {α : Type} {m : List (Nat × α)} {lo k : Nat} (v : α) (hk : lo ≤ k) (h : smSorted lo m = true) :
    smSorted lo (smInsert m k v) = true := by
  induction m generalizing lo with
  | nil => simp [smInsert, smSorted, hk]
  | cons a m ih =>
    obtain ⟨k', v'⟩ := a
    simp only [smSorted, Bool.and_eq_true, decide_eq_true_eq] at h
    simp only [smInsert]
    split
    · simp only [smSorted, Bool.and_eq_true, decide_eq_true_eq]
      exact ⟨hk, by omega, h.2⟩
    · split
      · subst_vars
        simp only [smSorted, Bool.and_eq_true, decide_eq_true_eq]
        exact ⟨hk, h.2⟩
      · simp only [smSorted, Bool.and_eq_true, decide_eq_true_eq]
        exact ⟨h.1, ih (by omega) h.2⟩

/-- Erasing lists nothing new. -/
theorem smErase_mem {α : Type} {m : List (Nat × α)} {k : Nat} {e : Nat × α} (h : e ∈ smErase m k) : e ∈ m := by
  induction m with
  | nil => exact h
  | cons a m ih =>
    simp only [smErase] at h
    split at h
    · exact List.mem_cons_of_mem _ (ih h)
    · rcases List.mem_cons.mp h with rfl | h
      · exact List.mem_cons_self ..
      · exact List.mem_cons_of_mem _ (ih h)

/-- Inserting lists the key alone. -/
theorem smInsert_mem {α : Type} {m : List (Nat × α)} {k : Nat} {v : α} {e : Nat × α} (h : e ∈ smInsert m k v) : e = (k, v) ∨ e ∈ m := by
  induction m with
  | nil => simpa [smInsert] using h
  | cons a m ih =>
    simp only [smInsert] at h
    split at h
    · simpa using h
    · split at h
      · rcases List.mem_cons.mp h with rfl | h
        · exact .inl rfl
        · exact .inr (List.mem_cons_of_mem _ h)
      · rcases List.mem_cons.mp h with rfl | h
        · exact .inr (List.mem_cons_self ..)
        · rcases ih h with h | h
          · exact .inl h
          · exact .inr (List.mem_cons_of_mem _ h)

/-- A write keeps the canonical form, where what the key reads unlisted is the default that the form names. -/
theorem smSet_wf {α : Type} [DecidableEq α] (d : Nat → α) (m : List (Nat × α)) (k : Nat) (v : α) (h : smWf d m = true) :
    smWf d (smSet (d k) m k v) = true := by
  simp only [smWf, Bool.and_eq_true, List.all_eq_true, decide_eq_true_eq] at h ⊢
  unfold smSet
  split
  · exact ⟨smErase_sorted k h.1, fun e he => h.2 e (smErase_mem he)⟩
  · rename_i hv
    refine ⟨smInsert_sorted v (Nat.zero_le _) h.1, fun e he => ?_⟩
    rcases smInsert_mem he with rfl | he
    · exact hv
    · exact h.2 e he

/-- An unlisted key reads its default. -/
theorem smGet_none {α : Type} {d : α} {m : List (Nat × α)} {k : Nat} (h : ∀ e ∈ m, e.1 ≠ k) : smGet d m k = d := by
  induction m with
  | nil => rfl
  | cons a m ih =>
    obtain ⟨k', v⟩ := a
    rw [smGet, if_neg (Ne.symm (h (k', v) (by simp)))]
    exact ih fun e he => h e (by simp [he])

/-- What an inserted key reads. -/
theorem smGet_insert {α : Type} (d : α) (m : List (Nat × α)) (k j : Nat) (v : α) :
    smGet d (smInsert m k v) j = if j = k then v else smGet d m j := by
  induction m with
  | nil => simp [smInsert, smGet]
  | cons a m ih =>
    obtain ⟨k', v'⟩ := a
    simp only [smInsert]
    split
    · simp [smGet]
    · split
      · subst_vars
        simp only [smGet]
        split <;> rfl
      · simp only [smGet, ih]
        split <;> split <;> simp_all

/-- What is read where a key is erased. -/
theorem smGet_erase {α : Type} (d : α) (m : List (Nat × α)) (k j : Nat) : smGet d (smErase m k) j = if j = k then d else smGet d m j := by
  induction m with
  | nil => simp [smErase, smGet]
  | cons a m ih =>
    obtain ⟨k', v'⟩ := a
    simp only [smErase]
    split
    · subst_vars
      rw [ih, smGet]
      split <;> rfl
    · simp only [smGet, ih]
      split <;> split <;> simp_all

/-- What is read where a key is written. -/
theorem smGet_set {α : Type} [DecidableEq α] (d : α) (m : List (Nat × α)) (k j : Nat) (v : α) :
    smGet d (smSet d m k v) j = if j = k then v else smGet d m j := by
  unfold smSet
  split
  · subst_vars
    exact smGet_erase ..
  · exact smGet_insert ..

/-- A written key reads what was written. -/
@[simp] theorem smGet_set_self {α : Type} [DecidableEq α] (d : α) (m : List (Nat × α)) (k : Nat) (v : α) : smGet d (smSet d m k v) k = v := by
  rw [smGet_set, if_pos rfl]

/-! ### Frames -/

/-- Putting a parameter changes the fabric alone. -/
theorem put_frame (d : Dev) (p : Par) (s v : Nat) : d.put p s v = { d with regs := (d.put p s v).regs } := rfl

/-- Counting changes the fabric alone. -/
theorem count_frame (d : Dev) (p : Par) (s n : Nat) : d.count p s n = { d with regs := (d.count p s n).regs } := rfl

/-- Counting in an array changes the fabric alone. -/
theorem count2_frame (d : Dev) (p : Par) (x y n : Nat) : d.count2 p x y n = { d with regs := (d.count2 p x y n).regs } := rfl

/-- Counting on a session changes the fabric alone. -/
theorem sesCount_frame (d : Dev) (p k n : Nat) : d.sesCount p k n = { d with regs := (d.sesCount p k n).regs } := by
  unfold Dev.sesCount Dev.when
  split <;> rfl

/-- What telling the sessions may change: the fabric's counters, the sessions, the event rings, the Ethernet ports and PCIe endpoints by which
events leave, and what is sent. -/
def Tells (d d' : Dev) : Prop :=
  d' = { d with regs := d'.regs, sessions := d'.sessions, evtRings := d'.evtRings, eths := d'.eths, pcies := d'.pcies, sent := d'.sent }

theorem Tells.eq {d d' : Dev} (h : Tells d d') :
    d' = { d with regs := d'.regs, sessions := d'.sessions, evtRings := d'.evtRings, eths := d'.eths, pcies := d'.pcies, sent := d'.sent } := h

theorem Tells.refl (d : Dev) : Tells d d := rfl

theorem Tells.trans {a b c : Dev} (h : Tells a b) (h' : Tells b c) : Tells a c := by
  unfold Tells at *
  rw [h'] 
  rw [h]

theorem ethTx_tells (d : Dev) (p q : Nat) (o : Out) : Tells d (d.ethTx p q o) := by
  unfold Dev.ethTx; split <;> rfl

theorem ipTx_tells (d : Dev) (p : Nat) (v6 : Bool) (dst q : Nat) (o : Out) : Tells d (d.ipTx p v6 dst q o) := by
  unfold Dev.ipTx
  generalize (if v6 then bits dst 127 120 == 0xFF else bits dst 31 28 == 0xE) = b
  split
  · exact ethTx_tells ..
  · dsimp only
    split
    · rfl
    · split
      · exact ethTx_tells ..
      · split
        · rfl
        · refine Tells.trans ?_ (ethTx_tells ..)
          rfl

theorem sesCount_tells (d : Dev) (p k n : Nat) : Tells d (d.sesCount p k n) := by
  unfold Dev.sesCount Dev.when; split <;> rfl

theorem signal_tells (d : Dev) (ep v : Nat) : Tells d (d.signal ep v) := by
  unfold Dev.signal; split <;> rfl

/-- Sending an event changes what telling may change, and nothing else. -/
theorem sendEvent_tells (d : Dev) (s : Session) (no : Nat) (e : Event) : Tells d (d.sendEvent s no e) := by
  unfold Dev.sendEvent
  refine Tells.trans (sesCount_tells d s.port 8 1) ?_
  dsimp only
  split
  · split
    · exact ipTx_tells ..
    · rfl
  · refine Tells.trans ?_ (signal_tells ..)
    rfl

/-- A session's event changes what telling may change, and nothing else. -/
theorem postEvent_tells (d : Dev) (port : Nat) (e : Event) : Tells d (d.postEvent port e) := by
  unfold Dev.postEvent
  split
  · rfl
  · split
    · rfl
    · dsimp only
      split
      · refine Tells.trans ?_ (sendEvent_tells ..)
        rfl
      · split
        · rfl
        · refine Tells.trans ?_ (sesCount_tells ..)
          rfl

/-- Changes made in turn tell where each tells. -/
theorem each_tells {α : Type} (f : Dev → α → Dev) (hf : ∀ d a, Tells d (f d a)) (l : List α) (d : Dev) : Tells d (d.each l f) := by
  unfold Dev.each
  induction l generalizing d with
  | nil => rfl
  | cons a l ih => exact Tells.trans (hf d a) (ih _)

/-- Raising an event changes what telling may change, and nothing else. -/
theorem raise_tells (d : Dev) (r : Session → Bool) (e : Event) : Tells d (d.raise r e) :=
  each_tells _ (fun d p => postEvent_tells d p _) _ d

/-! ### The fields that raising an event, putting a parameter, counting and sending leave -/

@[simp] theorem raise_units (d : Dev) (r : Session → Bool) (e : Event) : (d.raise r e).units = d.units := (congrArg Dev.units (raise_tells d r e).eq :)
@[simp] theorem raise_p9c (d : Dev) (r : Session → Bool) (e : Event) : (d.raise r e).p9c = d.p9c := (congrArg Dev.p9c (raise_tells d r e).eq :)
@[simp] theorem raise_free (d : Dev) (r : Session → Bool) (e : Event) : (d.raise r e).free = d.free := (congrArg Dev.free (raise_tells d r e).eq :)
@[simp] theorem raise_ports (d : Dev) (r : Session → Bool) (e : Event) : (d.raise r e).ports = d.ports := (congrArg Dev.ports (raise_tells d r e).eq :)
@[simp] theorem raise_rings (d : Dev) (r : Session → Bool) (e : Event) : (d.raise r e).rings = d.rings := (congrArg Dev.rings (raise_tells d r e).eq :)
@[simp] theorem raise_pages (d : Dev) (r : Session → Bool) (e : Event) : (d.raise r e).pages = d.pages := (congrArg Dev.pages (raise_tells d r e).eq :)
@[simp] theorem raise_orphans (d : Dev) (r : Session → Bool) (e : Event) : (d.raise r e).orphans = d.orphans := (congrArg Dev.orphans (raise_tells d r e).eq :)
@[simp] theorem raise_travLogs (d : Dev) (r : Session → Bool) (e : Event) : (d.raise r e).travLogs = d.travLogs := (congrArg Dev.travLogs (raise_tells d r e).eq :)
@[simp] theorem raise_tim (d : Dev) (r : Session → Bool) (e : Event) : (d.raise r e).tim = d.tim := (congrArg Dev.tim (raise_tells d r e).eq :)
@[simp] theorem raise_srcs (d : Dev) (r : Session → Bool) (e : Event) : (d.raise r e).srcs = d.srcs := (congrArg Dev.srcs (raise_tells d r e).eq :)
@[simp] theorem raise_decs (d : Dev) (r : Session → Bool) (e : Event) : (d.raise r e).decs = d.decs := (congrArg Dev.decs (raise_tells d r e).eq :)
@[simp] theorem raise_engs (d : Dev) (r : Session → Bool) (e : Event) : (d.raise r e).engs = d.engs := (congrArg Dev.engs (raise_tells d r e).eq :)
@[simp] theorem raise_pipes (d : Dev) (r : Session → Bool) (e : Event) : (d.raise r e).pipes = d.pipes := (congrArg Dev.pipes (raise_tells d r e).eq :)
@[simp] theorem raise_outs (d : Dev) (r : Session → Bool) (e : Event) : (d.raise r e).outs = d.outs := (congrArg Dev.outs (raise_tells d r e).eq :)
@[simp] theorem raise_plates (d : Dev) (r : Session → Bool) (e : Event) : (d.raise r e).plates = d.plates := (congrArg Dev.plates (raise_tells d r e).eq :)
@[simp] theorem raise_layers (d : Dev) (r : Session → Bool) (e : Event) : (d.raise r e).layers = d.layers := (congrArg Dev.layers (raise_tells d r e).eq :)
@[simp] theorem raise_bench (d : Dev) (r : Session → Bool) (e : Event) : (d.raise r e).bench = d.bench := (congrArg Dev.bench (raise_tells d r e).eq :)
@[simp] theorem raise_commits (d : Dev) (r : Session → Bool) (e : Event) : (d.raise r e).commits = d.commits := (congrArg Dev.commits (raise_tells d r e).eq :)
@[simp] theorem raise_carts (d : Dev) (r : Session → Bool) (e : Event) : (d.raise r e).carts = d.carts := (congrArg Dev.carts (raise_tells d r e).eq :)
@[simp] theorem raise_wits (d : Dev) (r : Session → Bool) (e : Event) : (d.raise r e).wits = d.wits := (congrArg Dev.wits (raise_tells d r e).eq :)
@[simp] theorem raise_mons (d : Dev) (r : Session → Bool) (e : Event) : (d.raise r e).mons = d.mons := (congrArg Dev.mons (raise_tells d r e).eq :)
@[simp] theorem raise_bsh (d : Dev) (r : Session → Bool) (e : Event) : (d.raise r e).bsh = d.bsh := (congrArg Dev.bsh (raise_tells d r e).eq :)
@[simp] theorem raise_tens (d : Dev) (r : Session → Bool) (e : Event) : (d.raise r e).tens = d.tens := (congrArg Dev.tens (raise_tells d r e).eq :)
@[simp] theorem raise_fes (d : Dev) (r : Session → Bool) (e : Event) : (d.raise r e).fes = d.fes := (congrArg Dev.fes (raise_tells d r e).eq :)
@[simp] theorem raise_baseStores (d : Dev) (r : Session → Bool) (e : Event) : (d.raise r e).baseStores = d.baseStores := (congrArg Dev.baseStores (raise_tells d r e).eq :)
@[simp] theorem raise_touchRings (d : Dev) (r : Session → Bool) (e : Event) : (d.raise r e).touchRings = d.touchRings := (congrArg Dev.touchRings (raise_tells d r e).eq :)
@[simp] theorem raise_nextContact (d : Dev) (r : Session → Bool) (e : Event) : (d.raise r e).nextContact = d.nextContact := (congrArg Dev.nextContact (raise_tells d r e).eq :)
@[simp] theorem raise_haps (d : Dev) (r : Session → Bool) (e : Event) : (d.raise r e).haps = d.haps := (congrArg Dev.haps (raise_tells d r e).eq :)
@[simp] theorem raise_aud (d : Dev) (r : Session → Bool) (e : Event) : (d.raise r e).aud = d.aud := (congrArg Dev.aud (raise_tells d r e).eq :)
@[simp] theorem raise_mem (d : Dev) (r : Session → Bool) (e : Event) : (d.raise r e).mem = d.mem := (congrArg Dev.mem (raise_tells d r e).eq :)
@[simp] theorem raise_mdks (d : Dev) (r : Session → Bool) (e : Event) : (d.raise r e).mdks = d.mdks := (congrArg Dev.mdks (raise_tells d r e).eq :)
@[simp] theorem raise_dps (d : Dev) (r : Session → Bool) (e : Event) : (d.raise r e).dps = d.dps := (congrArg Dev.dps (raise_tells d r e).eq :)
@[simp] theorem raise_scans (d : Dev) (r : Session → Bool) (e : Event) : (d.raise r e).scans = d.scans := (congrArg Dev.scans (raise_tells d r e).eq :)
@[simp] theorem raise_chain (d : Dev) (r : Session → Bool) (e : Event) : (d.raise r e).chain = d.chain := (congrArg Dev.chain (raise_tells d r e).eq :)
@[simp] theorem raise_flt (d : Dev) (r : Session → Bool) (e : Event) : (d.raise r e).flt = d.flt := (congrArg Dev.flt (raise_tells d r e).eq :)
@[simp] theorem raise_rst (d : Dev) (r : Session → Bool) (e : Event) : (d.raise r e).rst = d.rst := (congrArg Dev.rst (raise_tells d r e).eq :)
@[simp] theorem raise_tals (d : Dev) (r : Session → Bool) (e : Event) : (d.raise r e).tals = d.tals := (congrArg Dev.tals (raise_tells d r e).eq :)
@[simp] theorem raise_sec (d : Dev) (r : Session → Bool) (e : Event) : (d.raise r e).sec = d.sec := (congrArg Dev.sec (raise_tells d r e).eq :)
@[simp] theorem raise_sup (d : Dev) (r : Session → Bool) (e : Event) : (d.raise r e).sup = d.sup := (congrArg Dev.sup (raise_tells d r e).eq :)
@[simp] theorem put_units (d : Dev) (p : Par) (s v : Nat) : (d.put p s v).units = d.units := rfl
@[simp] theorem count_units (d : Dev) (p : Par) (s n : Nat) : (d.count p s n).units = d.units := rfl
@[simp] theorem send_units (d : Dev) (o : Out) : (d.send o).units = d.units := rfl
@[simp] theorem modSes_units (d : Dev) (p : Nat) (g : Session → Session) : (d.modSes p g).units = d.units := rfl
@[simp] theorem put_p9c (d : Dev) (p : Par) (s v : Nat) : (d.put p s v).p9c = d.p9c := rfl
@[simp] theorem count_p9c (d : Dev) (p : Par) (s n : Nat) : (d.count p s n).p9c = d.p9c := rfl
@[simp] theorem send_p9c (d : Dev) (o : Out) : (d.send o).p9c = d.p9c := rfl
@[simp] theorem modSes_p9c (d : Dev) (p : Nat) (g : Session → Session) : (d.modSes p g).p9c = d.p9c := rfl
@[simp] theorem send_regs (d : Dev) (o : Out) : (d.send o).regs = d.regs := rfl
@[simp] theorem modSes_regs (d : Dev) (p : Nat) (g : Session → Session) : (d.modSes p g).regs = d.regs := rfl
@[simp] theorem put_free (d : Dev) (p : Par) (s v : Nat) : (d.put p s v).free = d.free := rfl
@[simp] theorem count_free (d : Dev) (p : Par) (s n : Nat) : (d.count p s n).free = d.free := rfl
@[simp] theorem send_free (d : Dev) (o : Out) : (d.send o).free = d.free := rfl
@[simp] theorem modSes_free (d : Dev) (p : Nat) (g : Session → Session) : (d.modSes p g).free = d.free := rfl
@[simp] theorem put_sent (d : Dev) (p : Par) (s v : Nat) : (d.put p s v).sent = d.sent := rfl
@[simp] theorem count_sent (d : Dev) (p : Par) (s n : Nat) : (d.count p s n).sent = d.sent := rfl
@[simp] theorem modSes_sent (d : Dev) (p : Nat) (g : Session → Session) : (d.modSes p g).sent = d.sent := rfl
@[simp] theorem put_sessions (d : Dev) (p : Par) (s v : Nat) : (d.put p s v).sessions = d.sessions := rfl
@[simp] theorem count_sessions (d : Dev) (p : Par) (s n : Nat) : (d.count p s n).sessions = d.sessions := rfl
@[simp] theorem send_sessions (d : Dev) (o : Out) : (d.send o).sessions = d.sessions := rfl
@[simp] theorem put_ports (d : Dev) (p : Par) (s v : Nat) : (d.put p s v).ports = d.ports := rfl
@[simp] theorem count_ports (d : Dev) (p : Par) (s n : Nat) : (d.count p s n).ports = d.ports := rfl
@[simp] theorem send_ports (d : Dev) (o : Out) : (d.send o).ports = d.ports := rfl
@[simp] theorem modSes_ports (d : Dev) (p : Nat) (g : Session → Session) : (d.modSes p g).ports = d.ports := rfl
@[simp] theorem put_rings (d : Dev) (p : Par) (s v : Nat) : (d.put p s v).rings = d.rings := rfl
@[simp] theorem count_rings (d : Dev) (p : Par) (s n : Nat) : (d.count p s n).rings = d.rings := rfl
@[simp] theorem send_rings (d : Dev) (o : Out) : (d.send o).rings = d.rings := rfl
@[simp] theorem modSes_rings (d : Dev) (p : Nat) (g : Session → Session) : (d.modSes p g).rings = d.rings := rfl
@[simp] theorem put_evtRings (d : Dev) (p : Par) (s v : Nat) : (d.put p s v).evtRings = d.evtRings := rfl
@[simp] theorem count_evtRings (d : Dev) (p : Par) (s n : Nat) : (d.count p s n).evtRings = d.evtRings := rfl
@[simp] theorem send_evtRings (d : Dev) (o : Out) : (d.send o).evtRings = d.evtRings := rfl
@[simp] theorem modSes_evtRings (d : Dev) (p : Nat) (g : Session → Session) : (d.modSes p g).evtRings = d.evtRings := rfl
@[simp] theorem put_pages (d : Dev) (p : Par) (s v : Nat) : (d.put p s v).pages = d.pages := rfl
@[simp] theorem count_pages (d : Dev) (p : Par) (s n : Nat) : (d.count p s n).pages = d.pages := rfl
@[simp] theorem send_pages (d : Dev) (o : Out) : (d.send o).pages = d.pages := rfl
@[simp] theorem modSes_pages (d : Dev) (p : Nat) (g : Session → Session) : (d.modSes p g).pages = d.pages := rfl
@[simp] theorem put_orphans (d : Dev) (p : Par) (s v : Nat) : (d.put p s v).orphans = d.orphans := rfl
@[simp] theorem count_orphans (d : Dev) (p : Par) (s n : Nat) : (d.count p s n).orphans = d.orphans := rfl
@[simp] theorem send_orphans (d : Dev) (o : Out) : (d.send o).orphans = d.orphans := rfl
@[simp] theorem modSes_orphans (d : Dev) (p : Nat) (g : Session → Session) : (d.modSes p g).orphans = d.orphans := rfl
@[simp] theorem put_travLogs (d : Dev) (p : Par) (s v : Nat) : (d.put p s v).travLogs = d.travLogs := rfl
@[simp] theorem count_travLogs (d : Dev) (p : Par) (s n : Nat) : (d.count p s n).travLogs = d.travLogs := rfl
@[simp] theorem send_travLogs (d : Dev) (o : Out) : (d.send o).travLogs = d.travLogs := rfl
@[simp] theorem modSes_travLogs (d : Dev) (p : Nat) (g : Session → Session) : (d.modSes p g).travLogs = d.travLogs := rfl
@[simp] theorem put_tim (d : Dev) (p : Par) (s v : Nat) : (d.put p s v).tim = d.tim := rfl
@[simp] theorem count_tim (d : Dev) (p : Par) (s n : Nat) : (d.count p s n).tim = d.tim := rfl
@[simp] theorem send_tim (d : Dev) (o : Out) : (d.send o).tim = d.tim := rfl
@[simp] theorem modSes_tim (d : Dev) (p : Nat) (g : Session → Session) : (d.modSes p g).tim = d.tim := rfl
@[simp] theorem put_srcs (d : Dev) (p : Par) (s v : Nat) : (d.put p s v).srcs = d.srcs := rfl
@[simp] theorem count_srcs (d : Dev) (p : Par) (s n : Nat) : (d.count p s n).srcs = d.srcs := rfl
@[simp] theorem send_srcs (d : Dev) (o : Out) : (d.send o).srcs = d.srcs := rfl
@[simp] theorem modSes_srcs (d : Dev) (p : Nat) (g : Session → Session) : (d.modSes p g).srcs = d.srcs := rfl
@[simp] theorem put_decs (d : Dev) (p : Par) (s v : Nat) : (d.put p s v).decs = d.decs := rfl
@[simp] theorem count_decs (d : Dev) (p : Par) (s n : Nat) : (d.count p s n).decs = d.decs := rfl
@[simp] theorem send_decs (d : Dev) (o : Out) : (d.send o).decs = d.decs := rfl
@[simp] theorem modSes_decs (d : Dev) (p : Nat) (g : Session → Session) : (d.modSes p g).decs = d.decs := rfl
@[simp] theorem put_engs (d : Dev) (p : Par) (s v : Nat) : (d.put p s v).engs = d.engs := rfl
@[simp] theorem count_engs (d : Dev) (p : Par) (s n : Nat) : (d.count p s n).engs = d.engs := rfl
@[simp] theorem send_engs (d : Dev) (o : Out) : (d.send o).engs = d.engs := rfl
@[simp] theorem modSes_engs (d : Dev) (p : Nat) (g : Session → Session) : (d.modSes p g).engs = d.engs := rfl
@[simp] theorem put_pipes (d : Dev) (p : Par) (s v : Nat) : (d.put p s v).pipes = d.pipes := rfl
@[simp] theorem count_pipes (d : Dev) (p : Par) (s n : Nat) : (d.count p s n).pipes = d.pipes := rfl
@[simp] theorem send_pipes (d : Dev) (o : Out) : (d.send o).pipes = d.pipes := rfl
@[simp] theorem modSes_pipes (d : Dev) (p : Nat) (g : Session → Session) : (d.modSes p g).pipes = d.pipes := rfl
@[simp] theorem put_outs (d : Dev) (p : Par) (s v : Nat) : (d.put p s v).outs = d.outs := rfl
@[simp] theorem count_outs (d : Dev) (p : Par) (s n : Nat) : (d.count p s n).outs = d.outs := rfl
@[simp] theorem send_outs (d : Dev) (o : Out) : (d.send o).outs = d.outs := rfl
@[simp] theorem modSes_outs (d : Dev) (p : Nat) (g : Session → Session) : (d.modSes p g).outs = d.outs := rfl
@[simp] theorem put_plates (d : Dev) (p : Par) (s v : Nat) : (d.put p s v).plates = d.plates := rfl
@[simp] theorem count_plates (d : Dev) (p : Par) (s n : Nat) : (d.count p s n).plates = d.plates := rfl
@[simp] theorem send_plates (d : Dev) (o : Out) : (d.send o).plates = d.plates := rfl
@[simp] theorem modSes_plates (d : Dev) (p : Nat) (g : Session → Session) : (d.modSes p g).plates = d.plates := rfl
@[simp] theorem put_layers (d : Dev) (p : Par) (s v : Nat) : (d.put p s v).layers = d.layers := rfl
@[simp] theorem count_layers (d : Dev) (p : Par) (s n : Nat) : (d.count p s n).layers = d.layers := rfl
@[simp] theorem send_layers (d : Dev) (o : Out) : (d.send o).layers = d.layers := rfl
@[simp] theorem modSes_layers (d : Dev) (p : Nat) (g : Session → Session) : (d.modSes p g).layers = d.layers := rfl
@[simp] theorem put_bench (d : Dev) (p : Par) (s v : Nat) : (d.put p s v).bench = d.bench := rfl
@[simp] theorem count_bench (d : Dev) (p : Par) (s n : Nat) : (d.count p s n).bench = d.bench := rfl
@[simp] theorem send_bench (d : Dev) (o : Out) : (d.send o).bench = d.bench := rfl
@[simp] theorem modSes_bench (d : Dev) (p : Nat) (g : Session → Session) : (d.modSes p g).bench = d.bench := rfl
@[simp] theorem put_commits (d : Dev) (p : Par) (s v : Nat) : (d.put p s v).commits = d.commits := rfl
@[simp] theorem count_commits (d : Dev) (p : Par) (s n : Nat) : (d.count p s n).commits = d.commits := rfl
@[simp] theorem send_commits (d : Dev) (o : Out) : (d.send o).commits = d.commits := rfl
@[simp] theorem modSes_commits (d : Dev) (p : Nat) (g : Session → Session) : (d.modSes p g).commits = d.commits := rfl
@[simp] theorem put_carts (d : Dev) (p : Par) (s v : Nat) : (d.put p s v).carts = d.carts := rfl
@[simp] theorem count_carts (d : Dev) (p : Par) (s n : Nat) : (d.count p s n).carts = d.carts := rfl
@[simp] theorem send_carts (d : Dev) (o : Out) : (d.send o).carts = d.carts := rfl
@[simp] theorem modSes_carts (d : Dev) (p : Nat) (g : Session → Session) : (d.modSes p g).carts = d.carts := rfl
@[simp] theorem put_wits (d : Dev) (p : Par) (s v : Nat) : (d.put p s v).wits = d.wits := rfl
@[simp] theorem count_wits (d : Dev) (p : Par) (s n : Nat) : (d.count p s n).wits = d.wits := rfl
@[simp] theorem send_wits (d : Dev) (o : Out) : (d.send o).wits = d.wits := rfl
@[simp] theorem modSes_wits (d : Dev) (p : Nat) (g : Session → Session) : (d.modSes p g).wits = d.wits := rfl
@[simp] theorem put_mons (d : Dev) (p : Par) (s v : Nat) : (d.put p s v).mons = d.mons := rfl
@[simp] theorem count_mons (d : Dev) (p : Par) (s n : Nat) : (d.count p s n).mons = d.mons := rfl
@[simp] theorem send_mons (d : Dev) (o : Out) : (d.send o).mons = d.mons := rfl
@[simp] theorem modSes_mons (d : Dev) (p : Nat) (g : Session → Session) : (d.modSes p g).mons = d.mons := rfl
@[simp] theorem put_bsh (d : Dev) (p : Par) (s v : Nat) : (d.put p s v).bsh = d.bsh := rfl
@[simp] theorem count_bsh (d : Dev) (p : Par) (s n : Nat) : (d.count p s n).bsh = d.bsh := rfl
@[simp] theorem send_bsh (d : Dev) (o : Out) : (d.send o).bsh = d.bsh := rfl
@[simp] theorem modSes_bsh (d : Dev) (p : Nat) (g : Session → Session) : (d.modSes p g).bsh = d.bsh := rfl
@[simp] theorem put_tens (d : Dev) (p : Par) (s v : Nat) : (d.put p s v).tens = d.tens := rfl
@[simp] theorem count_tens (d : Dev) (p : Par) (s n : Nat) : (d.count p s n).tens = d.tens := rfl
@[simp] theorem send_tens (d : Dev) (o : Out) : (d.send o).tens = d.tens := rfl
@[simp] theorem modSes_tens (d : Dev) (p : Nat) (g : Session → Session) : (d.modSes p g).tens = d.tens := rfl
@[simp] theorem put_fes (d : Dev) (p : Par) (s v : Nat) : (d.put p s v).fes = d.fes := rfl
@[simp] theorem count_fes (d : Dev) (p : Par) (s n : Nat) : (d.count p s n).fes = d.fes := rfl
@[simp] theorem send_fes (d : Dev) (o : Out) : (d.send o).fes = d.fes := rfl
@[simp] theorem modSes_fes (d : Dev) (p : Nat) (g : Session → Session) : (d.modSes p g).fes = d.fes := rfl
@[simp] theorem put_baseStores (d : Dev) (p : Par) (s v : Nat) : (d.put p s v).baseStores = d.baseStores := rfl
@[simp] theorem count_baseStores (d : Dev) (p : Par) (s n : Nat) : (d.count p s n).baseStores = d.baseStores := rfl
@[simp] theorem send_baseStores (d : Dev) (o : Out) : (d.send o).baseStores = d.baseStores := rfl
@[simp] theorem modSes_baseStores (d : Dev) (p : Nat) (g : Session → Session) : (d.modSes p g).baseStores = d.baseStores := rfl
@[simp] theorem put_touchRings (d : Dev) (p : Par) (s v : Nat) : (d.put p s v).touchRings = d.touchRings := rfl
@[simp] theorem count_touchRings (d : Dev) (p : Par) (s n : Nat) : (d.count p s n).touchRings = d.touchRings := rfl
@[simp] theorem send_touchRings (d : Dev) (o : Out) : (d.send o).touchRings = d.touchRings := rfl
@[simp] theorem modSes_touchRings (d : Dev) (p : Nat) (g : Session → Session) : (d.modSes p g).touchRings = d.touchRings := rfl
@[simp] theorem put_nextContact (d : Dev) (p : Par) (s v : Nat) : (d.put p s v).nextContact = d.nextContact := rfl
@[simp] theorem count_nextContact (d : Dev) (p : Par) (s n : Nat) : (d.count p s n).nextContact = d.nextContact := rfl
@[simp] theorem send_nextContact (d : Dev) (o : Out) : (d.send o).nextContact = d.nextContact := rfl
@[simp] theorem modSes_nextContact (d : Dev) (p : Nat) (g : Session → Session) : (d.modSes p g).nextContact = d.nextContact := rfl
@[simp] theorem put_haps (d : Dev) (p : Par) (s v : Nat) : (d.put p s v).haps = d.haps := rfl
@[simp] theorem count_haps (d : Dev) (p : Par) (s n : Nat) : (d.count p s n).haps = d.haps := rfl
@[simp] theorem send_haps (d : Dev) (o : Out) : (d.send o).haps = d.haps := rfl
@[simp] theorem modSes_haps (d : Dev) (p : Nat) (g : Session → Session) : (d.modSes p g).haps = d.haps := rfl
@[simp] theorem put_aud (d : Dev) (p : Par) (s v : Nat) : (d.put p s v).aud = d.aud := rfl
@[simp] theorem count_aud (d : Dev) (p : Par) (s n : Nat) : (d.count p s n).aud = d.aud := rfl
@[simp] theorem send_aud (d : Dev) (o : Out) : (d.send o).aud = d.aud := rfl
@[simp] theorem modSes_aud (d : Dev) (p : Nat) (g : Session → Session) : (d.modSes p g).aud = d.aud := rfl
@[simp] theorem put_mem (d : Dev) (p : Par) (s v : Nat) : (d.put p s v).mem = d.mem := rfl
@[simp] theorem count_mem (d : Dev) (p : Par) (s n : Nat) : (d.count p s n).mem = d.mem := rfl
@[simp] theorem send_mem (d : Dev) (o : Out) : (d.send o).mem = d.mem := rfl
@[simp] theorem modSes_mem (d : Dev) (p : Nat) (g : Session → Session) : (d.modSes p g).mem = d.mem := rfl
@[simp] theorem put_eths (d : Dev) (p : Par) (s v : Nat) : (d.put p s v).eths = d.eths := rfl
@[simp] theorem count_eths (d : Dev) (p : Par) (s n : Nat) : (d.count p s n).eths = d.eths := rfl
@[simp] theorem send_eths (d : Dev) (o : Out) : (d.send o).eths = d.eths := rfl
@[simp] theorem modSes_eths (d : Dev) (p : Nat) (g : Session → Session) : (d.modSes p g).eths = d.eths := rfl
@[simp] theorem put_mdks (d : Dev) (p : Par) (s v : Nat) : (d.put p s v).mdks = d.mdks := rfl
@[simp] theorem count_mdks (d : Dev) (p : Par) (s n : Nat) : (d.count p s n).mdks = d.mdks := rfl
@[simp] theorem send_mdks (d : Dev) (o : Out) : (d.send o).mdks = d.mdks := rfl
@[simp] theorem modSes_mdks (d : Dev) (p : Nat) (g : Session → Session) : (d.modSes p g).mdks = d.mdks := rfl
@[simp] theorem put_pcies (d : Dev) (p : Par) (s v : Nat) : (d.put p s v).pcies = d.pcies := rfl
@[simp] theorem count_pcies (d : Dev) (p : Par) (s n : Nat) : (d.count p s n).pcies = d.pcies := rfl
@[simp] theorem send_pcies (d : Dev) (o : Out) : (d.send o).pcies = d.pcies := rfl
@[simp] theorem modSes_pcies (d : Dev) (p : Nat) (g : Session → Session) : (d.modSes p g).pcies = d.pcies := rfl
@[simp] theorem put_dps (d : Dev) (p : Par) (s v : Nat) : (d.put p s v).dps = d.dps := rfl
@[simp] theorem count_dps (d : Dev) (p : Par) (s n : Nat) : (d.count p s n).dps = d.dps := rfl
@[simp] theorem send_dps (d : Dev) (o : Out) : (d.send o).dps = d.dps := rfl
@[simp] theorem modSes_dps (d : Dev) (p : Nat) (g : Session → Session) : (d.modSes p g).dps = d.dps := rfl
@[simp] theorem put_scans (d : Dev) (p : Par) (s v : Nat) : (d.put p s v).scans = d.scans := rfl
@[simp] theorem count_scans (d : Dev) (p : Par) (s n : Nat) : (d.count p s n).scans = d.scans := rfl
@[simp] theorem send_scans (d : Dev) (o : Out) : (d.send o).scans = d.scans := rfl
@[simp] theorem modSes_scans (d : Dev) (p : Nat) (g : Session → Session) : (d.modSes p g).scans = d.scans := rfl
@[simp] theorem put_chain (d : Dev) (p : Par) (s v : Nat) : (d.put p s v).chain = d.chain := rfl
@[simp] theorem count_chain (d : Dev) (p : Par) (s n : Nat) : (d.count p s n).chain = d.chain := rfl
@[simp] theorem send_chain (d : Dev) (o : Out) : (d.send o).chain = d.chain := rfl
@[simp] theorem modSes_chain (d : Dev) (p : Nat) (g : Session → Session) : (d.modSes p g).chain = d.chain := rfl
@[simp] theorem put_flt (d : Dev) (p : Par) (s v : Nat) : (d.put p s v).flt = d.flt := rfl
@[simp] theorem count_flt (d : Dev) (p : Par) (s n : Nat) : (d.count p s n).flt = d.flt := rfl
@[simp] theorem send_flt (d : Dev) (o : Out) : (d.send o).flt = d.flt := rfl
@[simp] theorem modSes_flt (d : Dev) (p : Nat) (g : Session → Session) : (d.modSes p g).flt = d.flt := rfl
@[simp] theorem put_rst (d : Dev) (p : Par) (s v : Nat) : (d.put p s v).rst = d.rst := rfl
@[simp] theorem count_rst (d : Dev) (p : Par) (s n : Nat) : (d.count p s n).rst = d.rst := rfl
@[simp] theorem send_rst (d : Dev) (o : Out) : (d.send o).rst = d.rst := rfl
@[simp] theorem modSes_rst (d : Dev) (p : Nat) (g : Session → Session) : (d.modSes p g).rst = d.rst := rfl
@[simp] theorem put_tals (d : Dev) (p : Par) (s v : Nat) : (d.put p s v).tals = d.tals := rfl
@[simp] theorem count_tals (d : Dev) (p : Par) (s n : Nat) : (d.count p s n).tals = d.tals := rfl
@[simp] theorem send_tals (d : Dev) (o : Out) : (d.send o).tals = d.tals := rfl
@[simp] theorem modSes_tals (d : Dev) (p : Nat) (g : Session → Session) : (d.modSes p g).tals = d.tals := rfl
@[simp] theorem put_sec (d : Dev) (p : Par) (s v : Nat) : (d.put p s v).sec = d.sec := rfl
@[simp] theorem count_sec (d : Dev) (p : Par) (s n : Nat) : (d.count p s n).sec = d.sec := rfl
@[simp] theorem send_sec (d : Dev) (o : Out) : (d.send o).sec = d.sec := rfl
@[simp] theorem modSes_sec (d : Dev) (p : Nat) (g : Session → Session) : (d.modSes p g).sec = d.sec := rfl
@[simp] theorem put_sup (d : Dev) (p : Par) (s v : Nat) : (d.put p s v).sup = d.sup := rfl
@[simp] theorem count_sup (d : Dev) (p : Par) (s n : Nat) : (d.count p s n).sup = d.sup := rfl
@[simp] theorem send_sup (d : Dev) (o : Out) : (d.send o).sup = d.sup := rfl
@[simp] theorem modSes_sup (d : Dev) (p : Nat) (g : Session → Session) : (d.modSes p g).sup = d.sup := rfl

end Sys2Proof.Machine
end

