-- ==== Sys2Proof/Laws/Memory.lean ====
section
/-!
SUPPORT. The operations over memory keep its canonical form, bytes written read back, and the others read as before.
-/

namespace Sys2Proof.Machine

/-- Memory after reset has its canonical form. -/
theorem reset_mem_wf : State.reset.dev.mem.wf = true := rfl

/-- Writing a byte keeps the form. -/
theorem MemSys.poke_wf (m : MemSys) (a : Nat) (b : Byte) (h : m.wf = true) : (m.poke a b).wf = true :=
  smSet_wf memDefault m.cells a b h

/-- Writing bytes keeps the form. -/
theorem Dev.poke_wf (bs : Bytes) (d : Dev) (a : Nat) (h : d.mem.wf = true) : (d.poke a bs).mem.wf = true := by
  induction bs generalizing d a with
  | nil => exact h
  | cons b bs ih => exact ih _ _ (MemSys.poke_wf _ _ _ h)

/-- Unlisting the cells that fail a test keeps the order. -/
theorem smSorted_filter {α : Type} (f : Nat × α → Bool) (m : List (Nat × α)) (lo : Nat) (h : smSorted lo m = true) :
    smSorted lo (m.filter f) = true := by
  induction m generalizing lo with
  | nil => rfl
  | cons a m ih =>
    simp only [smSorted, Bool.and_eq_true, decide_eq_true_eq] at h
    rw [List.filter_cons]
    split
    · simp only [smSorted, Bool.and_eq_true, decide_eq_true_eq]
      exact ⟨h.1, ih _ h.2⟩
    · exact ih _ (smSorted_mono (by omega) h.2)

/-- Unlisting cells keeps the form. -/
theorem cells_filter_wf (d : Nat → Byte) (f : Nat × Byte → Bool) (m : List (Nat × Byte)) (h : smWf d m = true) : smWf d (m.filter f) = true := by
  simp only [smWf, Bool.and_eq_true, List.all_eq_true, decide_eq_true_eq] at h ⊢
  exact ⟨smSorted_filter f m 0 h.1, fun e he => h.2 e (List.mem_filter.mp he).1⟩

/-- Filling a range with zeros keeps the form. -/
theorem Dev.zeroFill_wf (d : Dev) (a n : Nat) (h : d.mem.wf = true) : (d.zeroFill a n).mem.wf = true := cells_filter_wf _ _ _ h

/-- A reset keeps the form. -/
theorem wiped_wf (m : MemSys) (f : Nat × Byte → Bool) (h : m.wf = true) : smWf memDefault (m.cells.filter f) = true := cells_filter_wf _ _ _ h

/-- The byte written at an address reads back, and every other address reads as before. -/
theorem MemSys.poke_get (m : MemSys) (a j : Nat) (b : Byte) :
    smGet (memDefault j) (m.poke a b).cells j = if j = a then b else smGet (memDefault j) m.cells j := by
  unfold MemSys.poke
  by_cases hj : j = a
  · subst hj
    simp
  · rw [if_neg hj]
    dsimp only
    unfold smSet
    split
    · rw [smGet_erase, if_neg hj]
    · rw [smGet_insert, if_neg hj]

/-- Bytes written read back, and every other address reads as before. -/
theorem Dev.poke_get (bs : Bytes) (d : Dev) (a j : Nat) :
    (d.poke a bs).peek j = if a ≤ j ∧ j < a + bs.length then bs.getD (j - a) 0 else d.peek j := by
  induction bs generalizing d a with
  | nil => rw [if_neg (by simp)]; rfl
  | cons b bs ih =>
    rw [Dev.poke, ih]
    have hp : Dev.peek { d with mem := d.mem.poke a b } j = if j = a then b else d.peek j := MemSys.poke_get d.mem a j b
    rw [hp]
    by_cases hj : j = a
    · subst hj
      rw [if_neg (by omega), if_pos rfl, if_pos (by simp)]
      simp
    · rw [if_neg hj]
      by_cases hr : a + 1 ≤ j ∧ j < a + 1 + bs.length
      · rw [if_pos hr, if_pos (by simp only [List.length_cons]; omega)]
        obtain ⟨k, hk⟩ : ∃ k, j - a = k + 1 := ⟨j - a - 1, by omega⟩
        have : j - (a + 1) = k := by omega
        rw [this, hk, List.getD_cons_succ]
      · rw [if_neg hr, if_neg (by simp only [List.length_cons]; omega)]

/-- A range filled with zeros reads what an unlisted address reads, and every other address reads as before. -/
theorem Dev.zeroFill_get (d : Dev) (a n j : Nat) : (d.zeroFill a n).peek j = if a ≤ j ∧ j < a + n then memDefault j else d.peek j := by
  have key : ∀ m : List (Nat × Byte), smGet (memDefault j) (m.filter fun c => !(decide (a ≤ c.1 ∧ c.1 < a + n))) j =
      if a ≤ j ∧ j < a + n then memDefault j else smGet (memDefault j) m j := by
    intro m
    induction m with
    | nil => simp [smGet]
    | cons e m ih =>
      obtain ⟨k, v⟩ := e
      rw [List.filter_cons]
      by_cases hk : a ≤ k ∧ k < a + n
      · rw [if_neg (by simp [hk]), ih, smGet]
        by_cases hj : j = k
        · subst hj; rw [if_pos hk, if_pos hk]
        · rw [if_neg hj]
      · rw [if_pos (by simp only [hk, decide_false, Bool.not_false]), smGet, smGet, ih]
        by_cases hj : j = k
        · subst hj; rw [if_pos rfl, if_pos rfl, if_neg hk]
        · rw [if_neg hj, if_neg hj]
  exact key d.mem.cells

/-- Writing bytes changes the cells alone. -/
theorem Dev.poke_frame (bs : Bytes) (d : Dev) (a : Nat) : d.poke a bs = { d with mem := { d.mem with cells := (d.poke a bs).mem.cells } } := by
  induction bs generalizing d a with
  | nil => rfl
  | cons b bs ih =>
    rw [Dev.poke, ih]
    rfl

/-- Rewriting a header copy changes the cells alone. -/
theorem Dev.auditRehead_frame (d : Dev) (seq : Nat) (chain : Bytes) : ∃ c, d.auditRehead seq chain = { d with mem := { d.mem with cells := c } } := by
  unfold Dev.auditRehead
  split
  · exact ⟨_, Dev.poke_frame ..⟩
  · exact ⟨_, Dev.poke_frame ..⟩

/-- An audit entry changes the log's head and the cells alone. -/
theorem Dev.audit_frame (d : Dev) (code : Nat) (data : Bytes) (port tenancy : Nat) :
    ∃ chain c, d.audit code data port tenancy =
      { d with sec := { d.sec with auditSeq := d.sec.auditSeq + 1, auditChain := chain }, mem := { d.mem with cells := c } } := by
  unfold Dev.audit
  dsimp only
  generalize padTo 48 _ = ch
  generalize auditAddr (d.sec.auditSeq + 1) = a
  generalize auditEntry _ _ _ _ _ _ _ ++ ch = tx
  have h := Dev.poke_frame tx { d with sec := { d.sec with auditSeq := d.sec.auditSeq + 1, auditChain := ch } } a
  split
  · obtain ⟨c, e⟩ := Dev.auditRehead_frame (Dev.poke { d with sec := { d.sec with auditSeq := d.sec.auditSeq + 1, auditChain := ch } } a tx) (d.sec.auditSeq + 1) ch
    refine ⟨ch, c, ?_⟩
    rw [e, h]
  · exact ⟨ch, _, h⟩

/-- An audit entry keeps the form of memory. -/
theorem Dev.audit_wf (d : Dev) (code : Nat) (data : Bytes) (port tenancy : Nat) (h : d.mem.wf = true) : (d.audit code data port tenancy).mem.wf = true := by
  unfold Dev.audit
  dsimp only
  generalize padTo 48 _ = ch
  generalize auditAddr (d.sec.auditSeq + 1) = a
  generalize auditEntry _ _ _ _ _ _ _ ++ ch = tx
  have h1 : (Dev.poke { d with sec := { d.sec with auditSeq := d.sec.auditSeq + 1, auditChain := ch } } a tx).mem.wf = true := Dev.poke_wf _ _ _ h
  generalize Dev.poke { d with sec := { d.sec with auditSeq := d.sec.auditSeq + 1, auditChain := ch } } a tx = d1 at h1 ⊢
  split
  · unfold Dev.auditRehead
    split
    · exact Dev.poke_wf _ _ _ h1
    · exact Dev.poke_wf _ _ _ h1
  · exact h1

end Sys2Proof.Machine
end

