-- ==== Sys2Proof/Laws/Packet.lean ====
section
/-!
SUPPORT. A packet that is ready is accepted, starts at once and runs its opcode's own body: the one lemma (`runs_of`) through which every command that
arrives as a packet is shown to complete.
-/

namespace Sys2Proof.Goals

open Sys2Proof.Machine

/-- Counting a packet changes the counters alone. -/
theorem sesCount_eq (d : Dev) (p k n : Nat) : ∃ r, d.sesCount p k n = { d with regs := r } := by
  unfold Dev.sesCount Dev.when Dev.count2 Dev.count Dev.put
  split <;> exact ⟨_, rfl⟩

/-- Keeping a record changes the retained logs alone. -/
theorem retain_eq (d : Dev) (p : Nat) (r : Rec) : ∃ l, d.retain p r = { d with travLogs := l } := by
  unfold Dev.retain
  split
  · exact ⟨_, rfl⟩
  · exact ⟨_, rfl⟩

/-- With nothing waiting elsewhere, the one session that has a command is found. -/
theorem findSome_one {l : List Session} {p : Nat} {s : Session} (hs : l.find? (·.port == p) = some s) (hw : ∀ x ∈ l, x.waiting = [])
    (f : Session → Session) (g : Session → Option (Session × Waiting)) (hg : ∀ x, x.waiting = [] → g x = none) (z : Session × Waiting) (hz : g (f s) = some z) :
    (l.map fun x => if x.port == p then f x else x).findSome? g = some z := by
  induction l with
  | nil => simp at hs
  | cons a l ih =>
    rw [List.map_cons, List.findSome?_cons]
    rw [List.find?_cons] at hs
    by_cases ha : (a.port == p) = true
    · simp only [ha] at hs
      cases hs
      simp [ha, hz]
    · simp only [ha] at hs
      have hga : g (if (a.port == p) = true then f a else a) = none := by simp [ha, hg a (hw a (by simp))]
      rw [hga]
      exact ih hs (fun x hx => hw x (by simp [hx]))

/-- One command waits in all. -/
theorem sum_one {l : List Session} {p : Nat} {s : Session} (hs : l.find? (·.port == p) = some s) (hw : ∀ x ∈ l, x.waiting = [])
    (hnd : (l.map Session.port).Nodup) (f : Session → Session) (hf : ∀ x, x.waiting = [] → (f x).waiting.length = 1) :
    ((l.map fun x => if x.port == p then f x else x).map fun s => s.waiting.length).sum = 1 := by
  induction l with
  | nil => simp at hs
  | cons a l ih =>
    rw [List.find?_cons] at hs
    rw [List.map_cons, List.nodup_cons] at hnd
    by_cases ha : (a.port == p) = true
    · have hrest : ∀ x ∈ l, (if x.port == p then f x else x).waiting.length = 0 := by
        intro x hx
        have hne : (x.port == p) = false := by
          apply Bool.eq_false_iff.mpr
          intro hxp
          apply hnd.1
          rw [List.mem_map]
          exact ⟨x, hx, by rw [beq_iff_eq] at hxp ha; rw [hxp, ha]⟩
        simp [hne, hw x (by simp [hx])]
      have h0 : ((l.map fun x => if x.port == p then f x else x).map fun s => s.waiting.length).sum = 0 := by
        rw [List.sum_eq_zero]
        intro n hn
        simp only [List.mem_map] at hn
        obtain ⟨_, ⟨y, hy, rfl⟩, rfl⟩ := hn
        exact hrest y hy
      simp only [List.map_cons, List.sum_cons, h0, ha, if_true, hf a (hw a (by simp))]
    · simp only [ha] at hs
      have h1 := ih hs (fun x hx => hw x (by simp [hx])) hnd.2
      simp only [List.map_cons, List.sum_cons, h1, ha, if_false, hw a (by simp), List.length_nil, Bool.false_eq_true]

/-- A ready packet is accepted, starts and is answered. -/
theorem deliver_ready (d : Dev) (h : Hdr) (op : IcpOp) (s : Session) (hr : Ready d h op s) :
    d.deliver h op none = answered (runOp h false (issuer h op s) op (taken d h op s)).2 h op s (runOp h false (issuer h op s) op (taken d h op s)).1 := by
  obtain ⟨ha, hc, hs, hl, hp, hsid, hseq, hlt, hlen, hnd, hw, hrec, hn, hsafe, hm, hh, hla, hpow⟩ := hr
  have hmod : h.seq % 2 ^ 32 = h.seq := Nat.mod_eq_of_lt hlt
  have hport : s.port = h.port := by
    have := List.find?_some hs
    simpa using this
  have hk : toSigned 32 (ofSigned 32 ((h.seq : Int) - s.h)) = 1 := by
    rw [hseq]; simp [toSigned, ofSigned]
  have hl' : (decide (6 ≤ h.port) || d.flag .sesPortCfg h.port 63) = true := by
    rcases hl with h1 | h1 <;> simp [h1]
  obtain ⟨r1, e1⟩ := sesCount_eq d h.port 0 1
  have hs1 : (d.sesCount h.port 0).ses h.port = some s := by rw [e1]; exact hs
  unfold Dev.deliver
  simp only [ha, Bool.not_true, Bool.false_eq_true, if_false, hmod, hl', Dev.when, if_true, hs1]
  have hp' : ¬((h.port = 2 ∨ h.port = 3) ∧ h.peer ≠ s.peer) := by
    rintro ⟨a, b⟩; exact b (hp a)
  rw [if_neg hp', if_neg (by simp [hsid])]
  have heq : ({ h with seq := h.seq } : Hdr) = h := rfl
  unfold Dev.onCommand
  simp only [hk]
  rw [if_neg (by rintro (h0 | ⟨_, h0⟩) <;> omega), if_neg (by omega)]
  simp only [show ¬ ((1:Int) ≤ 0) by omega, if_false, false_and]
  have hin : s.inFlight = 0 := by
    unfold Session.inFlight
    rw [List.length_eq_zero_iff, List.filter_eq_nil_iff]
    intro r hr'
    simp [(hrec r hr').1]
  have hroom : (d.sesCount h.port 0).roomFor s = true := by
    unfold Dev.roomFor; simp [hin]
  simp only [hroom, Bool.not_true, Bool.false_eq_true, if_false]
  unfold Dev.accept
  have hact : (d.sesCount h.port 0).lateFor (actOf s h) = false := by rw [e1]; exact hla
  have htop : max s.h h.seq = h.seq := by omega
  have hz : h.seq - s.h - 1 = 0 := by omega
  simp only [hact, htop, hz, List.range_zero, List.map_nil, List.append_nil]
  have hwt : s.waiting = [] := hw s (List.mem_of_find?_eq_some hs)
  have hrun : ∀ X : Dev, X.alive = true → X.cmdPairRuns = true → X.tens = d.tens →
      X.sessions = (d.sessions.map fun x => if x.port == h.port then
        { x with h := h.seq, recs := kept h s ++ [startRec h op s], waiting := x.waiting ++ [{ h, op }] } else x) →
      X.pump = X.start (accepted h op s) { h, op } := by
    intro X xa xc xt xs
    have hsum : ((X.sessions.map fun s => s.waiting.length).sum) = 1 := by
      rw [xs]
      exact sum_one hs hw hnd _ (fun x hx => by simp [hx])
    have hstart : X.startable (accepted h op s) { h, op } = true := by
      unfold Dev.startable
      have hear : ((accepted h op s).recs.filter fun r => decide (r.seq < h.seq)).all (fun r => r.slot == .done) = true := by
        rw [List.all_eq_true]
        intro r hr
        simp only [accepted, List.mem_filter, List.mem_append, kept, List.mem_singleton] at hr
        obtain ⟨hr | hr, hlt'⟩ := hr
        · simp [(hrec r hr.1).1]
        · subst hr; simp [startRec] at hlt'
      have hear2 : ((accepted h op s).recs.filter fun r => decide (r.seq < h.seq)).all (fun r => r.slot != .hole && (r.replied || r.slot == .done)) = true := by
        rw [List.all_eq_true] at hear ⊢
        intro r hr
        have := hear r hr
        rw [beq_iff_eq] at this
        simp [this]
      simp only [hear, hear2, Bool.or_true, Bool.true_and, Bool.not_eq_true', Bool.and_eq_false_iff, beq_eq_false_iff_ne]
      by_cases h9 : opCode op = 0x0900
      · right
        rw [List.any_eq_false]
        intro n hn'
        have := hpow h9 n hn'
        simp only [Dev.ten, xt] at this ⊢
        simp [this]
      · left; exact h9
    have hns : X.nextStart = some (accepted h op s, { h, op }) := by
      unfold Dev.nextStart
      rw [xs]
      refine findSome_one hs hw _ _ ?_ _ ?_
      · intro x hx
        simp [hx, argMin]
      · have hacc : ({ s with h := h.seq, recs := kept h s ++ [startRec h op s], waiting := s.waiting ++ [{ h, op }] } : Session) = accepted h op s := by
          simp [accepted, hwt]
        rw [hacc]
        have haw : (accepted h op s).waiting = [{ h, op }] := rfl
        simp only [haw, argMin, hstart, if_true]
    unfold Dev.pump
    rw [hsum]
    unfold Dev.pumpN
    rw [hns]
    simp [xa, xc, Dev.pumpN]
  have e1r := e1
  clear e1
  have hX : ∀ f : Session → Session, ∀ r : Rec, ∃ l, ((d.sesCount h.port 0).modSes s.port f).retain s.port r =
      { d with regs := r1, sessions := d.sessions.map (fun x => if x.port == h.port then f x else x), travLogs := l } := by
    intro f r
    obtain ⟨l, e⟩ := retain_eq ((d.sesCount h.port 0).modSes s.port f) s.port r
    refine ⟨l, ?_⟩
    rw [e, e1r, hport]
    rfl
  rw [hrun]
  · unfold Dev.start
    rfl
  all_goals
    obtain ⟨l, e⟩ := hX (fun x => { x with h := h.seq, recs := kept h s ++ [startRec h op s], waiting := x.waiting ++ [{ h, op }] }) (startRec h op s)
    unfold kept startRec at e
  · exact (congrArg Dev.alive e).trans ha
  · exact (congrArg Dev.cmdPairRuns e).trans hc
  · exact (congrArg Dev.tens e).trans rfl
  · exact (congrArg Dev.sessions e).trans rfl

/-- The common checks let a ready command through to its body. -/
theorem runOp_ready (d d' : Dev) (h : Hdr) (op : IcpOp) (s : Session) (hr : Ready d h op s) (hop : ∀ n, op ≠ .unknown n)
    (hn : d'.nightNow = d.nightNow) (hs : d'.flt.safe = d.flt.safe) (hm : d'.rst.maintenance = d.rst.maintenance)
    (hh : d'.headerForbids (accepted h op s) h.tenancy = d.headerForbids s h.tenancy)
    (hx : ∀ x, (runBody (issuer h op s) op d').1 = some x → (opPhases op).1 = 1 → 28 + x.body.length ≤ d'.maxLen s.port) :
    runOp h false (issuer h op s) op d' = runBody (issuer h op s) op d' := by
  obtain ⟨ha, hc, hss, hl, hp, hsid, hseq, hlt, hlen, hnd, hw, hrec, hn', hsafe, hm', hh', hla, hpow⟩ := hr
  rw [hn'] at hn; rw [hsafe] at hs; rw [hm'] at hm; rw [hh'] at hh
  have hg : guarded (false || d'.headerForbids (issuer h op s).ses h.tenancy) stNotPermitted
      (guarded (!h.lenOk) stBadParam (runBody (issuer h op s) op)) d' = runBody (issuer h op s) op d' := by
    have : d'.headerForbids (issuer h op s).ses h.tenancy = false := hh
    simp [guarded, this, hlen]
  cases op with
  | unknown n => exact absurd rfl (hop n)
  | _ =>
    unfold runOp
    simp only [hn, hs, hm, Bool.false_and, Bool.or_false, Bool.false_eq_true, if_false]
    rw [hg]
    split
    · rename_i r hr
      rw [if_neg]
      intro hc
      simp only [Bool.and_eq_true, decide_eq_true_eq, beq_iff_eq] at hc
      have h1 := hx r hr hc.2
      have h2 := hc.1
      simp only [issuer, accepted] at h2
      omega
    · rfl

/-- Taking a command changes counters, logs and sessions alone. -/
theorem taken_eq (d : Dev) (h : Hdr) (op : IcpOp) (s : Session) :
    taken d h op s = { d with regs := (taken d h op s).regs, travLogs := (taken d h op s).travLogs, sessions := (taken d h op s).sessions } := by
  unfold taken
  obtain ⟨r, e1⟩ := sesCount_eq d h.port 0 1
  rw [e1]
  obtain ⟨l, e⟩ := retain_eq (Dev.modSes { d with regs := r } s.port fun x =>
      { x with h := h.seq, recs := kept h s ++ [startRec h op s], waiting := x.waiting ++ [{ h, op }] }) s.port (startRec h op s)
  rw [e]
  rfl

/-- A row of the table that delivers an opcode completes where the opcode's body does. -/
theorem runs_of (i : Instr) (h : Hdr) (op : IcpOp) (ok : Ctx → Dev → Prop) (r : Ctx → Dev → Option Res) (eff : Ctx → Dev → Dev)
    (he : ∀ s, exec i s = onDev i.wellFormed (fun d => d.deliver h op) s) (hop : ∀ n, op ≠ .unknown n)
    (hb : ∀ c d, ok c d → runBody c op d = (r c d, eff c d)) : Runs i h op ok r eff := by
  intro st s hwf hr hok hx
  unfold To
  rw [he, hwf]
  unfold onDev
  simp only [if_true]
  rw [deliver_ready st.dev h op s hr]
  have e := taken_eq st.dev h op s
  have hrb := hb _ _ hok
  have hro := runOp_ready st.dev (taken st.dev h op s) h op s hr hop
    ((congrArg Dev.nightNow e).trans rfl) ((congrArg (fun d => d.flt.safe) e).trans rfl) ((congrArg (fun d => d.rst.maintenance) e).trans rfl)
    ((congrArg (fun d => d.headerForbids (accepted h op s) h.tenancy) e).trans rfl)
    (by intro x hxx hph; rw [hrb] at hxx; exact hx x hxx hph)
  rw [hro, hrb]

/-- An operation at each member of an empty list, or that does nothing at any, does nothing. -/
theorem each_same {α : Type} (l : List α) (d : Dev) (f : Dev → α → Dev) (hf : ∀ a ∈ l, f d a = d) : d.each l f = d := by
  unfold Dev.each
  induction l with
  | nil => rfl
  | cons a l ih =>
    simp only [List.foldl_cons]
    rw [hf a (by simp)]
    exact ih fun b hb => hf b (by simp [hb])

/-- What changes nothing changes nothing however often it runs. -/
theorem iter_same {α : Type} (n : Nat) (f : α → α) (a : α) (h : f a = a) : iter n f a = a := by
  induction n with
  | zero => rfl
  | succ n ih => rw [iter, h, ih]

/-- On a quiet device nothing follows a command. -/
theorem settled_quiet (d : Dev) (h : Quiet d) : d.settled = d := by
  obtain ⟨h1, h2, h3, h4, h5⟩ := h
  have e1 : d.settleCommits = d := by
    unfold Dev.settleCommits
    have ec : ∀ o ∈ outputNumbers, (if (d.out o).raster then d
        else (if d.commits.any fun a => bit a.left o then d.applyCommits o else d).applyCarts o) = d := by
      intro o _
      simp [h1, Dev.applyCarts, h2]
    rw [each_same _ _ _ ec]
    obtain ⟨⟩ := d
    simp only at h1 h2
    subst h1 h2
    rfl
  have e2 : d.tenSettle = d := by
    unfold Dev.tenSettle
    refine iter_same 4 _ d (each_same _ _ _ fun n hn => ?_)
    simp only [h3 n hn]
    rfl
  have e3 : d.closeDisabled = d := by
    have : ((d.sessions.map (·.port)).filter fun p => decide (p < 6) && !d.flag .sesPortCfg p 63) = [] := by
      rw [List.filter_eq_nil_iff]
      intro p hp
      obtain ⟨x, hx, rfl⟩ := List.mem_map.mp hp
      have := h5 x hx
      simp only [Bool.and_eq_true, decide_eq_true_eq, Bool.not_eq_true', not_and, Bool.not_eq_false]
      exact this
    unfold Dev.closeDisabled
    simp only [this]
    rfl
  have e4 : (d.sessions.map fun s => s.waiting.length).sum = 0 := by
    rw [List.sum_eq_zero]
    intro n hn
    obtain ⟨x, hx, rfl⟩ := List.mem_map.mp hn
    simp [h4 x hx]
  unfold Dev.settled Dev.settle
  rw [e1, e2, e3]
  unfold Dev.pump
  rw [e4]
  rfl

end Sys2Proof.Goals
end

