-- ==== Sys2Proof/Tests/Slice0.lean ====
section
/-!
SUPPORT. Small tests of the model: worked values of the spec, and for each statement a state and operands that meet its hypotheses.
-/

namespace Sys2Proof.Tests

open Sys2Proof Sys2Proof.Machine Sys2Proof.Goals

set_option Elab.async false

/-! ### The device of the witnesses -/

/-- A mediator session on host port 0. -/
def ses0 : Session := { sid := 7, port := 0, role := 0, mediator := true, peer := 0, cfg := 0, timeoutMs := 1000, holeMs := 1 }

/-- Bursol runs on a part with every unit, DRAM is trained, and the mediator session is open. -/
def dev0 : Dev :=
  (Dev.put { units := 2 ^ 32 - 1, p9c := false, sessions := [ses0], pages := [], rst := { stage := .idle, bursol := true, blkSrst := 0, pllGood := 127 },
             mem := { trained := true }, bsh := {} } .sesPortCfg 0 (2 ^ 63 + 2 ^ 62 + 4 * 2 ^ 56)).put .memDramCfg 0 (2 ^ 56 + 2 ^ 55)

/-- A device in the state of the witnesses. -/
abbrev st (d : Dev) : State := { dev := d }

/-- The first command of the session. -/
def h0 : Hdr := { port := 0, session := 7, seq := 1 }

/-- Some state and session meet the hypotheses under which the command runs. -/
def Can (i : Instr) (h : Hdr) (op : IcpOp) (ok : Ctx → Dev → Prop) : Prop :=
  ∃ (x : State) (s : Session), i.wellFormed = true ∧ Ready x.dev h op s ∧ ok (issuer h op s) (taken x.dev h op s)

theorem can {i : Instr} {h : Hdr} {op : IcpOp} {ok : Ctx → Dev → Prop} (d : Dev) (s : Session) (w : i.wellFormed = true) (r : Ready d h op s)
    (o : ok (issuer h op s) (taken d h op s)) : Can i h op ok := ⟨st d, s, w, r, o⟩

/-- Every opcode may start on the device of the witnesses. -/
theorem ready0 (op : IcpOp) : Ready dev0 h0 op ses0 := by
  refine ⟨?_, ?_, ?_, ?_, ?_, ?_, ?_, ?_, ?_, ?_, ?_, ?_, ?_, ?_, ?_, ?_, ?_, fun _ => ?_⟩ <;> decide +kernel

theorem can0 {i : Instr} {op : IcpOp} {ok : Ctx → Dev → Prop} (w : i.wellFormed = true) (o : ok (issuer h0 op ses0) (taken dev0 h0 op ses0)) : Can i h0 op ok :=
  can dev0 ses0 w (ready0 op) o

/-- The row writes its item on the device of the witnesses. -/
def CanWrite (i : Instr) (it : ParItem) : Prop := Can i h0 (.paramWrite it) fun c d => d.itemStatus c false it = stOk

theorem canWrite {i : Instr} {it : ParItem} (w : i.wellFormed = true)
    (o : (taken dev0 h0 (.paramWrite it) ses0).itemStatus (issuer h0 (.paramWrite it) ses0) false it = stOk) : CanWrite i it := can0 w o

/-- Nothing waits on the device of the witnesses. -/
theorem quiet0 : Quiet dev0 := by unfold Quiet; decide +kernel

/-- The partner pool of the witnesses. -/
def pool : Nat := dramBase + 32 * 2 ^ 30 - 1280 * 2 ^ 20

/-- A stamp. -/
def stamp0 : Stamp := { epoch := 0, gen := 0, ing := 0, cap := 0, capsrc := 0, slice := 0, src := 0, seq := 0, check := 0 }

/-! ### The command protocol (10) -/

/-- A key of port 4, and a handshake that waits on it. -/
def devKeyed : Dev :=
  (Dev.put { dev0 with ports := [(4, { key := some ⟨1, zeros 16, zeros 32⟩, attempt := some ⟨0, 0, 9, zeros 32, zeros 32⟩ })] } .sesPortCfg 4 (2 ^ 63)).setRng 7
    { cfg := ⟨0, 0, 4, 12, 0, true⟩ }

/-- A hole before the next number, and events that were lost. -/
def sesHole : Session := { ses0 with h := 2, recs := [{ seq := 1, slot := .hole }, { seq := 2, slot := .done }], lost := 1 }

theorem wit_SessionCommandsComplete_handshake :
    portOk 4 = true ∧ devKeyed.portAnswers 4 = true ∧ (devKeyed.prt 4).locked = false ∧ 0 = portRole 4 ∧ devKeyed.keyOf 4 = some (zeros 32) ∧
    (devKeyed.prt 4).attempt = some ⟨0, 0, 9, zeros 32, zeros 32⟩ := by decide +kernel

theorem wit_SessionCommandsComplete_commands :
    Can (.sessionClose h0) h0 .sessionClose (fun _ _ => True) ∧ Can (.sessionPing h0) h0 .sessionPing (fun _ _ => True) :=
  ⟨can0 (by decide) trivial, can0 (by decide) trivial⟩

theorem wit_SessionCommandsComplete_rest :
    portOk 5 = true ∧ portOk 0x18 = true ∧ ({ dev0 with sessions := [sesHole] } : Dev).ses 0 = some sesHole ∧ (∃ r ∈ sesHole.recs, r.seq = 1 ∧ r.slot = .hole) ∧
    sesHole.undelivered = [] ∧ 0 < sesHole.lost := by decide +kernel

/-- Ring 3 of page 0 of endpoint 1 and its event ring, enabled. -/
def devRings : Dev :=
  ((({ dev0 with rings := [], evtRings := [] } : Dev).setRng ((1 * 16 + 0) * 8 + 3) { cfg := ⟨0, 0, 4, 4, 0, true⟩ }).setEvr (1 * 16 + 0)
    { base := 0, log2 := 4, en := true, tail := 3, head := 1 })

theorem wit_DoorbellsComplete :
    devRings.alive = true ∧ devRings.ringOpen 1 0 3 = true ∧ (devRings.rng ((1 * 16 + 0) * 8 + 3)).held = [] ∧ (devRings.evr (1 * 16 + 0)).en = true ∧
    (devRings.evr (1 * 16 + 0)).head + (3 + 2 ^ 32 - (devRings.evr (1 * 16 + 0)).head % 2 ^ 32) % 2 ^ 32 ≤ (devRings.evr (1 * 16 + 0)).tail := by
  decide +kernel

theorem wit_IdentityCommandsComplete :
    Can (.deviceDescribe h0) h0 .deviceDescribe (fun _ _ => True) ∧ Can (.traverseQuery h0 7 1) h0 (.traverseQuery 7 1) (fun _ _ => True) ∧
    Can (.keySet h0 5 1 [] []) h0 (.keySet 5 1 [] []) (fun c d => c.ses.mediator = true ∧ d.keyPort 5 = true ∧ 1 ≤ 1) ∧
    Can (.eventMask h0 65535) h0 (.eventMask 65535) (fun _ _ => True) :=
  ⟨can0 (by decide) trivial, can0 (by decide) trivial, can0 (by decide) (by decide +kernel), can0 (by decide) trivial⟩

/-! ### Parameters (19) -/

theorem wit_ParameterReadsComplete :
    Can (.paramRead h0 (some .bshCfg) false 0 8) h0 (.paramRead (some .bshCfg) false 0 8)
      (fun c d => (∀ e ∈ (Par.bshCfg.info.covered 0 8).filter (d.parPresent .bshCfg), d.mayRead c .bshCfg e = true) ∧ 0 % 4 = 0 ∧ 8 % 4 = 0 ∧
        0 + 8 ≤ Par.bshCfg.info.bytes ∧ 28 + 8 ≤ d.maxLen c.ses.port) ∧
    Can (.tsiFifoRead h0 7) h0 (.paramRead (some .timTsiFifo) false (7 * 16) 16)
      (fun c d => (c.ses.mediator = true ∨ (d.tsi 7).session = some (c.ses.port, c.ses.sid)) ∧ 44 ≤ d.maxLen c.ses.port) ∧
    Can (.bndViolRead h0) h0 (.paramRead (some .bndViol) false 0 24) (fun c d => c.ses.mediator = true ∧ 52 ≤ d.maxLen c.ses.port) := by
  refine ⟨can0 ?_ ?_, can0 ?_ ?_, can0 ?_ ?_⟩ <;> decide +kernel

/-- The element that a row writes. -/
def item (p : Par) (n v : Nat) : ParItem := { par := some p, offset := n * p.info.bPow * p.info.stride, data := elemBytes p v }

/-- The device of the witnesses as the acting Atlas. -/
def devAtlas : Dev := { dev0 with chain := { role := 1, acting := some 0 } }

theorem wit_ParameterWritesComplete :
    CanWrite (.paramWrite h0 (item .bshWakeMs 0 5)) (item .bshWakeMs 0 5) ∧
    Can (.paramWriteMulti h0 [item .srcSsrc 191 1, item .bshWakeMs 0 5]) h0 (.paramWriteMulti [item .srcSsrc 191 1, item .bshWakeMs 0 5])
      (fun c d => (d.writeItems c [item .srcSsrc 191 1, item .bshWakeMs 0 5] 0).2.1 = stOk) ∧
    CanWrite (.srcCfgWrite h0 191 0) (item .srcCfg 191 0) ∧
    CanWrite (.srcFlowWrite h0 .srcFilter 191 60) (item .srcFilter 191 60) ∧
    CanWrite (.dpiEdidWrite h0 3 508 [1, 2, 3, 4]) { par := some .srcDpiEdid, offset := 3 * 512 + 508, data := [1, 2, 3, 4] } ∧
    CanWrite (.failbackNWrite h0 60) { par := some .pltFailbackN, offset := 0, data := padTo 4 (leBytes 2 60) } ∧
    CanWrite (.monCfgWrite h0 7 (dev0.get .encMonCfg)) (item .encMonCfg 7 (dev0.get .encMonCfg)) ∧
    CanWrite (.witCfgWrite h0 .witAckTimeoutMs 7 10000) (item .witAckTimeoutMs 7 10000) ∧
    CanWrite (.ptpCfgWrite h0 0) (item .timPtpCfg 0 0) ∧
    CanWrite (.feCfgWrite h0 3 (dev0.get .grtFeCfg)) (item .grtFeCfg 3 (dev0.get .grtFeCfg)) ∧
    CanWrite (.feCfgWrite h0 4 (dev0.get .grtSelfCfg)) (item .grtSelfCfg 0 (dev0.get .grtSelfCfg)) ∧
    CanWrite (.baseStoreWrite h0 0) { par := some .grtBaseStore, offset := 0, data := padTo 4 (leBytes 1 0) } ∧
    CanWrite (.touchRingWrite h0 0 ((dramBase <<< 16) + 0x6000)) (item .grtRing 0 ((dramBase <<< 16) + 0x6000)) ∧
    CanWrite (.ringRdWrite h0 8 9) (item .grtRingRd 8 9) ∧
    CanWrite (.audioPortCfgWrite h0 1 (dev0.get .audPortCfg)) (item .audPortCfg 1 (dev0.get .audPortCfg)) ∧
    CanWrite (.ethCfgWrite h0 7 (dev0.get .lnkEthCfg)) (item .lnkEthCfg 7 (dev0.get .lnkEthCfg)) ∧
    CanWrite (.mdkCfgWrite h0 1 (dev0.get .mdkCfg)) (item .mdkCfg 1 (dev0.get .mdkCfg)) ∧
    (let it := item .mdkBarrierCfg 0 (setBits (devAtlas.get .mdkBarrierCfg) 15 3 6000)
     portOk h0.port = true ∧ Ready devAtlas h0 (.paramWrite it) ses0 ∧
       (taken devAtlas h0 (.paramWrite it) ses0).itemStatus (issuer h0 (.paramWrite it) ses0) false it = stOk) := by
  refine ⟨canWrite ?_ ?_, can0 ?_ ?_, canWrite ?_ ?_, canWrite ?_ ?_, canWrite ?_ ?_, canWrite ?_ ?_, canWrite ?_ ?_, canWrite ?_ ?_, canWrite ?_ ?_, canWrite ?_ ?_,
    canWrite ?_ ?_, canWrite ?_ ?_, canWrite ?_ ?_, canWrite ?_ ?_, canWrite ?_ ?_, canWrite ?_ ?_, canWrite ?_ ?_, ?_, ?_, ?_⟩ <;> first | decide +kernel | (unfold Goals.Ready; decide +kernel)

/-! ### Ill-formed commands -/

/-- A packet on a port that does not exist. -/
def hNo : Hdr := { h0 with port := 6 }

theorem test_ill_formed_1 (vPcieReset : PcieReset) (vParItem : ParItem) :
    (([.sessionHello 6 0 0 [], .sessionAuth 6 0 0 [], .authAttemptLapse 6, .authLockoutEnd 6, .sessionClose hNo, .sessionPing hNo, .sessionTimeout 6, .sessionAlive 6,
      .badPacket 6, .holeExpire 6 0, .eventsLost 6, .sqDoorbell 2 0 0 0 [], .sqDoorbell 0 16 0 0 [], .sqDoorbell 0 0 8 0 [], .cqDoorbell 2 0 0 0,
      .cqDoorbell 0 16 0 0, .cqDoorbell 0 0 8 0, .evtDoorbell 2 0 0, .evtDoorbell 0 16 0, .bar0Access 2 0 false, .bar0Access 0 16 false, .bar2Read 2 0 0 0,
      .bar2Read 0 8 0 0, .bar2Write 2 0 0 [] false, .bar2Write 0 8 0 [] false, .outboundReadTimeout 2 0, .outboundReadTimeout 0 24, .pcieFunctionReset 2 vPcieReset,
      .deviceDescribe hNo, .traverseQuery hNo 0 0, .keySet hNo 0 0 [] [], .eventMask hNo 0, .paramRead hNo none false 0 0, .paramWrite hNo vParItem,
      .paramWriteMulti hNo [], .sourceQuery hNo 0, .layerCommit hNo 0, .cartWrite hNo 0 0 [], .cartLut hNo 0 0 [], .cartGlyph hNo 0 0 [], .cartDesc hNo 0 0 0 [],
      .cartCommit hNo 0 0, .witnessQuery hNo 0, .ipuExpose hNo 0 0 [], .ipuReprocess hNo 0 0 0 0 0 0 [], .reprocessDone 4, .tenancyCreate hNo 0 0 [],
      .tenancyConfigure hNo 0 [], .tenancyReset hNo 0 0, .tenancyRemove hNo 0 0, .tenancyFreeze hNo 0, .freezeDrainTimeout 9, .tenancySave hNo 0 0 0,
      .tenancyRestore hNo 0 0 0 [], .tenancyThaw hNo 0, .tenancyDrainExpired 9, .zeroFillDone 9, .tenancyQuiesced 9, .timeStep hNo 0 0, .powerState hNo 0] : List Instr).map Instr.wellFormed).all (! ·) = true := rfl

theorem test_ill_formed_2 (vEthFrame : EthFrame) (vDpiFrame : DpiFrame) (vSliceDec : SliceDec) (vCsiLine : CsiLine) (vCamFrame : CamFrame) :
    (([.touchRecalibrate hNo 0 0, .hapticPlay hNo 0 0 0 0, .diagStampRead hNo 0 0, .diagTileRead hNo 0 0, .diagEyeScan hNo 0 0 0, .eyeScanDone 6 [],
      .diagTallyRead hNo 0, .chainRole hNo 0 0 0, .chainLayout hNo 0 0, .chainQuery hNo 0, .attest hNo [], .auditRead hNo 0 0, .serviceChallenge hNo,
      .serviceEnter hNo [], .serviceExit hNo, .firmwareStage hNo 0 false [], .faultRead hNo, .faultClear hNo 0, .reset hNo 0 0, .srcCfgWrite hNo 0 0,
      .srcFlowWrite hNo .srcDst 0 0, .srcFlowWrite h0 .talCfg 0 0, .igmpReportRepeat 8 0, .igmpQueryRx 8 0, .dpiEdidWrite hNo 0 0 [], .dpiHpdPulseEnd 4,
      .ethFrameRx 8 vEthFrame, .jitterBufferExpire 192 0, .dpiFrameRx 4 vDpiFrame, .sourceLossTimeout 192, .sourceFrozen 192,
      .sliceDecoded { vSliceDec with src := 192 }, .csiFrameStart 4 0 0, .ipuExposeTimeout 4 0, .csiLineRx 4 vCsiLine, .csiFrameEnd 4 0 0, .csiExposureTimeout 4 0,
      .csiExposureTimeout 0 4, .ipuFrameDone 4 vCamFrame, .frameCommitPoint 8, .frameStart 8 0, .bandCompose 8 0 0 [] [], .bandCompose 0 68 0 [] [],
      .bandDeadline 8 0, .bandDeadline 0 68, .bandScanout 8 0 0, .bandScanout 0 68 0, .sinkCrcReadback 8 [] [], .sinkCrcReadback 0 [] [],
      .sinkCrcReadback 0 [0, 0, 0] [], .benchCompare 8 0 0, .failbackCompare 4 0 0 0, .failbackCompare 0 8 0 0, .failbackRunReached 4, .failbackNWrite hNo 0,
      .checkpointWrite 8, .recordSigned 8 0, .witnessPictureCoded 8 [] [], .witnessNotCoded 8 0, .monitorPictureCoded 8 []] : List Instr).map Instr.wellFormed).all (! ·) = true := rfl

theorem test_ill_formed_3 (vScanFrame : ScanFrame) (vMdkFrame : MdkFrame) :
    (([.monCfgWrite hNo 0 0, .witCfgWrite hNo .srcDst 0 0, .witCfgWrite h0 .talCfg 0 0, .witnessAckTimeout 8, .jobLatestStart 192 0 0, .islandWake 13, .pllRestart 7,
      .thermalSample [], .tsiFifoRead hNo 0, .ptpSyncSend 10, .ptpCfgWrite hNo 0, .tsiEdge 8 false, .tsoEdge 4, .tsoPulseEnd 4, .touchScanFrame 4 vScanFrame,
      .touchStuck 4 0, .feCfgWrite hNo 0 0, .baseStoreWrite hNo 0, .touchRingWrite hNo 0 0, .ringRdWrite hNo 0 0, .hapticPlayEnd 8, .hapticOvercurrent 8 0,
      .hapticTrackLost 8 0, .audioPortCfgWrite hNo 0 0, .memRead 24 0 0 0 0 false .clean, .memRead 0 (2 ^ 48) 0 0 0 false .clean, .memWrite 24 0 0 [] false,
      .memWrite 0 (2 ^ 48) 0 [] false, .dramRefresh 4 false, .zqCalibration 4 0, .zqCalibration 0 2, .scanoutPanic 8 false, .caParityAlert 4 false,
      .writeCrcAlert 4 false, .patrolScrub (2 ^ 48) .clean, .chartScrub (2 ^ 48) .clean, .cartScrub (2 ^ 48) .clean, .cartoucheRepair (2 ^ 48), .remapWrite 24 0,
      .bndCommit 24 0, .bndViolRead hNo, .ethCfgWrite hNo 0 0, .ethLinkDown 8, .ethLinkUp 8, .arpRetry 8 0, .neighborAgeOut 8 0, .ethTxTimeout 8,
      .mdkFrameRx 2 vMdkFrame, .mdkLinkctlRx 2 false 0, .mdkAckTimer 2, .mdkNakRepeat 2, .mdkReplayTimeout 2, .mdkBlockLock 2 0 false 0 0, .mdkStartupBurst 2,
      .mdkRecoveryTimeout 2, .mdkIdleTimer 2, .mdkEidleRx 2, .mdkExitBurstRx 2, .mdkCfgWrite hNo 0 0, .mdkPeerRxUp 2 false] : List Instr).map Instr.wellFormed).all (! ·) = true := rfl

theorem test_ill_formed_4 (vRingCfg : RingCfg) (vChainBody : ChainBody) :
    (([.dpHpdAssert 8 [], .dpHpdIrq 8 false, .dpHpdDeassert 8, .dpTrainingRetry 8, .dpTrainingDone 8 none none, .dpiLinkLoss 4, .pcieLinkUp 2,
      .ringCfgWrite 2 0 0 false vRingCfg, .ringCfgWrite 0 16 0 false vRingCfg, .ringCfgWrite 0 0 8 false vRingCfg, .msixUnmask 2 0, .msixUnmask 0 72,
      .discoverRx 2 0 0 0 0 0, .chainLinkCut 2, .chainFrameRx 2 0 0 0 0 vChainBody, .takebackNWrite hNo 0, .resetReqSend 32, .watchdog 4, .lockstep 2,
      .criticalState 6 1, .criticalState 0 3, .pllLock 7, .clockGoodTimeout 7, .blockResetDone 40, .bootMailboxGo 2 0 0 [], .bootMailboxGo 0 (2 ^ 46) 0 [],
      .bootMailboxGo 0 0 1 [], .faultReport 64 0 1, .faultReport 0 0 0, .faultReport 0 0 8, .tallyMessage 16 [], .tamperEdge 4 false, .debugHalt 4 false] : List Instr).map Instr.wellFormed).all (! ·) = true := rfl


/-! ### Worked values of the spec -/

/-- The ASCII bytes of "123456789". -/
def nine : Bytes := [0x31, 0x32, 0x33, 0x34, 0x35, 0x36, 0x37, 0x38, 0x39]

/-- The check values of 16 Table 16.15. -/
theorem test_tally_check : tallyCrc 0 nine = 0xE3069283 ∧ tallyCrc 1 nine = 0xCBF43926 ∧ tallyCrc 2 nine = 0x29B1 ∧ tallyCrc 3 nine = 0x6C40DF5F0B497347 := by
  decide +kernel

/-- The capacities that 13 names beside R337: 16, 128 and 128 GiB; 8 GiB is not an organisation, and RATE 4 is reserved. -/
theorem test_dram_capacity : dramGibOf (2 ^ 58) = some 16 ∧ dramGibOf (2 ^ 59 + 2 ^ 57) = some 128 ∧ dramGibOf (3 * 2 ^ 59) = some 128 ∧
    dramGibOf (3 * 2 ^ 59 + 2 ^ 57) = none ∧ dramGibOf (2 ^ 63 + 2 ^ 58) = none := by decide

/-- Bits of a stamp (02 Table 2.1). -/
theorem test_stamp_word :
    let w := Stamp.word { stamp0 with epoch := 5, gen := 0xAB, src := 191, slice := 0xFF, seq := 0x12345678, capsrc := 2, taint := 0x801, ing := 3 * 10 ^ 9 + 7 }
    bits w 239 236 = 5 ∧ bits w 231 224 = 0xAB ∧ bits w 47 40 = 0xFF ∧ bits w 39 32 = 191 ∧ bits w 31 0 = 0x12345678 ∧ bits w 51 50 = 2 ∧ bits w 63 52 = 0x801 ∧
    bits w 191 158 = 3 ∧ bits w 157 128 = 7 := by decide +kernel

/-- A region is where 13 Table 13.8 has it. -/
theorem test_region_word :
    let w := regionWord 0x1000000 0xFFFFFFFFF true false 2
    bits w 127 92 = 0xFFFFFFFFF ∧ bits w 91 56 = 0x1000000 ∧ bit w 55 = true ∧ bit w 54 = true ∧ bit w 53 = false ∧ bit w 52 = false ∧ bits w 51 50 = 2 := by
  decide +kernel

/-- BT.709 in limited range at 8 bits: white, black and their chroma (07 R171). -/
theorem test_ycc : toYcc 8 ⟨255, 255, 255⟩ = ⟨235, 128, 128⟩ ∧ toYcc 8 ⟨0, 0, 0⟩ = ⟨16, 128, 128⟩ := by decide +kernel

/-- The address of a parameter's descriptor, SYS.UNITS and PLT.LAYER_DST (19 R501, Table 19.5). -/
theorem test_par_at : parAt 0x1001 = some .sysUnits ∧ parAt 0xD021 = some .pltLayerDst ∧ parAt 0x8000 = some (.blockInfo 8) ∧ parAt 0x1B000 = none := by decide +kernel

/-- SRC.STAT has 14 counters of 4 bytes for each source: B is 16, and counter k of source n lies at (16 n + k) · 4 (19 R503). -/
theorem test_stat_place : (Par.info .srcStat).bPow = 16 ∧ (Par.info .srcStat).place ((16 * 5 + 3) * 4) = some (14 * 5 + 3, 0, 0) ∧ (Par.info .srcStat).place ((16 * 5 + 14) * 4) = none := by decide +kernel

/-- A time in the Datum format (02 Table 2.2). -/
theorem test_datum_time : datumTime (34 * 10 ^ 9 + 999999999) = 34 * 2 ^ 30 + 999999999 ∧ ofDatumTime (datumTime (34 * 10 ^ 9 + 999999999)) = 34 * 10 ^ 9 + 999999999 := by
  decide +kernel

/-- Serial arithmetic modulo 2³² (02 R36): 0 comes after 2³² − 1; half the circle away is not greater. -/
theorem test_serial : serialGt 32 0 (2 ^ 32 - 1) = true ∧ serialGt 32 (2 ^ 31) 0 = false ∧ serialGt 16 0x7FFF 0 = true := by decide

/-- No word of the table spells a command (notes/assumptions/1.md). -/
theorem test_table_word : decodeTableWord 16 0xFFFF = none := by decide +kernel

/-! ### Time (03) -/

/-- Locked, with port 7 and chain port M1 as time ports. -/
def devTime : Dev :=
  Dev.put (Dev.put (Dev.put { dev0 with tim := { st := .locked, tsoActive := [3], slavePort := 7 }, chain := { role := 1, inService := [1] } } .timPtpCfg 0 (2 ^ 17))
    .timTsiCfg 7 (2 ^ 31 + 2 ^ 30 + 2 ^ 29)) .timTsoCfg 3 (2 ^ 29)

theorem wit_TimeCommandsComplete :
    devTime.timePort 7 = true ∧ devTime.timePort 9 = true ∧ devTime.tim.slavePort ≠ 9 ∧ 8 ≤ 9 ∧ devTime.tim.st = .locked ∧ devTime.tim.rates.length < 64 ∧
    ({ devTime with tim := { st := .holdover } } : Dev).tim.st = .holdover ∧
    (devTime.flag .timTsiCfg 7 31 = true ∧ devTime.flag .timTsiCfg 7 29 = true ∧ devTime.flag .timTsiCfg 7 30 = true ∧ (devTime.tsi 7).lastEdge = none ∧
      (devTime.tsi 7).fifo.length < 16) ∧ devTime.tsoRuns 3 = true ∧ 3 ∈ devTime.tim.tsoActive ∧
    Can (.timeStep h0 0 (-1)) h0 (.timeStep 0 (-1))
      (fun c d => c.partner = true ∧ d.chain.role = 0 ∧ (0 = 0 ∧ inS64 (-1) = true ∧ (-1 : Int) ≠ 0) ∧ d.recentStep = false) := by
  refine ⟨?_, ?_, ?_, ?_, ?_, ?_, ?_, ?_, ?_, ?_, can0 ?_ ?_⟩ <;> decide +kernel

theorem wit_ClockCountsAndSteps : ({ ns := 999999999, f := 2 ^ 32 - 1 } : TimeU).ns.toNat < 1000000000 := by decide

theorem wit_StepOpensEpochAndIsLogged : ∃ i, (dev0.stepClock (-5) true).tim.log.length ≤ i := ⟨_, Nat.le_refl _⟩

/-! ### Sources and ingest (04) -/

/-- Source 191 on Ethernet port 7, source 0 on DisplayPort input 3, group 5 joined on port 7. -/
def devSrc : Dev :=
  Dev.put (Dev.put { dev0 with
      eths := [(7, { up := true, groups := [5], groupRepeat := [5] })],
      srcs := [(0, { hpdLow := true, st := .seeking }), (191, { st := .running, pics := [{ ts := 90, firstIng := 1, jbMs := 1, lateMs := 1, allow := 1 }], runStart := some 4 })] }
    .srcCfg 191 (2 ^ 63 + 1 * 2 ^ 60 + 7 * 2 ^ 55 + 96 * 2 ^ 32 + 5004 * 2 ^ 16)) .srcCfg 0 (2 ^ 63 + 3 * 2 ^ 60 + 3 * 2 ^ 55)

/-- A packet for source 191. -/
def rtp : RtpPkt := { pt := 96, ssrc := 0, seq := 0, ts := 0, marker := true, bytes := 100, slice := 0, sliceEnd := true }

/-- A frame of an input. -/
def dpiFrame : DpiFrame :=
  { msaValid := true, complete := true, inRange := true, fmt := ⟨1920, 1080, 2, 8, 0, 0⟩, edge := 3, check := 1, sentinels := [], grid := [] }

theorem wit_IngestCommandsComplete :
    (devSrc.eth 7).groupRepeat.contains 5 = true ∧ (devSrc.eth 7).groups.filter (· == 5) = [5] ∧ devSrc.srcOn 3 3 = some 0 ∧ (devSrc.src 0).hpdLow = true ∧
    (devSrc.eth 7).up = true ∧ (devSrc.count2 .lnkEthStat 7 0).rtpMatches 7 none false false 0 1 5004 rtp = true ∧
    argMin (fun n => (!(devSrc.count2 .lnkEthStat 7 0).flag .srcCfg n 52).toNat * 2 + (!(devSrc.count2 .lnkEthStat 7 0).flag .srcCfg n 53).toNat)
      (sourceNumbers.filter fun n => (devSrc.count2 .lnkEthStat 7 0).acceptsRtp n 7 none false 0 1 5004 rtp) = some 191 ∧
    (devSrc.src 191).pics.any (·.ts == 90) = true ∧
    (dpiFrame.msaValid = true ∧ dpiFrame.complete = true ∧ dpiFrame.inRange = true ∧ devSrc.inService (0x1C + 3) = true ∧ devSrc.inNight = false) ∧
    (devSrc.src 191).st = .running ∧ (devSrc.src 191).runStart = some 4 ∧ (devSrc.src 191).runRaised = false ∧
    Can (.sourceQuery h0 191) h0 (.sourceQuery 191) (fun c d => 191 < 192 ∧ c.ownsOrMed (d.srcOwner 191) = true) ∧
    Can (.diagStampRead h0 191 255) h0 (.diagStampRead 191 255) (fun c d => 191 < 192 ∧ 255 ≤ 255 ∧ c.ownsOrMed (d.srcOwner 191) = true) := by
  refine ⟨?_, ?_, ?_, ?_, ?_, ?_, ?_, ?_, ?_, ?_, ?_, ?_, can0 ?_ ?_, can0 ?_ ?_⟩ <;> decide +kernel

theorem wit_CaptureTimeChoice :
    devTime.mappingPermitted = true ∧ devTime.srcClock 0 ≠ 1 ∧ (devTime.put .srcCfg 0 (2 ^ 58)).srcClock 0 = 1 ∧
    (∃ m, mapRtp ((devTime.put .srcCfg 0 (2 ^ 58)).get .srcMediaOff 0) 0 5000000000 = some m ∧ m ≤ 5000000000) ∧ dev0.mappingPermitted = false := by
  refine ⟨?_, ?_, ?_, ⟨_, rfl, ?_⟩, ?_⟩ <;> decide +kernel

/-! ### Decode engines (05) -/

/-- A picture of two slices in decode on engine 3, the second of them a gap. -/
def accPic : AccPic := { seq := 4, gen := 0, slices := [(0, false, stamp0), (9, true, stamp0)] }

/-- A picture header. -/
def head0 : PicHead := { irap := false, isRef := true, order := 1, poc := 1 }

/-- A slice from the engine. -/
def sliceDec (k : Nat) (o : SliceOutcome) : SliceDec := { src := 191, seq := 4, slice := k, head := head0, outcome := o, check := 5, last := false }

/-- The device with that picture in decode. -/
def devDec : Dev := { dev0 with decs := [(191, { engine := some 3, cur := some accPic, pending := true, cycle := .assumed 1 }), (190, { pending := true })] }

theorem wit_DecodeCommandsComplete :
    (devDec.dec 191).curStamps = [] ∧ devDec.routes = [] ∧ (devDec.dec 191).cur = some accPic ∧ accPic.seq = (sliceDec 0 .ok).seq ∧
    (devDec.dec 191).engine = some 3 ∧ devDec.engUsable 3 = true ∧ accPic.slices.find? (·.1 == 0) = some (0, false, stamp0) ∧
    accPic.slices.find? (·.1 == 9) = some (9, true, stamp0) ∧ (sliceDec 9 .gap).outcome ≠ .redundant ∧ (sliceDec 0 .parseError).outcome = .parseError ∧
    (sliceDec 0 .redundant).outcome = .redundant := by decide +kernel

theorem wit_TaintProcedure :
    head0.isRef = true ∧ (dev0.dec 0).pending = false ∧ (devDec.dec 191).pending = true ∧ ({ head0 with irap := true } : PicHead).irap = true ∧
    head0.irap = false ∧ (devDec.dec 191).cycle = .assumed (0 + 1) ∧ head0.recovery = none ∧ (devDec.dec 190).pending = true ∧ (devDec.dec 190).cycle = .none ∧
    (devDec.put .decCfg 190 0).fld .decCfg 190 23 15 = 0 := by decide +kernel

/-! ### The camera image pipeline (06) -/

/-- Pipe 3 runs for source 191 on a sensor of 64 by 64 samples, one exposure on virtual channel 0. -/
def devIpu (p : Pipe) : Dev :=
  Dev.put (Dev.put (Dev.put (Dev.put { dev0 with pipes := [(3, p)], srcs := [(191, { st := .running, fmt := some ⟨64, 64, 2, 10, 1, 0⟩ })] }
    .srcCfg 191 (2 ^ 63 + 4 * 2 ^ 60 + 3 * 2 ^ 55)) .ipuPortCfg 3 (2 ^ 31)) .ipuCamCfg 3 (64 * 2 ^ 48 + 64 * 2 ^ 32)) .ipuOutCfg 3
    (64 * 2 ^ 48 + 64 * 2 ^ 32 + 2 * 2 ^ 28 + 10 * 2 ^ 24 + 1 * 2 ^ 20)

/-- The pipe once an FS took its configuration. -/
def pipe0 : Pipe := { port := 2 ^ 31, cam := 64 * 2 ^ 48 + 64 * 2 ^ 32 }

/-- A frame whose exposure has some lines. -/
def camSet (n : Nat) (ing : Option Ns) : CamSet := { e := 0, fn := 1, fs := 9, epoch := 0, holdover := false, gen := 0, exps := [(0, { lines := n })], ing }

/-- A line of the sensor. -/
def csiLine : CsiLine := { vc := 0, samples := 64 }

/-- An exposure command that waits for its frame. -/
def expSet : ExpSet := { tag := 1, sets := [], target := 0, embedded := true, framesLeft := 0 }

/-- The command that reprocesses a tap of 64 by 64 samples. -/
def reprocOut : Nat := 64 * 2 ^ 48 + 64 * 2 ^ 32 + 1 * 2 ^ 28 + 10 * 2 ^ 24 + 2 * 2 ^ 20

theorem wit_ImagePipelineCommandsComplete_frames :
    (devIpu pipe0).pipeRuns 3 = true ∧ (devIpu pipe0).srcOn 4 3 = some 191 ∧
    ({ (devIpu pipe0).pipe 3 with port := (devIpu pipe0).get .ipuPortCfg 3 } : Pipe).expOf 0 = some 0 ∧ ((devIpu pipe0).pipe 3).sets = [] ∧
    ((devIpu pipe0).pipe 3).early = [] ∧ ((devIpu pipe0).pipe 3).cam = (devIpu pipe0).get .ipuCamCfg 3 ∧
    (csiLine.corrected = false ∧ csiLine.supported = true ∧ csiLine.embedded = false ∧ csiLine.crcOk = true ∧ csiLine.overflow = false) ∧
    pipe0.expOf csiLine.vc = some 0 ∧ 63 < bits pipe0.cam 47 32 ∧ csiLine.samples = bits pipe0.cam 63 48 ∧ pipe0.nExp = 1 ∧
    ((devIpu { pipe0 with sets := [camSet 63 none] }).pipe 3).sets = [camSet 63 none] ∧ (camSet 63 none).exps = [(0, { lines := 63 })] ∧
    64 = bits pipe0.cam 47 32 ∧ ((devIpu { pipe0 with sets := [camSet 64 none] }).pipe 3).sets = [camSet 64 none] ∧ (camSet 64 none).ing = none ∧
    (camSet 64 none).discard = false := by decide +kernel

theorem wit_ImagePipelineCommandsComplete_done :
    let d := devIpu { pipe0 with sets := [camSet 64 (some 20)] }
    d.routes = [] ∧ d.srcOn 4 3 = some 191 ∧ (d.pipe 3).sets = [camSet 64 (some 20)] ∧ (camSet 64 (some 20)).gen = d.srcGen 191 ∧ (d.src 191).st = .running ∧
    (d.src 191).fmt = some (d.pipeFormat 3) ∧ (d.pipe 3).pend = [] ∧ (d.pipe 3).inForce = none ∧
    ((devIpu { pipe0 with pend := [expSet] }).pipe 3).pend = [expSet] ∧ expSet.embedded = true ∧ expSet.framesLeft = 0 ∧
    ((devIpu { pipe0 with reproc := [⟨0, 7, 1, 0, 0, 32768, 3⟩] }).pipe 3).reproc = [⟨0, 7, 1, 0, 0, 32768, 3⟩] := by decide +kernel

theorem wit_ImagePipelineCommandsComplete_commands :
    Can (.ipuExpose h0 3 1 [⟨1, 1, 0⟩]) h0 (.ipuExpose 3 1 [⟨1, 1, 0⟩])
      (fun c d => d.present 20 = true ∧ (((d.srcOn 4 3).any fun n => c.owns (d.srcOwner n)) = true ∨ c.ses.mediator = true) ∧ 3 ≤ 3 ∧ 1 ≠ 0 ∧
        ([⟨1, 1, 0⟩] : List Exposure).length = bits (d.get .ipuPortCfg 3) 7 6 + 1 ∧ (∀ x ∈ ([⟨1, 1, 0⟩] : List Exposure), x.expNs ≠ 0 ∧ x.gain ≠ 0) ∧
        (d.pipe 3).pend = []) ∧
    Can (.ipuReprocess h0 4 3 0 pool (pool + 2 ^ 20) reprocOut []) h0 (.ipuReprocess 4 3 0 pool (pool + 2 ^ 20) reprocOut [])
      (fun c d =>
        let cam := d.get .ipuCamCfg 3
        let nin := tapBytes cam 4 (d.fld .ipuPortCfg 3 7 6 + 1)
        d.present 20 = true ∧ (((d.srcOn 4 3).any fun n => c.owns (d.srcOwner n)) = true ∨ c.ses.mediator = true) ∧ 3 ≤ 3 ∧ 4 ≤ 4 ∧
        64 ≤ bits reprocOut 63 48 ∧ bits reprocOut 63 48 ≤ 7680 ∧ 64 ≤ bits reprocOut 47 32 ∧
        bits reprocOut 47 32 ≤ 7680 ∧ 1 ≤ bits reprocOut 31 28 ∧ bits reprocOut 31 28 ≤ 3 ∧ bits reprocOut 27 24 = 10 ∧
        (bits reprocOut 23 20 = 1 ∨ bits reprocOut 23 20 = 2) ∧ 0 < nin ∧ d.allTagged pool nin (d.ownerColour c.act) = true ∧
        d.allTagged (pool + 2 ^ 20) (bits reprocOut 63 48 * bits reprocOut 47 32 * 8) (d.ownerColour c.act) = true) := by
  refine ⟨can (devIpu pipe0) ses0 ?_ ?_ ?_, can (devIpu pipe0) ses0 ?_ ?_ ?_⟩ <;> first | decide +kernel | (unfold Goals.Ready; decide +kernel)

theorem wit_ExtendedFrameNumber :
    ({ fPrev := some 65535 } : Pipe).fPrev = some 65535 ∧ 65535 < 2 ^ 16 ∧ (65535 + 16) % 2 ^ 16 ≠ 0 ∧ ({} : Pipe).fPrev = none := by decide

/-! ### Composition (07, 02) -/

/-- A raster of 1,280 by 720. -/
def hd : Nat := 74250000 * 2 ^ 160 + 1650 * 2 ^ 144 + 1280 * 2 ^ 128 + 110 * 2 ^ 112 + 40 * 2 ^ 96 + 750 * 2 ^ 80 + 720 * 2 ^ 64 + 5 * 2 ^ 48 + 5 * 2 ^ 32

/-- Output 7 composes on a raster of 1,280 by 720. -/
def devOut (x : Output) : Dev :=
  (((Dev.putF { dev0 with outs := [(7, { x with raster := true })] } .pltOutCfg 7 (2 ^ 31 + 2 ^ 30)).putF .lnkDpTiming 7 hd).put .pltOutCfg 7 (2 ^ 31 + 2 ^ 30)).put .lnkDpTiming 7 hd

theorem wit_CommitCommandsComplete :
    Can (.layerCommit h0 1) h0 (.layerCommit 1)
      (fun c d => ∀ x ∈ d.commitChecks (d.plan 1 (c.ses.mediator && c.act == 0) c.act) c.act, x.1 = false) ∧
    Can (.cartWrite h0 7 0x6DFFF [1]) h0 (.cartWrite 7 0x6DFFF [1])
      (fun c d => 7 < 8 ∧ d.present (4 + plateOf 7) = true ∧ c.ownsCart d 7 = true ∧ 0x6DFFF + ([1] : Bytes).length ≤ 0x6E000 ∧
        ∀ b ∈ d.cartBanks 7, ∀ r ∈ d.cartRects 7 b, min ((rectRange r).1 + (rectRange r).2) (0x6DFFF + ([1] : Bytes).length) ≤ max (rectRange r).1 0x6DFFF) ∧
    Can (.cartLut h0 7 1 (List.replicate 256 0)) h0 (.cartLut 7 1 (List.replicate 256 0))
      (fun c d => 7 < 8 ∧ d.present (4 + plateOf 7) = true ∧ c.ownsCart d 7 = true ∧ 1 ≤ 1 ∧ (List.replicate 256 0).length = 256 ∧
        ∀ b ∈ d.cartBanks 7, bits (d.cartCtl 7 b) 31 31 ≠ 1) ∧
    Can (.cartGlyph h0 7 1 (List.replicate 16384 0)) h0 (.cartGlyph 7 1 (List.replicate 16384 0))
      (fun c d => 7 < 8 ∧ d.present (4 + plateOf 7) = true ∧ c.ownsCart d 7 = true ∧ 1 ≤ 1 ∧ (List.replicate 16384 (0 : Byte)).length = 16384 ∧
        ∀ b ∈ d.cartBanks 7, bits (d.cartCtl 7 b) 30 30 ≠ 1) ∧
    Can (.cartDesc h0 7 1 1 [2 ^ 30 + 2 ^ 20]) h0 (.cartDesc 7 1 1 [2 ^ 30 + 2 ^ 20])
      (fun c d => 7 < 8 ∧ d.present (4 + plateOf 7) = true ∧ c.ownsCart d 7 = true ∧ 1 ≤ 1 ∧ 1 ∉ d.cartBanks 7 ∧ bits 1 3 0 ≤ 8 ∧
        [2 ^ 30 + 2 ^ 20].length = bits 1 3 0 ∧ bits 1 63 48 % 32 = 0 ∧ bits 1 47 32 % 32 = 0 ∧
        ∀ w ∈ [2 ^ 30 + 2 ^ 20], 1 ≤ bits w 39 30 ∧ bits w 39 30 ≤ 960 ∧ 1 ≤ bits w 29 20 ∧ bits w 29 20 ≤ 540) ∧
    Can (.cartCommit h0 128 1) h0 (.cartCommit 128 1)
      (fun c d => 128 % 256 ≠ 0 ∧ 1 ≤ 1 ∧ ∀ o ∈ outsOf 128, d.present (4 + plateOf o) = true ∧ c.ownsCart d o = true ∧ d.cartFits o 1 = true) := by
  refine ⟨can0 ?_ ?_, can0 ?_ ?_, can0 ?_ ?_, can0 ?_ ⟨?_, ?_, ?_, ?_, List.length_replicate, ?_⟩, can0 ?_ ?_, can (devOut {}) ses0 ?_ ?_ ?_⟩ <;>
    first | decide +kernel | (unfold Goals.Ready; decide +kernel)

/-- Band 11 is composed. -/
def banded : Output := { bandsDone := [0, 11], bandCheck := [(0, 5)] }

/-- Plate 3 has failed over, its reset done. -/
def devBack : Dev := { devOut banded with plates := [(3, { failover := true, resetDone := true, run := 600 })], dps := [(7, { up := true })] }

theorem wit_FrameCommandsComplete :
    Quiet (devOut {}) ∧ ((devOut {}).out 7).raster = true ∧ (devOut {}).composes 7 = true ∧ (devOut {}).plateComposes 7 = true ∧ (devOut {}).chain.role = 0 ∧
    ((devOut {}).out 7).stopping = false ∧ ((devOut {}).out 7).offNext = false ∧ ((devOut {}).plate (plateOf 7)).backAtFrame = false ∧
    (((devOut {}).out 7).barrierHold = false ∧ 11 ∉ ((devOut {}).out 7).heldBands ∧ 11 < (devOut {}).bands 7 ∧ 11 ∉ ((devOut {}).out 7).bandsDone) ∧
    (10 + 1 < (devOut {}).bands 7 ∧ 10 ∉ ((devOut {}).out 7).bandsDone) ∧
    (0 + 1 < (devOut banded).bands 7 ∧ 0 ≠ ((devOut { banded with glyphBand := 3 }).out 7).glyphBand ∧ 0 ∈ ((devOut { banded with glyphBand := 3 }).out 7).bandsDone ∧
      0 ∉ ((devOut { banded with glyphBand := 3 }).out 7).heldBands ∧ (devOut banded).flt.safe = false) ∧
    Instr.wellFormed (.sinkCrcReadback 7 [1, 2, 3] [1, 2, 3, 4, 5, 6]) = true ∧ (devBack.put .datSinkCrcEn 7 1).flag .datSinkCrcEn 7 0 = true ∧
    (devBack.dp 7).up = true ∧ (devBack.out 7).unwitnessed = false ∧
    ((devOut banded).spareOk = true ∧ (devOut banded).bench.standIn = none ∧ (devOut banded).bench.stage = 0 ∧ (devOut banded).comparable 7 = true ∧
      (devOut banded).bandValue 7 11 = some 0 ∧ (devOut banded).bandValue 7 0 = some 5) ∧
    (devBack.plate 3).failover = true ∧ (devBack.plate 3).resetDone = true ∧ devBack.inReset 3 = false ∧ plateOf 7 = 3 ∧ devBack.composes 7 = true ∧
    devBack.bandValue 7 0 = some 5 ∧ devBack.get .pltFailbackN ≤ (devBack.plate 3).run := by
  unfold Quiet; decide +kernel

/-! ### Encode engines and the witness recorder (08) -/

/-- A picture that waits to be coded. -/
def wpend : WPend := { frame := 1, ref := 0, flags := 0, wlevel := 0, epoch := 0, sections := [], due := true }

/-- A record that waits to be signed. -/
def wrec : WRec := { rseq := 5, type := 1, bytes := [], chain := zeros 48, signed := true, sent := false, au := false, at_ := 0 }

/-- Recorder 7. -/
def devWit (w : Wit) : Dev := Dev.put { devOut {} with wits := [(7, { w with started := true, rseq := 0xFFFFFFFE })], mons := [(7, { running := true })] } .encMonCfg 7 (2 ^ 63)

theorem wit_WitnessCommandsComplete :
    ((devWit { ckptPending := some ⟨0, 1, []⟩, writeB := true }).wit 7).ckptPending = some ⟨0, 1, []⟩ ∧
    ((devWit { ckptPending := some ⟨0, 1, []⟩, writeB := true }).wit 7).writeB = true ∧ ((devWit { ckptPending := some ⟨0, 1, []⟩ }).wit 7).writeB = false ∧
    ((devWit { recs := [wrec] }).wit 7).recs = [wrec] ∧ wrec.signed = true ∧ wrec.sent = false ∧
    ((devWit { pend := [wpend] }).wit 7).pend = [wpend] ∧ wpend.due = true ∧ wpend.gapCode = 0 ∧ ((devWit {}).wit 7).started = true ∧
    ((devWit {}).wit 7).rseq < 0xFFFFFFFF ∧ (1 ≤ 4 ∧ 4 ≤ 4) ∧ (devWit {}).monEn 7 = true ∧ ((devWit {}).mon 7).running = true ∧ ((devWit {}).wit 7).lost = false ∧
    Can (.witnessQuery h0 7) h0 (.witnessQuery 7) (fun c _ => c.partner = true ∧ 7 < 8) := by
  refine ⟨?_, ?_, ?_, ?_, ?_, ?_, ?_, ?_, ?_, ?_, ?_, ?_, ?_, ?_, ?_, can0 ?_ ?_⟩ <;> decide +kernel

theorem wit_RecordsFormAChain : ((devWit {}).wit 7).started = true ∧ ((devWit {}).wit 7).rseq < 0xFFFFFFFF := by decide +kernel

theorem wit_PictureFitsItsCap :
    (∀ r ∈ [({ header := 256, blocks := [(400, 300, 16, true)] } : CodedRow)], r.header ≤ 256 ∧ ∀ b ∈ r.blocks, b.2.2.1 ≤ 16) ∧
    rowsReserve 16 [{ header := 256, blocks := [(400, 300, 16, true)] }] ≤ rowsReserve 16 [{ header := 256, blocks := [(400, 300, 16, true)] }] := by
  decide +kernel

/-! ### The Bushel scheduler and device states (09, 18) -/

/-- The device on its way to or from NIGHT. -/
def devPow (st : PowSt) (phase : Nat) : Dev := { dev0 with bsh := { st, phase } }

theorem wit_SchedulerCommandsComplete :
    dev0.bsh.running = false ∧ dev0.bsh.suspended = [] ∧ dev0.inNight = false ∧ (dev0.bsh.allow ≤ dev0.bsh.l + dev0.bsh.a) ∧
    (dev0.bsh.bFrame / 4 ≤ dev0.bsh.debt) ∧ ({ dev0 with bsh := { allow := 1 } } : Dev).bsh.l + ({ dev0 with bsh := { allow := 1 } } : Dev).bsh.a < ({ dev0 with bsh := { allow := 1 } } : Dev).bsh.allow ∧
    (({ dev0 with bsh := { bFrame := 8 } } : Dev).bsh.debt < ({ dev0 with bsh := { bFrame := 8 } } : Dev).bsh.bFrame / 4) ∧
    (dev0.bsh.l + dev0.bsh.a + ((0 : Nat) : Rat) / 1000 ≤ dev0.bsh.allow) ∧ (dev0.bsh.allow < dev0.bsh.l + dev0.bsh.a + ((1 : Nat) : Rat) / 1000) ∧
    (∀ k < 12, (-2 : Int) ^ 15 ≤ (fun _ => 115 * 16 - 1 : Nat → Int) k ∧ (fun _ => 115 * 16 - 1 : Nat → Int) k < 115 * 16) ∧
    Instr.wellFormed (.thermalSample ((List.range 12).map fun _ => some (115 * 16 - 1))) = true := by decide +kernel

theorem wit_PowerCommandsComplete_commands :
    Can (.powerState h0 2) h0 (.powerState 2)
      (fun c d => c.ses.mediator = true ∧ (2 = 1 ∨ 2 = 2) ∧ (2 = 2 → ∀ n ∈ tenNumbers, d.tenExists n = false) ∧
        d.sec.service = none ∧ d.acting = false ∧ d.bsh.st = .active) ∧
    Can (.powerState h0 0) h0 (.powerState 0)
      (fun c d => c.ses.mediator = true ∧ d.sec.service = none ∧ (d.bsh.st = .enterNight ∨ d.bsh.st = .enterStandby)) := by
  refine ⟨can0 ?_ ?_, can (devPow .enterStandby 0) ses0 ?_ ?_ ?_⟩ <;> first | decide +kernel | (unfold Goals.Ready; decide +kernel)

theorem wit_PowerCommandsComplete_steps :
    Quiet (devPow .enterNight 2) ∧ (devPow .enterNight 2).bsh.st = .enterNight ∧ (devPow .enterNight 2).bsh.cmd = none ∧ (devPow .enterNight 2).bsh.phase = 2 ∧
    Quiet (devPow .enterNight 3) ∧ (devPow .enterNight 3).bsh.wakeQueued = false ∧ (devPow .enterNight 3).bsh.queued = [] ∧ Quiet (devPow .waking 1) ∧
    (devPow .waking 1).sup.target = none ∧ Quiet (devPow .night 4) ∧ ((devPow .night 4).put .bshWakeMs 0 1).get .bshWakeMs ≠ 0 ∧
    ({ dev0 with sup := { target := some 750 } } : Dev).sup.target = some 750 ∧ (97 * 750 ≤ 100 * 728 ∧ 100 * 772 ≤ 103 * 750) := by
  unfold Quiet; decide +kernel

theorem wit_ThermalBudgetStaysInRange :
    10000 ≤ dev0.bsh.host ∧ 10000 ≤ (dev0.put .bshCfg 0 (10000 * 2 ^ 48)).fld .bshCfg 0 63 48 ∧ dev0.bsh.suspended.length < 256 := by decide +kernel

/-! ### Tenancies (11) -/

/-- A grant of one ring, a colour and 64 MiB of host region at an address. -/
def grantAt (colour base : Nat) : Bytes := padTo 176 (u8 0 ++ u8 1 ++ u8 colour ++ zeros 5 ++ u64 base ++ u32 64)

/-- Tenancy 8 in a state, with its runs. -/
def devTen (x : Ten) : Dev := { dev0 with tens := [(8, { x with grant := grantAt 16 dramBase })] }

/-- A saved image of a tenancy of class 1 without sections; its digest and signature stay open. -/
def image0 : Bytes := padTo 464 (padTo 48 (u32 0x31544E49 ++ u8 1 ++ u8 1 ++ u16 0 ++ u32 464) ++ grantAt 16 dramBase)

/-- The command that a run answers. -/
def runOf (job : TenJob) (phase : Nat) : TenRun := { job, cmds := [(0, 7, 1)], phase }

theorem wit_TenancyCommandsComplete_create :
    Can (.tenancyCreate h0 8 2 (padTo 208 (grantAt 16 dramBase))) h0 (.tenancyCreate 8 2 (padTo 208 (grantAt 16 dramBase)))
      (fun c d => c.ses.mediator = true ∧ 1 ≤ 8 ∧ 8 ≤ 8 ∧ d.tenTaken 8 = false ∧ 2 ≤ 2 ∧ (padTo 208 (grantAt 16 dramBase)).length = 208 ∧
        (2 = 0 → ∀ m ∈ tenNumbers, d.tenTaken m = true → (d.ten m).cls ≠ 0) ∧ ∀ x ∈ d.grantChecks 8 2 ((padTo 208 (grantAt 16 dramBase)).take 176), x.1 = false) ∧
    Can (.tenancyConfigure h0 8 (grantAt 16 dramBase)) h0 (.tenancyConfigure 8 (grantAt 16 dramBase))
      (fun c d =>
        let old := (d.ten 8).grant
        let same := fun (k len : Nat) => gf (grantAt 16 dramBase) k len = gf old k len
        c.ses.mediator = true ∧ 1 ≤ 8 ∧ 8 ≤ 8 ∧ ((d.ten 8).st = .active ∨ (d.ten 8).st = .frozen) ∧ same 0 1 ∧ same 2 1 ∧ same 8 8 ∧ same 16 4 ∧ same 20 4 ∧
        same 3 1 ∧ same 25 1 ∧ same 26 1 ∧ same 27 1 ∧ same 28 4 ∧ (∀ x ∈ d.grantChecks 8 (d.ten 8).cls (grantAt 16 dramBase), x.1 = false) ∧
        d.grantInUse 8 (grantAt 16 dramBase) = false) := by
  refine ⟨can0 ?_ ?_, can (devTen { st := .active }) ses0 ?_ ?_ ?_⟩ <;> first | decide +kernel | (unfold Goals.Ready; decide +kernel)

theorem wit_TenancyCommandsComplete_rest :
    Can (.tenancyReset h0 8 1) h0 (.tenancyReset 8 1)
      (fun c d => c.ses.mediator = true ∧ 1 ≤ 8 ∧ 8 ≤ 8 ∧ 1 ≤ 1 ∧ ((d.ten 8).st = .active ∨ (d.ten 8).st = .frozen) ∧ (d.ten 8).runs = []) ∧
    Can (.tenancyRemove h0 8 0) h0 (.tenancyRemove 8 0)
      (fun c d => c.ses.mediator = true ∧ 1 ≤ 8 ∧ 8 ≤ 8 ∧ 0 ≤ 1 ∧ ((d.ten 8).st = .active ∨ (d.ten 8).st = .frozen ∨ (d.ten 8).st = .incomplete) ∧
        (d.ten 8).runs = []) ∧
    Can (.tenancyFreeze h0 8) h0 (.tenancyFreeze 8) (fun c d => c.ses.mediator = true ∧ 1 ≤ 8 ∧ 8 ≤ 8 ∧ (d.ten 8).st = .active ∧ (d.ten 8).runs = []) ∧
    Can (.tenancySave h0 8 0x800000000000 2097152) h0 (.tenancySave 8 0x800000000000 2097152)
      (fun c d => c.ses.mediator = true ∧ 1 ≤ 8 ∧ 8 ≤ 8 ∧ (d.ten 8).st = .frozen) ∧
    Can (.tenancyThaw h0 8) h0 (.tenancyThaw 8)
      (fun c d => c.ses.mediator = true ∧ 1 ≤ 8 ∧ 8 ≤ 8 ∧ (d.ten 8).st = .frozen ∧ (d.ten 8).restored = false ∧ d.ses (0x10 + 8) = none) := by
  refine ⟨can (devTen { st := .active }) ses0 ?_ ?_ ?_, can (devTen { st := .incomplete }) ses0 ?_ ?_ ?_, can (devTen { st := .active }) ses0 ?_ ?_ ?_,
    can (devTen { st := .frozen }) ses0 ?_ ?_ ?_, can (devTen { st := .frozen }) ses0 ?_ ?_ ?_⟩ <;> first | decide +kernel | (unfold Goals.Ready; decide +kernel)

/-- Padding gives its length. -/
theorem padTo_length (n : Nat) (b : Bytes) : (padTo n b).length = n := by simp [padTo]

/-- What TENANCY_SAVE further asks holds of the image of tenancy 8. -/
theorem wit_TenancyCommandsComplete_save :
    let d := devTen { st := .frozen }
    d.inWindowOf 0 0x800000000000 (d.tenImage 8).length = true ∧ (d.tenImage 8).length ≤ 2097152 := by
  have h : ((devTen { st := .frozen }).tenImage 8).length = 464 := by
    have e : (devTen { st := .frozen }).imgSections 8 = [] := by decide +kernel
    unfold Dev.tenImage
    rw [e]
    simp only [List.length_append, padTo_length, List.flatMap_nil, List.length_nil]
    decide +kernel
  dsimp only
  rw [h]
  decide +kernel

/-- What TENANCY_RESTORE asks of an image beside its being genuine, which rests on the part's hash and signature functions (notes/assumptions/3.md). -/
theorem wit_TenancyCommandsComplete_restore :
    dev0.tenTaken 8 = false ∧ dev0.inWindowOf 0 0x800000000000 464 = true ∧ padTo 464 image0 = image0 ∧
    parseImage image0 = some (1, 0, grantAt 16 dramBase, []) ∧ dev0.needsAbsent 0 = false ∧
    (∀ x ∈ dev0.grantChecks 8 1 (replant (grantAt 16 dramBase) dev0.freeColour (dev0.freeBase (grantSpan (grantAt 16 dramBase)).2)), x.1 = false) := by decide +kernel

theorem wit_TenancyWaitsComplete :
    ((devTen { st := .active, runs := [runOf .freeze 2] }).ten 8).run .freeze = some (runOf .freeze 2) ∧
    ((devTen { st := .resetting, runs := [runOf .reset 2] }).ten 8).run .reset = some (runOf .reset 2) ∧ (runOf .reset 2).phase = 2 ∧ (runOf .reset 2).mode = 0 ∧
    ({ devTen { st := .resetting, runs := [runOf .reset 2] } with orphans := [(0x18, 9, 1)] } : Dev).tenInFlight 8 ≠ [] ∧
    ((devTen { st := .resetting, runs := [runOf .reset 5] }).ten 8).run .reset = some (runOf .reset 5) ∧ (runOf .reset 5).removes = [] ∧
    ((devTen { st := .creating, runs := [runOf .create 1] }).ten 8).runs = [runOf .create 1] := by decide +kernel

theorem wit_TenancyMemoryIsFilledAndTagged : dev0.mem.wf = true := by decide +kernel

theorem wit_GrantsThatClashAreRefused :
    gb (grantAt 16 pool) 2 = gb (grantAt 16 dramBase) 2 ∧ spansMeet (grantSpan (grantAt 17 (dramBase + 62 * 2 ^ 20))) (grantSpan (grantAt 16 dramBase)) = true ∧
    8 ∈ tenNumbers ∧ (devTen {}).tenTaken 8 = true ∧ ((devTen {}).ten 8).grant = grantAt 16 dramBase := by decide +kernel

/-! ### The console (12) -/

/-- Front-end 3 scans 80 by 48 nodes with the reset thresholds, its baseline 1,000 at node (79, 47). -/
def devCon (fe : FrontEnd) : Dev :=
  Dev.put (Dev.put { dev0 with
      fes := [(3, { fe with enabled := true }), (4, { enabled := true })],
      haps := [(7, { queue := [⟨1, 2, 3⟩] })], aud := { alertActive := true, emptySince := some 0 } }
    .grtFeCfg 3 (setBits (setBits (dev0.get .grtFeCfg) 57 52 48) 51 45 80)) .hapCfg 7 (2 ^ 31 + 2 ^ 29)

/-- The device with both audio ports enabled. -/
def devAud : Dev := (devCon {}).put .audPortCfg 0 (2 ^ 31) |>.put .audPortCfg 1 (2 ^ 31 + 2 * 2 ^ 27)

/-- A contact at rest. -/
def contact9 : Contact := { id := 9, sense := 1, drive := 1, x := 64, y := 64, z := 5, ax := 64, ay := 64, at_ := 0, recipient := some 8, region := 0 }

theorem wit_ConsoleCommandsComplete :
    Can (.touchRecalibrate h0 15 0) h0 (.touchRecalibrate 15 0) (fun c d => d.present 19 = true ∧ c.ses.mediator = true ∧ c.act = 0 ∧ 0 < 15 ∧ 15 < 16) ∧
    Can (.hapticPlay h0 7 7 65535 255) h0 (.hapticPlay 7 7 65535 255)
      (fun c d => d.present 18 = true ∧ 7 < 8 ∧ c.owns (d.hapOwner 7) = true ∧ 7 ≤ 7 ∧ d.flag .hapCfg 7 31 = true ∧ (d.hap 7).queue.length < 4 ∧
        d.quarantined 0x0E 7 = false) ∧
    ((devCon {}).hap 7).queue = [⟨1, 2, 3⟩] ∧ ((devCon {}).hap 7).openLoop = false ∧ (devCon {}).flag .hapCfg 7 29 = true ∧ (devCon {}).flag .hapCfg 7 30 = false ∧
    (((devCon { contacts := [contact9] }).fe 3).contacts.find? fun c => c.id == 9 && !c.stuck) = some contact9 ∧ contact9.recipient = some 8 ∧
    (Quiet (devCon {}) ∧ (devCon {}).feScans 4 = true ∧ ((devCon {}).fe 4).suspect = false ∧ ((devCon {}).fe 4).contacts = [] ∧ ((devCon {}).fe 4).recal = 0 ∧
      ((devCon {}).fe 4).firstScan = false ∧ ((devCon {}).fe 4).frames % 2 = 0 ∧ (∀ g < 16, bits ((devCon {}).get .grtSelfGroup g) 14 13 = 0) ∧
      0 < touchTh ((devCon {}).get .grtSelfCfg)) ∧
    (devPow .night 4).inNight = true ∧ devAud.inNight = false ∧ devAud.inService 0x0F = true ∧ devAud.alertHolder = 0 ∧
    portSlots 0 (devAud.get .audPortCfg 0) ≠ [] ∧ portSlots 1 (devAud.get .audPortCfg 1) ≠ [] ∧ devAud.aud.alertActive = true ∧ devAud.aud.emptySince.isSome = true := by
  refine ⟨can0 ?_ ?_, can (devCon {}) ses0 ?_ ?_ ?_, ?_⟩ <;> first | decide +kernel | (unfold Goals.Ready; decide +kernel) | (unfold Quiet; decide +kernel)

theorem wit_ContactsStartAndEnd :
    let d := devCon { base := [(nodeKey 79 47, 2000)], starting := [nodeKey 79 47] }
    let n : Node := ⟨79, 47, 0⟩
    let cfg := d.get .grtFeCfg 3
    let k := nodeKey n.sense n.drive
    let delta := (d.fe 3).baseOf (d.fe 3).freq k - n.value
    Quiet d ∧ d.feScans 3 = true ∧ (d.fe 3).suspect = false ∧ (d.fe 3).firstScan = false ∧ (d.fe 3).recal = 0 ∧
    n.sense < bits cfg 51 45 ∧ n.drive < bits cfg 57 52 ∧ 4 ≤ bits cfg 51 45 * bits cfg 57 52 ∧ releaseTh cfg < touchTh cfg ∧ touchTh cfg ≤ delta ∧
    k ∈ (d.fe 3).starting ∧ (d.fe 3).contacts = [] := by unfold Quiet; decide +kernel

theorem wit_AlertPassesTheMixer :
    ((0 : Int) : Rat) * (if 1023 = 1023 then 0 else gain (1023 + min 0 120)) ≤ fullScale ∧
    -fullScale ≤ ((0 : Int) : Rat) * (if 1023 = 1023 then 0 else gain (1023 + min 0 120)) := by
  simp only [if_pos, Rat.mul_zero]; decide +kernel

/-! ### Memory (13) -/

/-- Master 15 reads and writes every page by its region 31, except page 0x100001, which its region 0 closes; masters 14 and 23 have no region. -/
def devMem : Dev :=
  let m : MemSys := { trained := true, cells := [(0x1000000000, 7)], poison := [(0x1000000000, false)] }
  { dev0 with mem := { m with regions := [(15 * 32, regionWord 0x1000001 0x1000001 false false 1), (15 * 32 + 31, regionWord 0 (2 ^ 36 - 1) true true 1)] } }

/-- Address 0x1000000000 is the first of DRAM; the last beat of the last channel's last block is not scrubbed here. -/
theorem wit_MemoryAccessesComplete :
    let s := st devMem
    let a := 0x1000000000
    Quiet s.dev ∧ s.dev.mem.wf = true ∧ s.dev.detached 15 = false ∧
    (Instr.wellFormed (.memRead 15 a 2048 0 0 false .clean) = true ∧ a % 2048 + 2048 ≤ 2048 ∧
      s.dev.checkPage 15 (a / 4096) .read (claimOf 15 0) = .allow ∧ s.dev.checkPage 15 (a / 4096) .write (claimOf 15 0) = .allow ∧
      s.dev.targetOf a = 5 ∧ s.dev.targetOf (a + 6144) = 8 ∧ (s.dev.chan (s.dev.targetOf a - 5)).faulted = false ∧
      (∀ b ∈ beatsOf a 4, s.dev.poisoned b = false)) ∧
    (s.dev.checkPage 15 0x1000001 .read 0 = .deny 0 false ∧ s.dev.checkPage 15 0x1000001 .write 0 = .deny 0 false ∧
      s.dev.checkPage 14 0 .read 0 = .deny 63 false) ∧
    (s.dev.targetOf 0xFFFFFFFFF = 11 ∧ s.dev.targetOf 0x1800000000 = 11 ∧ s.dev.checkPage 15 (0x1800000000 / 4096) .read (claimOf 15 5) = .allow) ∧
    (Instr.wellFormed (.memWrite 15 (a + 2047) 63 [1] false) = true ∧ (a + 2047) % 2048 + 1 ≤ 2048) := by
  unfold Quiet; decide +kernel

/-- Channel 3 has put off four refreshes and output 7 is in panic. -/
def devPanic : Dev := { devMem with mem := { devMem.mem with panics := [7], chans := [(3, { postponed := 4 }), (2, { postponed := 3 })], cartBad := [0x20000008] } }

theorem wit_MemoryUpkeepCompletes :
    (devMem.mem.trained = true ∧ devMem.mem.panics = [] ∧ devPanic.mem.panics ≠ [] ∧ (devPanic.chan 2).postponed < 4 ∧ ¬(devPanic.chan 3).postponed < 4) ∧
    Instr.wellFormed (.zqCalibration 3 1) = true ∧ (7 ∉ devMem.mem.panics) ∧ (∀ p ∈ devPanic.mem.panics, p = 7) ∧
    bit (devMem.get .memDramCfg) 56 = true ∧ bit (devMem.get .memDramCfg) 55 = true ∧
    (let a := 0x1000000000;
      Instr.wellFormed (.patrolScrub a .corrected) = true ∧ 5 ≤ devMem.targetOf a ∧ devMem.targetOf a ≤ 8 ∧ devMem.poisoned (a / 4 * 4) = false ∧
      a / 64 * 64 ≠ dramBase + devMem.dramBytes - (4 - (devMem.targetOf a - 5)) * 2048 + 1984) ∧
    (Instr.wellFormed (.chartScrub 0x12FFFFFF .lasting) = true ∧ devMem.targetOf 0x12FFFFFF = 1 ∧ privateBlock 0x12FFFFFF = none) ∧
    (devMem.targetOf 0x10000000 = 1 ∧ privateBlock 0x10000000 = some 0) ∧
    (Instr.wellFormed (.cartScrub 0x20000009 .lasting) = true ∧ devMem.targetOf 0x20000009 = 2) ∧
    (Instr.wellFormed (.cartoucheRepair 0x2000000F) = true ∧ 0x2000000F / 8 * 8 ∈ devPanic.mem.cartBad) ∧
    (let d := { devMem with mem := { devMem.mem with trained := false } };
      Instr.wellFormed (.dramTraining true (-40)) = true ∧ d.mem.trained = false ∧ d.rst.stage = .idle ∧ d.rst.maintenance = false ∧
      dramGibOf (d.get .memDramCfg) ≠ none ∧ bit d.rst.pllGood 4 = true) := by
  refine ⟨?_, ?_, ?_, ?_, ?_, ?_, ?_, ?_, ?_, ?_, ?_, ?_⟩ <;> decide +kernel

theorem wit_TagsAndRegionsComplete :
    Instr.wellFormed (.tagRetag 0x1000000 0x1000001 63 false) = true ∧ devMem.targetOf (0x1000001 * 4096) = 5 + 2 ∧
    devMem.targetOf (0x10000 * 4096) = 1 ∧ Instr.wellFormed (.remapWrite 23 1) = true ∧ Instr.wellFormed (.bndCommit 0 (2 ^ 24 - 1)) = true := by decide +kernel

/-- The first region that holds page 0x1000001 is region 0, and every page lies in region 31; no region of master 14 holds any. -/
theorem wit_FirstMatchingRegionDecides :
    let hit := fun (m page q : Nat) => bit (devMem.bndRegion m q) 55 = true ∧ bits (devMem.bndRegion m q) 91 56 ≤ page ∧ page ≤ bits (devMem.bndRegion m q) 127 92
    hit 15 0x1000001 0 ∧ hit 15 0x1000000 31 ∧ (∀ q < 31, ¬hit 15 0x1000000 q) ∧ ∀ q < 32, ¬hit 14 0x1000000 q := by decide +kernel

theorem wit_DeniedWritesReachNoMemory :
    Quiet devMem ∧ Instr.wellFormed (.memWrite 14 0x1000000400 0 (zeros 4096) false) = true ∧
    ∀ p ∈ partsOf 0x1000000400 4096, devMem.checkPage 14 (p.1 / 4096) .write (claimOf 14 0) ≠ .allow := by
  unfold Quiet; decide +kernel

theorem wit_ViolationQueue :
    devMem.mem.viol.length < 16 ∧ 16 ≤ ({ devMem with mem := { devMem.mem with viol := List.replicate 16 { time := 0, addr := 0, master := 0, region := 0, kind := 0, claim := 0, tag := 0, epoch := 0 } } } : Dev).mem.viol.length ∧ devMem.mem.viol = [] := by
  decide +kernel

theorem wit_DramIsSpreadOverChannels :
    devMem.mem.trained = true ∧ dramGibOf (devMem.get .memDramCfg) = some 32 ∧ 0x001000000000 ≤ 0x001000000000 + 32 * 2 ^ 30 - 1 := by decide +kernel

theorem wit_CartoucheHasOneWritePath :
    let d := { devMem with mem := { devMem.mem with regions := [(1 * 32, regionWord 0x20000 0x203FF true true 1)] ++ devMem.mem.regions } }
    d.checkPage 15 (0x203FFFFF / 4096) .write (claimOf 15 0) = .allow ∧ d.checkPage 1 (0x203FFFFF / 4096) .write 0 = .allow ∧ Quiet d ∧
    0x203FFFFF + [(1 : Byte)].length ≤ 0x20400000 ∧ Instr.wellFormed (.memWrite 15 0x203FFFFF 0 [1] false) = true := by unfold Quiet; decide +kernel

/-! ### The external links (14) -/

/-- Port 7's link is up with one neighbour asked twice, one known and one frame that waits; port 0's is down, with a group. -/
def devEth : Dev :=
  Dev.put { dev0 with
      eths := [(0, { groups := [9] }), (7, { up := true, neigh := [(1, { attempts := 2 }), (2, { attempts := 3 }), (3, { mac := some 5 })], tx := [(0, .neighbourRequest 7 1)] })] }
    .lnkEthCfg 0 (2 ^ 63)

/-- Output 7's sink is connected; `t` tells whether its link trains. -/
def devDp (t : Bool) : Dev := { dev0 with dps := [(7, { hpd := true, training := t })] }

theorem wit_PortLinksComplete :
    (devEth.eth 7).up = true ∧
    (devEth.flag .lnkEthCfg 0 63 = true ∧ (devEth.eth 0).up = false ∧ devEth.inService 0x10 = true ∧ (devEth.eth 0).groups = [9]) ∧
    (((devEth.eth 7).entry 1).mac = none ∧ 0 < ((devEth.eth 7).entry 1).attempts ∧ ((devEth.eth 7).entry 1).attempts < 3) ∧
    (((devEth.eth 7).entry 2).mac = none ∧ 3 ≤ ((devEth.eth 7).entry 2).attempts) ∧
    (Instr.wellFormed (.neighborAgeOut 7 3) = true ∧ ((devEth.eth 7).entry 3).mac = some 5) ∧
    (devEth.eth 7).tx = (0, .neighbourRequest 7 1) :: [] ∧
    (((devDp false).dp 7).hpd = true ∧ ((devDp false).dp 7).up = false ∧ ((devDp false).dp 7).training = false) ∧
    (((devDp true).dp 7).training = true ∧ (devDp true).dpMayTrain 7 4 4 = true) ∧ Instr.wellFormed (.dpiLinkLoss 3) = true := by decide +kernel

/-- Both Mindanko ports are linked; port 1 is as given. -/
def devMdk (m : Mdk) : Dev := Dev.put { dev0 with mdks := [(0, { st := .idle }), (1, m)] } .mdkCfg 1 (2 ^ 31 + 2 ^ 22)

/-- A port with one frame out. -/
def mdkOut : Mdk := { st := .active, replay := [(65535, 1, [1])], expect := 65535, ackDue := true, nakOut := true, resends := 3, sinceAck := 6 }

theorem wit_MindankoCommandsComplete :
    let f : MdkFrame := { seq := 65535, ok := true, ftype := 1, body := [] }
    (∀ q < 2, ((devMdk mdkOut).mdk q).linked = true) ∧ (devMdk mdkOut).mdk 1 = mdkOut ∧
    (f.ok = true ∧ f.room = true ∧ f.seq % 65536 = mdkOut.expect ∧ mdkOut.sinceAck < 7) ∧
    (({ f with ok := false } : MdkFrame).ok = false ∧ ({ mdkOut with nakOut := false } : Mdk).nakOut = false) ∧ mdkOut.waiting = [] ∧
    (∀ q < 2, ((devMdk { st := .active }).mdk q).linked = true) ∧ (devMdk { st := .active }).flag .mdkCfg 1 22 = true ∧
    (∀ q < 2, ((devMdk { st := .active, eidleSent := true }).mdk q).linked = true) ∧ (devMdk { st := .active, eidleSent := true }).chain.role = 0 ∧
    (∀ q < 2, ((devMdk { st := .idle }).mdk q).linked = true) ∧
    ((devMdk {}).flag .mdkCfg 1 31 = true ∧ (devMdk {}).inService (0x18 + 1) = true) ∧
    (((devMdk { st := .startup }).mdk 1).st = .startup ∧ ((devMdk { st := .startup }).mdk 1).rxUp = false ∧ ((devMdk { st := .startup }).mdk 1).commas = false ∧
      ((devMdk { st := .startup, commas := true }).mdk 1).commas = true) ∧
    ((devMdk { st := .recovery }).mdk 1).st = .recovery := by decide +kernel

theorem wit_MindankoKeepsOrder : ((devMdk mdkOut).mdk 1).linked = true ∧ ((devMdk mdkOut).mdk 1).st = .active := by decide +kernel

/-- Both endpoints' links are up with the least BAR2; tenancy 8 of endpoint 0 has its host region at the first byte of DRAM; a vector waits. -/
def devPcie : Dev :=
  { dev0 with
      pcies := [(0, { up := true, bar2Log := 20, pendingVec := [71] }), (1, { up := true, bar2Log := 20 })]
      tens := [(8, { st := .active, grant := grantAt 16 dramBase })]
      mem := { trained := true, regions := [(17 * 32, regionWord (dramBase / 4096) (dramBase / 4096 + 15) true true 2)], tags := [(dramBase / 4096, dramBase / 4096 + 15, 16)] } }

/-- A ring's configuration: the least queues, at the start of the outbound range. -/
def ring0 (en : Bool) : RingCfg := { sqBase := 2 ^ 46 - 512, cqBase := 0, sqLog2 := 4, cqLog2 := 4, msix := 7, en }

theorem wit_EndpointCommandsComplete :
    (devPcie.pcie 0).up = true ∧ devPcie.pageAssigned 0 15 = false ∧
    (20 ≤ (devPcie.pcie 1).bar2Log ∧ 131071 < 2 ^ (devPcie.pcie 1).bar2Log / 8 ∧ devPcie.apertureOpen 1 8 = false ∧ devPcie.mem.viol.length < 16) ∧
    Quiet devPcie ∧ devPcie.apertureOpen 0 8 = true ∧ devPcie.ownerColour 8 = 16 ∧
    (let x := devPcie.gLe 8 8 8 + 4095;
      devPcie.targetOf x = 6 ∧ x % 2048 + 1 ≤ 2048 ∧ devPcie.checkPage 17 (x / 4096) .read (claimOf 17 16) = .allow ∧
      (devPcie.chan 1).faulted = false ∧ (∀ b ∈ beatsOf x 1, devPcie.poisoned b = false)) ∧
    (Instr.wellFormed (.outboundReadTimeout 1 11) = true ∧ canReach 11 10 .read = true) ∧
    (let d : Dev := { dev0 with sessions := [] };
      d.rings = [] ∧ d.evtRings = [] ∧ d.sessions = [] ∧ Quiet d ∧ (d.pcie 1).up = false ∧ d.rst.stage = .idle ∧ d.inService (0x1A + 1) = true) ∧
    71 ∈ (devPcie.pcie 0).pendingVec ∧
    (3 < dev0.ringsGranted 0 0 ∧ (dev0.rng (0 * 16 * 8 + 3)).cfg.en = false ∧ dev0.inOutbound 0 (ring0 true).sqBase (32 * 2 ^ 4) = true ∧
      dev0.inOutbound 0 (ring0 true).cqBase (16 * 2 ^ 4) = true ∧ (ring0 true).sqBase % 64 = 0) := by unfold Quiet; decide +kernel

/-! ### Chains (15) -/

/-- A layout image of two positions without items or routes, but for its digest. -/
def layoutBody : Bytes := u32 0x314C5941 ++ u8 1 ++ u8 2 ++ u16 0 ++ u32 5 ++ u32 7 ++ u32 88 ++ zeros 4 ++ (u8 0 ++ zeros 7) ++ (u8 1 ++ zeros 7)

/-- The image with its digest, which the part's hash gives (notes/assumptions/3.md). -/
def layoutImage : Bytes := layoutBody ++ padTo 48 (Config.sha384 layoutBody)

theorem padTo_len (b : Bytes) : (padTo 48 b).length = 48 := by unfold padTo; simp

theorem layoutBody_len : layoutBody.length = 40 := by decide

theorem take_image (n : Nat) (h : n ≤ 40) : layoutImage.take n = layoutBody.take n := by
  unfold layoutImage
  rw [List.take_append_of_le_length (by rw [layoutBody_len]; exact h)]

theorem field_image (k n : Nat) (h : k + n ≤ 40) : (layoutImage.drop k).take n = (layoutBody.drop k).take n := by
  rw [List.take_drop, List.take_drop, take_image _ h]

theorem byte_image (k : Nat) (h : k < 40) : layoutImage.getD k 0 = layoutBody.getD k 0 := by
  unfold layoutImage
  rw [List.getD_append _ _ _ _ (by rw [layoutBody_len]; exact h)]

/-- The layout that the image spells. -/
def layout0 : Layout := { id := 7, ndev := 2, image := layoutImage, sections := [(0, 0, []), (1, 0, [])], routes := [] }

theorem parse_image : parseLayout layoutImage = some (layout0, 5) := by
  have hl : layoutImage.length = 88 := by unfold layoutImage; rw [List.length_append, layoutBody_len, padTo_len]
  have h5 : (layoutBody.getD 5 0).toNat = 2 := by decide
  have h4 : (layoutBody.getD 4 0).toNat = 1 := by decide
  have hr : leVal ((layoutBody.drop 6).take 2) = 0 := by decide
  have hn : leVal ((layoutBody.drop 16).take 4) = 88 := by decide
  have hi : leVal ((layoutBody.drop 12).take 4) = 7 := by decide
  have hc : leVal ((layoutBody.drop 8).take 4) = 5 := by decide
  have hm : leVal (layoutBody.take 4) = 0x314C5941 := by decide
  have hd : layoutImage.drop 40 = padTo 48 (Config.sha384 layoutBody) := by
    unfold layoutImage
    rw [List.drop_append_of_le_length (by rw [layoutBody_len]), List.drop_eq_nil_of_le (by rw [layoutBody_len]), List.nil_append]
  have ht : layoutImage.take 40 = layoutBody := by rw [take_image _ (by decide)]; decide
  have hs : layoutSections 2 (layoutBody.drop 24) = some ([(0, 0, []), (1, 0, [])], []) := by decide
  unfold parseLayout
  simp only [byte_image 5 (by decide), byte_image 4 (by decide), field_image 6 2 (by decide), field_image 16 4 (by decide), field_image 12 4 (by decide),
    field_image 8 4 (by decide), take_image 4 (by decide), h5, h4, hr, hn, hi, hc, hm, hl]
  simp only [show (88 : Nat) - 48 = 40 from rfl, ht, hd, hs]
  simp [layout0]
  omega

/-- Position 0 of a chain, the acting Atlas with `n` devices in force, that hears position 1 by M1; the layout image lies at the start of DRAM. -/
def devChain (c : Chain) : Dev :=
  { dev0 with chain := { c with chainId := 5, inService := [1], hops := [(1, 1, 1, 2, 0)] }
              mem := { trained := true, tags := [(dramBase / 4096, dramBase / 4096, 5)] }
              mdks := [(0, { st := .active }), (1, { st := .active })] }

/-- The acting Atlas. -/
def chainA : Chain := { role := 1, acting := some 0 }

/-- The same device with the image in memory. -/
def devLayout : Dev := (devChain chainA).poke dramBase layoutImage

theorem peek_layout : devLayout.peekN dramBase 88 = layoutImage := by
  have hl : layoutImage.length = 88 := by unfold layoutImage; rw [List.length_append, layoutBody_len, padTo_len]
  unfold Dev.peekN devLayout
  apply List.ext_getElem
  · simp [hl]
  · intro i h1 h2
    simp only [List.length_map, List.length_range] at h1
    simp only [List.getElem_map, List.getElem_range, Dev.poke_get]
    rw [if_pos ⟨by omega, by omega⟩, Nat.add_sub_cancel_left, List.getD_eq_getElem _ _ h2]

theorem layout_rest (cells : List Host.Cell) :
    let d : Dev := { devChain chainA with mem := { (devChain chainA).mem with cells } }
    let op : IcpOp := .chainLayout dramBase 88
    Ready d h0 op ses0 ∧ (issuer h0 op ses0).ses.mediator = true ∧ (taken d h0 op ses0).acting = true ∧
    (taken d h0 op ses0).allTagged dramBase 88 ((taken d h0 op ses0).ownerColour (issuer h0 op ses0).act) = true ∧ (taken d h0 op ses0).chain.run = none ∧
    (taken d h0 op ses0).chain.chainId = 5 ∧ (taken d h0 op ses0).layoutId = 0 ∧ (∀ p < 2, (taken d h0 op ses0).reaches p = true) ∧
    ((taken d h0 op ses0).routesOk layout0).1 = true ∧ (∀ a n, (taken d h0 op ses0).peekN a n = d.peekN a n) := by
  unfold Goals.Ready
  refine ⟨⟨?_, ?_, ?_, ?_, ?_, ?_, ?_, ?_, ?_, ?_, ?_, ?_, ?_, ?_, ?_, ?_, ?_, fun _ => ?_⟩, ?_, ?_, ?_, ?_, ?_, ?_, ?_, ?_, fun _ _ => ?_⟩ <;>
    first
      | rfl
      | exact of_decide_eq_true (Eq.refl true)
      | exact (by decide +kernel : 6 ≤ 0 ∨ (devChain chainA).flag .sesPortCfg 0 63 = true)
      | exact (by decide +kernel : (devChain chainA).allTagged dramBase 88 5 = true)

theorem wit_ChainCommandsComplete_layout :
    let op : IcpOp := .chainLayout dramBase 88
    let c := issuer h0 op ses0
    let d := taken devLayout h0 op ses0
    Ready devLayout h0 op ses0 ∧ c.ses.mediator = true ∧ d.acting = true ∧ d.allTagged dramBase 88 (d.ownerColour c.act) = true ∧ d.chain.run = none ∧
    parseLayout (d.peekN dramBase 88) = some (layout0, d.chain.chainId) ∧ layout0.id ≠ d.layoutId ∧ (∀ p < layout0.ndev, d.reaches p = true) ∧
    (d.routesOk layout0).1 = true := by
  have e : devLayout = { devChain chainA with mem := { (devChain chainA).mem with cells := devLayout.mem.cells } } := Dev.poke_frame _ _ _
  have hp := peek_layout
  generalize devLayout.mem.cells = cells at e
  generalize devLayout = d at e hp
  subst e
  obtain ⟨r, m, a, t, n, i, l, p, q, k⟩ := layout_rest cells
  refine ⟨r, m, a, t, n, ?_, ?_, p, q⟩
  · rw [i, k, hp, parse_image]
  · rw [l]; decide

/-- A GO for the wall frame. -/
def go0 : Go := { frame := 0, apply := 0, inForce := 0, exclude := 0, ndev := 0, last := false, original := true, barrier := 0, step := 0, src := 9 }

/-- A READY that waits. -/
def ready0w : Machine.Ready := { frame := 0, staged := 0, inForce := 0, flags := 4, status := 0 }

theorem wit_ChainCommandsComplete :
    Can (.chainRole h0 3 31 (2 ^ 32 - 1)) h0 (.chainRole 3 31 (2 ^ 32 - 1))
      (fun c d => (d.present 15 = true ∨ d.present 16 = true) ∧ c.ses.mediator = true ∧ 31 ≤ 31 ∧ 3 ≤ 3 ∧ (2 ^ 32 - 1 = 0 → 3 = 0)) ∧
    Can (.chainQuery h0 0) h0 (.chainQuery 0) (fun c d => c.partner = true ∧ (d.acting = true → 0 < d.ndev)) ∧
    (let d := devChain { chainA with position := 1, role := 2, acting := none };
      Quiet d ∧ d.chain.role ≠ 0 ∧ (∀ p < 2, (d.mdk p).linked = true) ∧ (∀ n ∈ sourceNumbers, d.mirrorRoute n = none) ∧
      d.faces 0 0 = true ∧ 0 ≠ d.chain.position ∧ d.faces 1 2 = true ∧ d.faces 1 0 = true ∧
      ({ d with chain := { d.chain with inService := [] } } : Dev).chain.inService = []) ∧
    (let d := devChain chainA;
      1 ∈ d.chain.inService ∧ 1 ≠ d.chain.position ∧ d.acting = true ∧ d.pathTo 1 = some 1 ∧ goesOn (.summary 0 []) = true ∧
      d.ndev ≤ 2 * d.reachCount ∧ d.chain.run = none ∧ d.reaches 1 = true) ∧
    (let d := devChain { chainA with bids := [(9, 255, 0)] }; ∃ t, (9, 255, t) ∈ d.chain.bids ∧ d.tim.elapsed ≤ t + 100000000) ∧
    (let d := devChain { chainA with acting := some 1, position := 0 }; d.acting = false ∧ d.chain.acting = some 1 ∧ 1 ≠ d.chain.position ∧ d.chain.standby = none) ∧
    (let d := devChain { chainA with inForce := some { layout0 with ndev := 32 } };
      2 * d.reachCount < d.ndev ∧
      bits (({ d with chain := { d.chain with fewRun := 65535 } } : Dev).barrierCfg) 19 16 ≤ ({ d with chain := { d.chain with fewRun := 65535 } } : Dev).chain.fewRun + 1) ∧
    (let d := devChain { chainA with role := 3, acting := none, go := some go0, goFrame := some 0 };
      Quiet d ∧ d.chain.ready = [] ∧ d.chain.stepPending = none ∧ d.chain.goFrame = some d.chain.wallFrame ∧ bit go0.exclude d.chain.position = false ∧
      d.chain.missed = false ∧ go0.step = 0 ∧ d.stagedId = 0 ∧ d.acting = false) ∧
    (devChain { chainA with role := 3, acting := none }).chain.goFrame = none ∧
    (devChain { chainA with listening := true }).chain.listening = true ∧
    (let d := devChain { chainA with role := 2, takeback := 65535, ready := [(1, ready0w)] };
      d.acting = true ∧ bits (d.get .mdkBarrierCfg) 15 3 ≤ d.chain.takeback ∧ ∃ r ∈ d.chain.ready, bit r.2.flags 2 = true) ∧
    (let d := devChain { chainA with exclRun := [(1, 600)], resetSent := [(1, 0)] };
      600 ≤ smGet 0 d.chain.exclRun 1 ∧ (∃ r ∈ d.chain.resetSent, r.1 = 1 ∧ d.tim.elapsed < r.2 + 60000000000) ∧
      ∀ r ∈ (devChain { chainA with exclRun := [(1, 600)] }).chain.resetSent, r.1 = 1 → r.2 + 60000000000 ≤ d.tim.elapsed) := by
  refine ⟨can0 ?_ ?_, can0 ?_ ?_, ?_, ?_, ?_, ?_, ?_, ?_, ?_, ?_, ?_, ?_⟩ <;>
    first | decide +kernel | (unfold Quiet; decide +kernel) | exact ⟨0, by decide +kernel⟩

/-! ### Resets (16) -/

/-- Two CORE resets within the last minute. -/
def devTwice : Dev := { dev0 with rst := { dev0.rst with coreTimes := [5, 5], aoTime := 9, halted := [3] } }

theorem wit_ResetSourcesComplete :
    dev0.rst.stage = .idle ∧ dev0.sec.service = none ∧ dev0.bsh.st ≠ .standby ∧ dev0.rst.waitSupply = false ∧
    ({ dev0 with bsh := { dev0.bsh with st := .standby } } : Dev).bsh.st = .standby ∧
    Instr.wellFormed (.watchdog 3) = true ∧ 3 ∉ dev0.rst.halted ∧ dev0.alive = true ∧ dev0.coreResets.length < 2 ∧
    Instr.wellFormed (.lockstep 1) = true ∧ 2 ≤ devTwice.coreResets.length ∧ Instr.wellFormed (.criticalState 5 2) = true ∧
    (let d : Dev := { dev0 with flt := { dev0.flt with safe := true } }; d.flt.safe = true ∧ d.rst.safeResetMs ≠ 0) ∧
    3 ∈ devTwice.rst.halted ∧ ({ dev0 with rst := { dev0.rst with safeResetMs := 0 } } : Dev).rst.safeResetMs = 0 := by decide +kernel

/-- A device at a place of the release of a reset. -/
def devRel (stage : RstStage) (level : Nat) : Dev := { dev0 with rst := { stage, level, wasLoading := level == 1 } }

/-- The same device while the options load: copy B, GENERATION 0, is newer than copy A's 2³² − 1. -/
def devOpt : Dev :=
  ((devRel .loading 1).poke (optAddr false) (optBytes (2 ^ 32 - 1) [0])).poke (optAddr true) (optBytes 0 [dev0.get .memDramCfg, 0x2020, 1 + 256 * 3 + 2 ^ 32 * 5])

theorem wit_ResetReleaseCompletes :
    (let d : Dev := { dev0 with sup := { supplyEn := true } }; d.sup.supplyEn = true ∧ d.sup.started = false) ∧
    ((devRel .stretch 3).rst.stage = .stretch ∧ (devRel .stretch 3).rst.thermalHold = false ∧ (devRel .stretch 3).rst.waitSupply = false ∧
      (devRel .stretch 3).rst.level = 3 ∧ (devRel .stretch 2).rst.wasLoading = false ∧ (devRel .stretch 1).rst.wasLoading = true) ∧
    ({ devRel .stretch 0 with rst := { (devRel .stretch 0).rst with thermalHold := true } } : Dev).rst.thermalHold = true ∧
    ((devRel .loading 0).rst.stage = .loading ∧ (devRel .loading 0).optUse = none) ∧
    (devOpt.rst.stage = .loading ∧ (devOpt.optUse.any fun u => decide (dramGibOf (u.2.2.getD 0 0) ≠ none ∧ bits (u.2.2.getD 2 0) 15 8 = 3 ∧ u.1 = true)) = true) ∧
    (Instr.wellFormed (.pllLock 6) = true ∧ ∀ b < 40, bit dev0.rst.deferRaised b = true → pllOf b ≠ 6) ∧
    (let d : Dev := { dev0 with rst := { dev0.rst with pllGood := 63, deferRaised := 2 ^ 23 } };
      Instr.wellFormed (.clockGoodTimeout 6) = true ∧ bit d.rst.pllGood 6 = false ∧ bit d.rst.deferRaised 23 = true ∧ pllOf 23 = 6) ∧
    (let d : Dev := { dev0 with rst := { dev0.rst with blkSrst := 2 ^ 23 + 2 ^ 11 } };
      Quiet d ∧ bit d.rst.blkSrst 23 = true ∧ d.blockPresent 23 = true ∧ (∀ c < 40, d.blockPresent c = false → bit d.rst.blkSrst c = true) ∧
      Instr.wellFormed (.blkSrstWrite (setBit d.rst.blkSrst 23 false)) = true ∧ bit d.rst.pllGood (pllOf 23) = true ∧
      bit ({ d with rst := { d.rst with pllGood := 63 } } : Dev).rst.pllGood (pllOf 23) = false) ∧
    (let d : Dev := { dev0 with rst := { dev0.rst with blkRun := [(39, true), (12, false)] } };
      Quiet d ∧ Instr.wellFormed (.blockResetDone 12) = true ∧ d.rst.blkRun.find? (·.1 == 12) = some (12, false) ∧ chartPart 12 ≠ none) := by
  unfold Quiet; decide +kernel

theorem wit_ResetsMerge : (devRel .stretch 2).rst.stage ≠ .idle ∧ (devRel .loading 3).rst.stage ≠ .idle := by decide

theorem wit_ResetReach :
    let d : Dev := { dev0 with sup := { supplyEn := true } }
    d.sec.service = none ∧ d.sup.supplyEn = true := by decide

/-! ### Faults (16) -/

/-- A fault of unit 0x0F that is handled, and one of plate 2. -/
def faultOf (unit severity : Nat) : FaultRec := { time := 0, unit, sub := 0, code := 1, severity, verdict := 0, epoch := 0, seq := 0 }

/-- A device that handles faults. -/
def devFlt (q : List FaultRec) : Dev := { dev0 with flt := { handling := true, queue := q, quar := [(0x0E, 7)] } }

theorem wit_FaultCommandsComplete :
    Can (.faultRead h0) h0 .faultRead (fun c _ => c.partner = true) ∧
    Can (.faultClear h0 0x70E) h0 (.faultClear 0x70E)
      (fun c d => c.ses.mediator = true ∧ 4 ≤ 0x70E % 256 ∧ d.quarantined (0x70E % 256) (0x70E / 256 % 256) = true ∧ ∀ b ∈ d.rst.blkRun, b.1 ≠ 0x70E % 256) ∧
    Can (.reset h0 0 39) h0 (.reset 0 39) (fun c d => c.ses.mediator = true ∧ 39 < 40 ∧ d.blockPresent 39 = true) ∧
    Can (.reset h0 3 0) h0 (.reset 3 0) (fun c _ => c.ses.mediator = true) ∧
    Can (.diagTallyRead h0 15) h0 (.diagTallyRead 15) (fun c _ => c.partner = true ∧ 15 < 16) ∧
    (Quiet dev0 ∧ Instr.wellFormed (.faultReport 3 0 1) = true ∧ reportable 3 = true ∧ (dev0.plate 3).failover = false ∧ dev0.flt.safe = false ∧
      dev0.flt.handling = false ∧ dev0.flt.queue = []) ∧
    (let d := devFlt [faultOf 0x0F 1]; Quiet d ∧ d.flt.handling = true ∧ d.flt.safe = false ∧ d.flt.queue = [faultOf 0x0F 1] ∧ d.rst.stage = .idle ∧
      (faultOf 0x0F 1).unit < 0x30 ∧ (faultOf 0x30 3).severity = 3 ∧ d.sec.service = none) ∧
    (let d := dev0.put .talCfg 7 (2 ^ 63 + 2 * 2 ^ 59);
      let cfg := d.get .talCfg 7;
      Instr.wellFormed (.tallyMessage 7 [1, 2, 3, 4]) = true ∧ bit cfg 63 = true ∧ bit cfg 51 = false ∧ d.talReserved 7 = false ∧
      bits cfg 60 59 = 2 ∧ talMatches (d.get .talMatch 7) [1, 2, 3, 4] = true) := by
  refine ⟨can0 ?_ ?_, can (devFlt []) ses0 ?_ ?_ ?_, can0 ?_ ?_, can0 ?_ ?_, can0 ?_ ?_, ?_, ?_, ?_⟩ <;>
    first | decide +kernel | (unfold Goals.Ready; decide +kernel) | (unfold Quiet; decide +kernel)

/-- The handled fault outranks unit 0x0F's, and does not outrank unit 0x30's; in the second device sixteen are held. -/
theorem wit_FaultsEscalateOrWait :
    let h := faultOf 0x08 2
    let q := List.replicate 15 (faultOf 0x0F 1)
    reportable 0x0F = true ∧ reportable 0x30 = true ∧ (devFlt [h]).flt.handling = true ∧ (devFlt [h]).flt.queue.length < 16 ∧ (h.unit, h.sub) ≠ (0x0F, subOf 0x0F 0) ∧
    (h.unit, h.sub) ≠ (0x30, subOf 0x30 0) ∧ (devFlt [h]).rst.stage = .idle ∧ faultSeverity 0x0F < h.severity ∧ h.severity ≤ faultSeverity 0x30 ∧
    16 ≤ (devFlt (h :: q)).flt.queue.length ∧ (devFlt (h :: q)).flt.safe = false ∧
    ({ dev0 with flt := { safe := true } } : Dev).flt.safe = true ∧ (devFlt (q ++ [h])).nextFault.flt.queue.head? = some h := by decide +kernel

/-! ### Security (17) -/

/-- The last tag of the pages of the eye scan's destination. -/
def devEye : Dev :=
  { dev0 with mem := { trained := true, tags := [(dramBase / 4096, dramBase / 4096 + 3, 5)] }
              scans := [(5, { port := 0, session := 7, seq := 1, lane := 23, dest := dramBase })] }

/-- A device in SEALED, in a SERVICE visit where `v` says so, with `n` entries in its audit log. -/
def devSealed (v : Bool) (n : Nat) : Dev :=
  { dev0 with sec := { fuseSealed := 3, auditSeq := n, service := if v then some { gen := 1, durationS := 60, since := 0 } else none } }

/-- What SERVICE_ENTER, the last FIRMWARE_STAGE and a boot from flash or the mailbox ask of a record or an image beside its signatures, which rest on the part's
hash and signature functions (notes/assumptions/3.md). -/
theorem wit_SecurityCommandsComplete :
    Can (.attest h0 (zeros 32)) h0 (.attest (zeros 32)) (fun _ d => d.lifecycle ≠ 4 ∧ (zeros 32).length = 32) ∧
    Can (.auditRead h0 0 7) h0 (.auditRead 0 7) (fun c d => c.ses.mediator = true ∧ 28 + 16 + 128 * 7 ≤ d.maxLen c.ses.port ∧ 1 ≤ d.sec.auditSeq) ∧
    Can (.serviceChallenge h0) h0 .serviceChallenge (fun c d => c.ses.mediator = true ∧ d.lifecycle = 2) ∧
    Can (.serviceExit h0) h0 .serviceExit (fun c d => c.ses.mediator = true ∧ d.sec.service ≠ none) ∧
    Can (.firmwareStage h0 (2 ^ 24 - 1) false [1]) h0 (.firmwareStage (2 ^ 24 - 1) false [1]) (fun c _ => c.ses.mediator = true ∧ 2 ^ 24 - 1 + [(1 : Byte)].length ≤ 2 ^ 24) ∧
    Can (.diagTileRead h0 7 0) h0 (.diagTileRead 7 0)
      (fun c d => 7 < 8 ∧ d.present (4 + plateOf 7) = true ∧ c.ownsOrMed (d.outOwner 7) = true ∧ 0 < d.bands 7) ∧
    Can (.diagEyeScan h0 19 32 dramBase) h0 (.diagEyeScan 19 32 dramBase)
      (fun c d => 19 ≤ 23 ∧ d.lanePresent 19 = true ∧ c.ses.mediator = true ∧ d.allTagged dramBase 16384 (d.ownerColour c.act) = true ∧ 10 ≤ 32 ∧ 32 ≤ 32 ∧
        ∀ x ∈ d.scans, x.1 ≠ 19 / 4) ∧
    (devEye.scans.find? (·.1 == 5) = some (5, { port := 0, session := 7, seq := 1, lane := 23, dest := dramBase })) := by
  refine ⟨can0 ?_ ?_, can (devSealed false 1) ses0 ?_ ?_ ?_, can (devSealed false 1) ses0 ?_ ?_ ?_, can (devSealed true 1) ses0 ?_ ?_ ?_, can0 ?_ ?_, can (devOut {}) ses0 ?_ ?_ ?_,
    can devEye ses0 ?_ ?_ ?_, ?_⟩ <;> first | decide +kernel | (unfold Goals.Ready; decide +kernel)

/-- A device that has come out of a reset and has yet to boot. -/
def devBoot (level : Nat) (r : Running) (m : Mailbox) : Dev :=
  { dev0 with rst := { dev0.rst with bursol := false, level }, sec := { running := r, mailbox := m }, sup := { supplyEn := true } }

/-- Tamper input 3 is watched and clears the backup registers when asserted. -/
def devTamper : Dev := (dev0.put .secTamperCfg 3 (2 ^ 15 + 2 ^ 6)).put .secTamperCfg 0 0

theorem wit_BootAndTamperComplete :
    (let d := devBoot 3 { digest := [1] } {}; d.rst.stage = .idle ∧ d.rst.bursol = false ∧ d.bsh.st ≠ .standby ∧ d.rst.level = 3 ∧ d.sec.running.digest ≠ []) ∧
    (let d := devBoot 0 {} {}; d.rst.level ≠ 3 ∧ d.sec.mailbox.waiting = false ∧ bit d.rst.pllGood 2 = true ∧ ∀ k ∈ d.bootOrder, d.bootStatus (d.flashImg k) ≠ stOk) ∧
    (let d := devBoot 0 {} { waiting := true };
      Instr.wellFormed (.bootMailboxGo 1 0x10000000 0 []) = true ∧ d.sec.mailbox.waiting = true ∧ d.bootStatus [] ≠ stOk ∧ Quiet d) ∧
    (let d := { dev0 with sec := { running := { commitSvn := true, svn := 255 }, svnBursol := 254 } };
      d.alive = true ∧ d.sec.running.commitSvn = true ∧ d.sec.running.coreReset = false ∧ d.sec.svnBursol < d.sec.running.svn) ∧
    (Quiet (devSealed true 1) ∧ (devSealed true 1).sec.service = some { gen := 1, durationS := 60, since := 0 }) ∧
    (Quiet devTamper ∧ bit (devTamper.get .secTamperCfg 3) 15 = true ∧ devTamper.sec.tamperLog.length < 16 ∧ devTamper.alive = true ∧
      bit (devTamper.get .secTamperCfg 3) 6 = true ∧ bit (devTamper.get .secTamperCfg 3) 7 = false ∧ bit (devTamper.get .secTamperCfg 3) 5 = false ∧
      devTamper.flag .bshNightCfg 0 (20 + 3) = false ∧ bit (devTamper.get .secTamperCfg 0) 15 = false) ∧
    (Quiet dev0 ∧ dev0.mayHalt 3 = true ∧ 3 ∉ dev0.rst.halted ∧ (devSealed false 1).mayHalt 0 = false ∧ (devSealed true 1).mayHalt 1 = true ∧
      (devSealed true 1).mayHalt 2 = false) := by
  unfold Quiet
  refine ⟨?_, ?_, ?_, ?_, ?_, ?_, ?_⟩ <;> decide +kernel

theorem wit_AuditEntriesChain : dev0.mem.wf = true ∧ auditAddr 1 ≠ auditAddr 2 := by decide +kernel

/-- A fuse directive: KIND, ARG and VALUE, without a hash. -/
def dirOf (kind arg value : Nat) : Bytes := padTo 196 (zeros 144 ++ u8 kind ++ u8 arg ++ u16 value)

theorem wit_FusesOnlyGrow :
    (3 ≤ (devSealed true 0).sec.fuseSealed ∧ (devSealed true 0).lifecycle = 3 ∧ (devSealed false 0).lifecycle = 2) ∧
    (∃ b, dev0.dirStatus b = stOk ∧ b ≠ []) ∧ dev0.sec.fuseOpen ≤ 4 ∧ dev0.sec.fuseSealed ≤ 4 ∧ dev0.sec.fuseRetired ≤ 4 ∧
    (∀ i < 4, smGet 0 dev0.sec.rootRevoke i ≤ 4) := by
  refine ⟨by decide +kernel, ⟨dirOf 3 0 128, by decide +kernel, by decide⟩, ?_⟩; decide +kernel

/-! ### The whole block -/

/-- The session has run number 1. -/
def devDone : Dev := { dev0 with sessions := [{ ses0 with h := 1, recs := [{ seq := 1, slot := .done, status := stOk, orig := stOk, phase := 1 }] }] }

theorem wit_DuplicatesRunNothing :
    ∃ s r, devDone.alive = true ∧ devDone.ses 0 = some s ∧ devDone.flag .sesPortCfg 0 63 = true ∧ h0.session = s.sid ∧ 1 ≤ h0.seq ∧ h0.seq ≤ s.h ∧ s.h < h0.seq + 64 ∧
      s.h < 2 ^ 32 ∧ s.recs.find? (·.seq == h0.seq) = some r ∧ r.slot ≠ .hole :=
  ⟨{ ses0 with h := 1, recs := [{ seq := 1, slot := .done, status := stOk, orig := stOk, phase := 1 }] }, { seq := 1, slot := .done, status := stOk, orig := stOk, phase := 1 },
    by decide +kernel⟩

theorem wit_RepliesChangeTheirSessionAlone : Quiet dev0 ∧ opCode .faultRead ≠ opCode .sessionClose := by unfold Quiet; decide +kernel

theorem wit_WellFormedQueuesDrain : ∀ c ∈ ([.coldPowerOn, .pllLock 6, .faultRead h0] : List Instr), c.wellFormed = true := by decide +kernel

theorem wit_StepsKeepMemoryForm : (st devMem).dev.mem.wf = true ∧ ∃ t, step { st devMem with pending := [.coldPowerOn] } = .next t := ⟨by decide +kernel, _, rfl⟩

end Sys2Proof.Tests
end

section
/-!
PROOF. The address map (01): DRAM over its channels (R19), and the one write path to cartouche memory (R16). What a write without a route brings about,
a report and its events, a default target's grant and an audit entry, leaves a quiet device quiet and every byte outside the audit log as it was.
-/

namespace Sys2Proof.Goals

open Sys2Proof Sys2Proof.Machine

/-! ### The address map (01 Table 1.7) -/

theorem dramGibOf_le {cfg g : Nat} (h : dramGibOf cfg = some g) : g ≤ 128 := by
  simp only [dramGibOf, Option.ite_none_right_eq_some, Option.some.injEq] at h
  omega

theorem dramBytes_of_trained {d : Dev} {g : Nat} (ht : d.mem.trained = true) (hg : dramGibOf (d.get .memDramCfg) = some g) :
    d.dramBytes = g * 2 ^ 30 := by
  simp [Dev.dramBytes, ht, hg]

/-- From the base of DRAM up to the outbound windows, the installed capacity alone divides the channels from the default target. -/
theorem targetOf_above_dramBase (d : Dev) {a : Nat} (lo : dramBase ≤ a) (hi : a < 0x800000000000) :
    d.targetOf a = if a < dramBase + d.dramBytes then 5 + (a - dramBase) / 2048 % 4 else 11 := by
  unfold Dev.targetOf
  simp only [dramBase, chartBase, cartBase, mramBase] at lo ⊢
  iterate 6 rw [if_neg (by omega)]
  split_ifs <;> omega

theorem targetOf_cart (d : Dev) {a : Nat} (lo : cartBase ≤ a) (hi : a < 0x20400000) : d.targetOf a = 2 := by
  unfold Dev.targetOf
  simp only [chartBase, cartBase] at lo ⊢
  rw [if_neg (by omega), if_neg (by omega), if_neg (by omega), if_pos ⟨lo, hi⟩]

theorem bits_12_11 (v : Nat) : bits v 12 11 = v / 2048 % 4 := by
  simp [bits, Nat.shiftRight_eq_div_pow]

/-- Settles O39: below the capacity the channel is chosen by bits [12:11] of the offset, at and above it nothing but the default target is left. -/
theorem dramIsSpreadOverChannels : Obligations.DramIsSpreadOverChannels := by
  intro d a g ht hg lo
  have hcap := dramGibOf_le hg
  have hbytes := dramBytes_of_trained ht hg
  constructor
  · intro hi
    rw [targetOf_above_dramBase d lo (by omega), hbytes, if_pos hi, bits_12_11]
  · intro above hi
    rw [targetOf_above_dramBase d lo hi, hbytes, if_neg (by simpa [dramBase] using above)]

/-! ### Parameters and bytes that a write leaves -/

/-- A key reads the same after a write of another key, whatever default the writer gave. -/
theorem smGet_set_ne {α : Type} [DecidableEq α] (d d' : α) (m : List (Nat × α)) {k j : Nat} (v : α) (h : j ≠ k) :
    smGet d (smSet d' m k v) j = smGet d m j := by
  unfold smSet
  split
  · rw [smGet_erase, if_neg h]
  · rw [smGet_insert, if_neg h]

/-- Slots below 2²⁴ of parameters of different constructors have different keys. -/
theorem key_ne {p q : Par} {s t : Nat} (hpq : p.ctorIdx ≠ q.ctorIdx) (hs : s < 2 ^ 24) (ht : t < 2 ^ 24) : p.key s false ≠ q.key t false := by
  unfold Par.key
  simp only [Bool.toNat_false]
  omega

theorem get_count_ne {d : Dev} {p q : Par} {s t n : Nat} (hpq : p.ctorIdx ≠ q.ctorIdx) (hs : s < 2 ^ 24) (ht : t < 2 ^ 24) :
    (d.count q t n).get p s = d.get p s :=
  smGet_set_ne _ _ _ _ (key_ne hpq hs ht)

/-- The end of the audit log ring. -/
abbrev auditEnd : Nat := auditBase + 0x1000 + 128 * auditSlots

theorem leBytes_length (n v : Nat) : (leBytes n v).length = n := by
  induction n generalizing v with
  | zero => rfl
  | succ n ih => rw [leBytes, List.length_cons, ih]

theorem auditEntry_length (seq time code epoch port tenancy : Nat) (data : Bytes) : (auditEntry seq time code epoch port tenancy data).length = 80 := by
  simp [auditEntry, u8, u16, u64, zeros, leBytes_length, padTo]

theorem auditHeader_length (gen seq : Nat) (chain : Bytes) : (auditHeader gen seq chain).length = 68 := by
  simp [auditHeader, u32, u64, leBytes_length, padTo]

/-- Bytes written within the audit log ring leave every byte outside it. -/
theorem poke_peek_outside {d : Dev} {a x : Nat} {bs : Bytes} (lo : auditBase ≤ a) (hi : a + bs.length ≤ auditEnd) (hx : x < auditBase ∨ auditEnd ≤ x) :
    (d.poke a bs).peek x = d.peek x := by
  rw [Dev.poke_get, if_neg (by omega)]

theorem auditRehead_peek {d : Dev} {seq x : Nat} {chain : Bytes} (hx : x < auditBase ∨ auditEnd ≤ x) : (d.auditRehead seq chain).peek x = d.peek x := by
  have head (b : Bool) (bs : Bytes) (hl : bs.length = 68) : (d.poke (auditHeadAddr b) bs).peek x = d.peek x := by
    apply poke_peek_outside _ _ hx <;> cases b <;> simp [auditHeadAddr, auditEnd, auditBase, mramBase, auditSlots, hl]
  unfold Dev.auditRehead
  split
  · exact head _ _ (auditHeader_length ..)
  · exact head _ _ (auditHeader_length ..)

/-- An audit entry leaves every byte outside the audit log ring. -/
theorem audit_peek {d : Dev} {code port tenancy x : Nat} {data : Bytes} (hx : x < auditBase ∨ auditEnd ≤ x) :
    (d.audit code data port tenancy).peek x = d.peek x := by
  have slot := Nat.mod_lt (d.sec.auditSeq + 1) (show 0 < auditSlots by decide)
  have entry (e : Dev) (chain : Bytes) (hl : chain.length = 48) :
      (e.poke (auditAddr (d.sec.auditSeq + 1)) (auditEntry (d.sec.auditSeq + 1) (datumTime d.now) code d.epoch port tenancy data ++ chain)).peek x = e.peek x := by
    apply poke_peek_outside _ _ hx
    · unfold auditAddr; omega
    · rw [List.length_append, auditEntry_length, hl]; unfold auditAddr auditEnd; omega
  unfold Dev.audit
  dsimp only
  split
  · rw [auditRehead_peek hx]
    exact entry _ _ (by simp [padTo])
  · exact entry _ _ (by simp [padTo])

/-! ### Changes that start nothing -/

/-- Nothing that a happening could let start or close has changed: the armed commits, the tenancies, the commands that wait in each session, and the
enables of the partner ports; and the bytes at the addresses of `S` are as they were. -/
structure Undisturbed (S : Nat → Prop) (d d' : Dev) : Prop where
  commits : d'.commits = d.commits
  carts : d'.carts = d.carts
  tens : d'.tens = d.tens
  waits : d'.sessions.map (fun s => (s.port, s.waiting)) = d.sessions.map fun s => (s.port, s.waiting)
  listens : ∀ p < 6, d'.get .sesPortCfg p = d.get .sesPortCfg p
  bytes : ∀ x, S x → d'.peek x = d.peek x

section
variable {S : Nat → Prop}

theorem Undisturbed.refl (d : Dev) : Undisturbed S d d := ⟨rfl, rfl, rfl, rfl, fun _ _ => rfl, fun _ _ => rfl⟩

theorem Undisturbed.trans {a b c : Dev} (h : Undisturbed S a b) (h' : Undisturbed S b c) : Undisturbed S a c where
  commits := h'.commits.trans h.commits
  carts := h'.carts.trans h.carts
  tens := h'.tens.trans h.tens
  waits := h'.waits.trans h.waits
  listens p hp := (h'.listens p hp).trans (h.listens p hp)
  bytes x hx := (h'.bytes x hx).trans (h.bytes x hx)

/-- What is undisturbed stays quiet. -/
theorem Undisturbed.quiet {d d' : Dev} (h : Undisturbed S d d') (hq : Quiet d) : Quiet d' := by
  obtain ⟨hcommits, hcarts, hruns, hwait, hlisten⟩ := hq
  have session : ∀ x ∈ d'.sessions, ∃ y ∈ d.sessions, y.port = x.port ∧ y.waiting = x.waiting := by
    intro x hx
    have hmem := List.mem_map_of_mem (f := fun s : Session => (s.port, s.waiting)) hx
    rw [h.waits, List.mem_map] at hmem
    obtain ⟨y, hy, hxy⟩ := hmem
    exact ⟨y, hy, Prod.mk.inj hxy⟩
  refine ⟨h.commits.trans hcommits, h.carts.trans hcarts, fun n hn => ?_, fun x hx => ?_, fun x hx hp => ?_⟩
  · rw [Dev.ten, h.tens]
    exact hruns n hn
  · obtain ⟨y, hy, -, hyx⟩ := session x hx
    exact hyx ▸ hwait y hy
  · obtain ⟨y, hy, hyx, -⟩ := session x hx
    rw [Dev.flag, h.listens _ hp, ← hyx]
    exact hlisten y hy (hyx ▸ hp)

/-- Links, event rings, endpoints, free values, what is sent, and what memory holds beside its cells start nothing. -/
theorem Undisturbed.of_frame {d : Dev} {e f g n o m} (hm : m.cells = d.mem.cells) :
    Undisturbed S d { d with eths := e, evtRings := f, pcies := g, free := n, sent := o, mem := m } where
  commits := rfl
  carts := rfl
  tens := rfl
  waits := rfl
  listens _ _ := rfl
  bytes x _ := by simp only [Dev.peek, hm]

theorem count_undisturbed (d : Dev) {q : Par} {t : Nat} (n : Nat) (hq : Par.sesPortCfg.ctorIdx ≠ q.ctorIdx) (ht : t < 2 ^ 24) :
    Undisturbed S d (d.count q t n) :=
  ⟨rfl, rfl, rfl, rfl, fun _ hp => get_count_ne hq (by omega) ht, fun _ _ => rfl⟩

theorem modSes_undisturbed (d : Dev) (p : Nat) (f : Session → Session) (hf : ∀ s, (f s).port = s.port ∧ (f s).waiting = s.waiting) :
    Undisturbed S d (d.modSes p f) := by
  refine ⟨rfl, rfl, rfl, ?_, fun _ _ => rfl, fun _ _ => rfl⟩
  rw [Dev.modSes, List.map_map]
  refine List.map_congr_left fun s _ => ?_
  simp only [Function.comp_apply]
  split
  · rw [(hf s).1, (hf s).2]
  · rfl

theorem when_undisturbed (d : Dev) {c : Bool} {f : Dev → Dev} (h : c = true → Undisturbed S d (f d)) : Undisturbed S d (d.when c f) := by
  unfold Dev.when
  split
  · exact h ‹_›
  · exact .refl d

theorem each_undisturbed {α : Type} {f : Dev → α → Dev} (hf : ∀ d a, Undisturbed S d (f d a)) (l : List α) (d : Dev) : Undisturbed S d (d.each l f) := by
  unfold Dev.each
  induction l generalizing d with
  | nil => exact .refl d
  | cons a l ih => exact (hf d a).trans (ih _)

theorem send_undisturbed (d : Dev) (o : Out) : Undisturbed S d (d.send o) := .of_frame rfl

/-! ### Telling the sessions (10 R257, R259, R286) -/

theorem ethStat_undisturbed (d : Dev) {p k : Nat} (hp : p < 8) (hk : k < 7) : Undisturbed S d (d.count2 .lnkEthStat p k) := by
  refine count_undisturbed d 1 (by decide) ?_
  change p * 7 + k < _
  omega

theorem sesCount_undisturbed (d : Dev) (p : Nat) {k : Nat} (hk : k < 10) : Undisturbed S d (d.sesCount p k) := by
  refine when_undisturbed d fun hp => count_undisturbed d 1 (by decide) ?_
  change p * 10 + k < _
  have := of_decide_eq_true hp
  omega

theorem ethTx_undisturbed (d : Dev) {p : Nat} (hp : p < 8) (prio : Nat) (o : Out) : Undisturbed S d (d.ethTx p prio o) := by
  unfold Dev.ethTx
  split
  · exact (send_undisturbed d _).trans (ethStat_undisturbed _ hp (by omega))
  · exact .of_frame rfl

theorem ipTx_undisturbed (d : Dev) {p : Nat} (hp : p < 8) (v6 : Bool) (dst prio : Nat) (o : Out) : Undisturbed S d (d.ipTx p v6 dst prio o) := by
  unfold Dev.ipTx
  generalize (if v6 then bits dst 127 120 == 0xFF else bits dst 31 28 == 0xE) = toGroup
  dsimp only
  split
  · exact ethTx_undisturbed d hp prio o
  split
  · exact ethStat_undisturbed d hp (by omega)
  split
  · exact ethTx_undisturbed d hp prio o
  split
  · exact .of_frame rfl
  · exact Undisturbed.trans (.of_frame rfl) (ethTx_undisturbed _ hp 0 _)

theorem ncTx_undisturbed (d : Dev) (cfg peer : Nat) (o : Out) : Undisturbed S d (d.ncTx cfg peer o) :=
  ipTx_undisturbed d (Nat.mod_lt _ (by decide)) ..

theorem signal_undisturbed (d : Dev) (ep v : Nat) : Undisturbed S d (d.signal ep v) := by
  unfold Dev.signal
  split
  · exact .of_frame rfl
  · exact send_undisturbed d _

theorem sendEvent_undisturbed (d : Dev) (s : Session) (no : Nat) (e : Event) : Undisturbed S d (d.sendEvent s no e) := by
  unfold Dev.sendEvent
  refine (sesCount_undisturbed d s.port (show 8 < 10 by omega)).trans ?_
  dsimp only
  split
  · split
    · exact ncTx_undisturbed ..
    · exact send_undisturbed ..
  · exact Undisturbed.trans (.of_frame rfl) (signal_undisturbed ..)

theorem postEvent_undisturbed (d : Dev) (port : Nat) (e : Event) : Undisturbed S d (d.postEvent port e) := by
  unfold Dev.postEvent
  split
  · exact .refl d
  next s _ =>
    split
    · exact .refl d
    have numbered : Undisturbed S d (d.modSes port fun x => { x with evNo := s.evNo + 1 }) := modSes_undisturbed d port _ fun _ => ⟨rfl, rfl⟩
    dsimp only
    split
    · exact numbered.trans (sendEvent_undisturbed ..)
    split
    · exact numbered.trans (modSes_undisturbed _ port _ (by simp))
    · exact numbered.trans ((modSes_undisturbed _ port _ (by simp)).trans (sesCount_undisturbed _ port (show 9 < 10 by omega)))

theorem raise_undisturbed (d : Dev) (rcpt : Session → Bool) (e : Event) : Undisturbed S d (d.raise rcpt e) :=
  each_undisturbed (fun d p => postEvent_undisturbed d p _) _ d

/-! ### Reports (13 R364, R365; 17 R469) -/

theorem audit_undisturbed (d : Dev) (code : Nat) (data : Bytes) (hS : ∀ x, S x → x < auditBase ∨ auditEnd ≤ x) : Undisturbed S d (d.audit code data) := by
  have hb : ∀ x, S x → (d.audit code data).peek x = d.peek x := fun x hx => audit_peek (hS x hx)
  obtain ⟨chain, cells, h⟩ := Dev.audit_frame d code data 0xFF 0xFF
  rw [h] at hb ⊢
  exact ⟨rfl, rfl, rfl, rfl, fun _ _ => rfl, hb⟩

theorem debugDenied_undisturbed (d : Dev) (entry : Bytes) (hS : ∀ x, S x → x < auditBase ∨ auditEnd ≤ x) : Undisturbed S d (d.debugDenied entry) := by
  unfold Dev.debugDenied
  refine (audit_undisturbed d 0x000C entry hS).trans ?_
  generalize d.audit 0x000C entry = d
  dsimp only
  split
  · refine Undisturbed.trans ?_ (audit_undisturbed _ 0x000C _ hS)
    exact .of_frame rfl
  · exact .of_frame rfl

/-- A report disturbs nothing outside the audit log, to which the debug master's reports alone go. -/
theorem report_undisturbed (d : Dev) (v : Viol) (hS : v.master = 23 → ∀ x, S x → x < auditBase ∨ auditEnd ≤ x) : Undisturbed S d (d.report v) := by
  unfold Dev.report
  dsimp only
  refine Undisturbed.trans ?_ ((raise_undisturbed _ _ _).trans
    (when_undisturbed _ fun hm => debugDenied_undisturbed _ _ (hS (eq_of_beq hm))))
  split
  · exact .of_frame rfl
  · exact .of_frame rfl

theorem notice_undisturbed (d : Dev) (v : Viol) (hS : v.master = 23 → ∀ x, S x → x < auditBase ∨ auditEnd ≤ x) : Undisturbed S d (d.notice v) := by
  unfold Dev.notice
  dsimp only
  split
  · exact .of_frame rfl
  · exact report_undisturbed d _ hS

/-! ### Accesses without a route (13 R356, R362) -/

section
variable {m : Nat} (hS : m = 23 → ∀ x, S x → x < auditBase ∨ auditEnd ≤ x)
include hS

theorem denied_undisturbed (d : Dev) (a region : Nat) (kind : AccKind) (claim : Nat) (byTag : Bool) :
    Undisturbed S d (d.denied m a region kind claim byTag) := by
  unfold Dev.denied
  dsimp only
  split
  · have hfresh : Undisturbed S d d.fresh.2 := .of_frame rfl
    split
    · exact hfresh.trans (notice_undisturbed _ _ hS)
    · exact hfresh.trans (report_undisturbed _ _ hS)
  · exact report_undisturbed d _ hS

theorem decodeError_undisturbed (d : Dev) (a : Nat) (kind : AccKind) : Undisturbed S d (d.decodeError m a kind) :=
  (report_undisturbed d _ hS).trans (count_undisturbed _ 1 (by decide) (by decide))

end

theorem grantAt_undisturbed (d : Dev) {t : Nat} (ht : t < 12) (m qos : Nat) : Undisturbed S d (d.grantAt t m qos) := by
  have counted (e : Dev) (k : Nat) (hk : k < 4) : Undisturbed S e (e.count2 .xbrStat t k) := by
    refine count_undisturbed e 1 (by decide) ?_
    change t * 4 + k < _
    omega
  unfold Dev.grantAt
  exact (counted d 0 (by omega)).trans <| (when_undisturbed _ fun _ => counted _ 1 (by omega)).trans <|
    (when_undisturbed _ fun _ => counted _ 2 (by omega)).trans <| .of_frame rfl

/-- An access that comes to no target disturbs nothing. -/
theorem routePart_undisturbed (d : Dev) {m a qos claim : Nat} {kind : AccKind} (hS : m = 23 → ∀ x, S x → x < auditBase ∨ auditEnd ≤ x)
    (hnone : (d.routePart m a qos kind claim).1 = none) : Undisturbed S d (d.routePart m a qos kind claim).2 := by
  unfold Dev.routePart at hnone ⊢
  split
  · exact denied_undisturbed hS d ..
  · rename_i hallow
    simp only [hallow] at hnone ⊢
    split
    · rename_i hreach
      simp [hreach] at hnone
    · exact (grantAt_undisturbed d (by omega) m qos).trans (decodeError_undisturbed hS _ a kind)

/-- A write of which no part ever has a route disturbs nothing. -/
theorem writeParts_undisturbed (fab : Fabric) {m : Nat} (claim : Nat) (bad : Bool) (hS : m = 23 → ∀ x, S x → x < auditBase ∨ auditEnd ≤ x)
    (l : List (Nat × Nat)) (data : Bytes) (d : Dev) (hnone : ∀ p ∈ l, ∀ e : Dev, (e.routePart m p.1 (e.qosOf m) .write claim).1 = none) :
    Undisturbed S d (d.writeParts fab m claim data bad l).2 := by
  induction l generalizing data d with
  | nil => exact .refl d
  | cons p l ih =>
    obtain ⟨a, n⟩ := p
    have hhead := hnone (a, n) (by simp) d
    rw [Dev.writeParts]
    simp only [hhead]
    exact (routePart_undisturbed d hS hhead).trans (ih _ _ fun p hp => hnone p (by simp [hp]))

end

/-! ### The write path of cartouche memory (R16) -/

/-- The parts of an access lie within it. -/
theorem mem_parts {fuel a n : Nat} {p : Nat × Nat} (h : p ∈ parts fuel a n) : a ≤ p.1 ∧ p.1 < a + n := by
  induction fuel generalizing a n with
  | zero => simp [parts] at h
  | succ fuel ih =>
    rw [parts] at h
    split at h
    · simp at h
    · rcases List.mem_cons.mp h with rfl | h
      · exact ⟨le_rfl, by dsimp only; omega⟩
      · have := ih h
        omega

theorem canReach_cart_write (m : Nat) : canReach m 2 .write = (m == 1) := rfl

/-- An address of cartouche memory (01 Table 1.7). -/
def InCart (a : Nat) : Prop := cartBase ≤ a ∧ a < 0x20400000

theorem InCart.outside_audit {x : Nat} (h : InCart x) : x < auditBase ∨ auditEnd ≤ x := .inl (h.2.trans (by decide))

theorem routePart_cart_allowed {d : Dev} {m a : Nat} (qos : Nat) {claim : Nat} (ha : InCart a)
    (hallow : d.checkPage m (a / 4096) .write (claimOf m claim) = .allow) :
    d.routePart m a qos .write claim = if m = 1 then (some 2, d) else (none, (d.grantAt 11 m qos).decodeError m a .write) := by
  simp only [Dev.routePart, hallow, targetOf_cart d ha.1 ha.2, canReach_cart_write, beq_iff_eq]

theorem routePart_cart_none (d : Dev) {m a : Nat} (qos claim : Nat) (ha : InCart a) (hm : m ≠ 1) : (d.routePart m a qos .write claim).1 = none := by
  cases hcheck : d.checkPage m (a / 4096) .write (claimOf m claim) with
  | allow => rw [routePart_cart_allowed qos ha hcheck, if_neg hm]
  | deny r byTag => simp only [Dev.routePart, hcheck]

theorem memWriteOp_cart_undisturbed (fab : Fabric) {m a : Nat} (claim : Nat) (data : Bytes) (bad : Bool) (d : Dev) (hm : m ≠ 1) (lo : cartBase ≤ a)
    (hi : a + data.length ≤ 0x20400000) : Undisturbed InCart d (memWriteOp fab m a claim data bad d) := by
  unfold memWriteOp
  split
  · exact .refl d
  · refine (writeParts_undisturbed fab claim bad (fun _ _ hx => hx.outside_audit) _ data d fun p hp e => ?_).trans
      (each_undisturbed (fun d _ => send_undisturbed d _) _ _)
    have := mem_parts hp
    exact routePart_cart_none e _ claim ⟨by omega, by omega⟩ hm

/-- MEM_WRITE on a device that its effect leaves quiet answers that effect, and nothing more follows. -/
theorem exec_memWrite_of_quiet {m a claim : Nat} {data : Bytes} {bad : Bool} {s : State} (hwf : Instr.wellFormed (.memWrite m a claim data bad) = true)
    (hq : Quiet (memWriteOp fabric m a claim data bad s.dev)) :
    exec (.memWrite m a claim data bad) s = .next { s with dev := memWriteOp fabric m a claim data bad s.dev } := by
  change execMemWrite m a claim data bad s = _
  rw [execMemWrite, onDev, if_pos hwf, settled_quiet _ hq]

/-- Settles O40: only master 1 reaches target 2 with a write, so a write of any other master has no route in any of its parts. -/
theorem cartoucheHasOneWritePath : Obligations.CartoucheHasOneWritePath := by
  intro d m a claim qos lo hi
  refine ⟨fun hm => ⟨routePart_cart_none d qos claim ⟨lo, hi⟩ hm, fun hallow => ?_⟩, fun hallow => ?_, ?_⟩
  · rw [routePart_cart_allowed qos ⟨lo, hi⟩ hallow, if_neg hm]
  · rw [routePart_cart_allowed qos ⟨lo, hi⟩ hallow, if_pos rfl]
  · rintro s data bad rfl hq hm hlen hwf
    have h := memWriteOp_cart_undisturbed fabric claim data bad s.dev hm lo hlen
    exact ⟨_, exec_memWrite_of_quiet hwf (h.quiet hq), fun x hx hx' => h.bytes x ⟨hx, hx'⟩⟩

end Sys2Proof.Goals
end

section
/-!
PROOF. What a reset leaves of the time unit (03 R70): one of SYS level or deeper wipes it (16 R425, Table 16.1), and neither the supplies coming up nor the
record of the cause touches it again.
-/

namespace Sys2Proof.Goals

open Sys2Proof Sys2Proof.Machine

/-! ### The time unit after a reset (03 R70, 16 R425) -/

@[simp] theorem reset_tim : State.reset.dev.tim = {} := rfl

@[simp] theorem wipe_tim (d : Dev) (level : Nat) : (d.wipe level).tim = {} := rfl

@[simp] theorem powerUp_tim (d : Dev) : d.powerUp.tim = d.tim := by
  unfold Dev.powerUp
  split <;> rfl

theorem resetTo_tim (d : Dev) (cause : Nat) {level : Nat} (h : level ≠ 3) : (d.resetTo cause level).tim = {} := by
  simp [Dev.resetTo, h]

/-- Only a CORE reset can be taken at another level than its own (16 R448). -/
theorem takeReset_of_ne_core (d : Dev) (cause : Nat) {level : Nat} (h : level ≠ 3) : d.takeReset cause level = d.resetTo cause level := by
  simp [Dev.takeReset, h]

/-- Settles O11: the time unit after power-on, and after any reset deeper than CORE, is the one with every field at its reset value. -/
theorem timeUnitReset : Obligations.TimeUnitReset := by
  refine ⟨?_, fun d cause level hle => ?_⟩
  · simp
  · have hcore : level ≠ 3 := by omega
    simp [takeReset_of_ne_core d cause hcore, resetTo_tim d cause hcore]

end Sys2Proof.Goals
end

section
/-!
PROOF. Resets merge (16 R428, R429). Whatever a reset clears (16 Table 16.1), the stage, level, cause and HISTORY of the reset before it are still there when
its own are recorded; so each of the four is given for every reset, and R428 is the case where another is in progress.
-/

namespace Sys2Proof.Goals

open Sys2Proof Sys2Proof.Machine

/-! ### The reset record through what a reset clears (16 R425, 17 R472, 18 R487) -/

theorem audit_rst (d : Dev) (code : Nat) (data : Bytes) : (d.audit code data).rst = d.rst := by
  obtain ⟨chain, cells, h⟩ := Dev.audit_frame d code data 0xFF 0xFF
  rw [h]

theorem setDebugRegions_rst (d : Dev) : d.setDebugRegions.rst = d.rst := by
  unfold Dev.setDebugRegions Dev.each
  exact List.foldlRecOn (motive := fun e : Dev => e.rst = d.rst) _ _ rfl fun _ he _ _ => he

/-- Of the reset unit, the end of SERVICE touches the halted cores alone. -/
@[simp] theorem endService_rst (d : Dev) (cause : Nat) :
    (d.endService cause).rst = { d.rst with halted := if d.sec.service.isSome then [] else d.rst.halted } := by
  unfold Dev.endService
  split
  next h => simp [h]
  next h => simp [h, audit_rst, setDebugRegions_rst]

/-- Of the reset unit, the supplies coming up set the wait for PGOOD alone. -/
@[simp] theorem powerUp_rst (d : Dev) : d.powerUp.rst = { d.rst with waitSupply := d.rst.waitSupply || !d.sup.supplyEn } := by
  unfold Dev.powerUp
  split
  next h => simp [h]
  next h => simp [h]

/-- What a reset of a level clears, before it records itself. -/
def cleared (d : Dev) (level : Nat) : Dev :=
  if level = 3 then (d.endService 3).coreReset else ((d.endService 3).wipe level).powerUp

theorem cleared_record (d : Dev) (level : Nat) :
    (cleared d level).rst.level = d.rst.level ∧ (cleared d level).rst.cause = d.rst.cause ∧ (cleared d level).rst.history = d.rst.history := by
  unfold cleared
  split
  · simp [Dev.coreReset]
  · simp [Dev.wipe]

/-! ### What a reset records (16 R428, R429) -/

theorem resetTo_stage (d : Dev) (cause level : Nat) : (d.resetTo cause level).rst.stage = .stretch := rfl

theorem resetTo_level (d : Dev) (cause level : Nat) :
    (d.resetTo cause level).rst.level = if d.rst.stage ≠ .idle then min d.rst.level level else level := by
  change (if d.rst.stage != .idle then min (cleared d level).rst.level level else level) = _
  simp [cleared_record d level]

theorem resetTo_cause (d : Dev) (cause level : Nat) :
    (d.resetTo cause level).rst.cause = if d.rst.stage ≠ .idle ∧ d.rst.level < level then d.rst.cause else cause := by
  change (if d.rst.stage != .idle && decide (d.rst.level < level) then (cleared d level).rst.cause else cause) = _
  simp [cleared_record d level]

theorem resetTo_history (d : Dev) (cause level : Nat) :
    (d.resetTo cause level).rst.history = (if cause = 1 ∨ cause = 2 then 0 else d.rst.history) ||| 2 ^ (cause - 1) := by
  change (if cause = 1 ∨ cause = 2 then 0 else (cleared d level).rst.history) ||| 2 ^ (cause - 1) = _
  obtain ⟨-, -, hhistory⟩ := cleared_record d level
  rw [hhistory]

/-- Settles O48: what a reset records, where another is being stretched or released. -/
theorem resetsMerge : Obligations.ResetsMerge := by
  intro d cause level _ _ hduring
  refine ⟨resetTo_stage d cause level, ?_, ?_, fun hcold hbrown => ?_, fun hclears => ?_⟩
  · rw [resetTo_level, if_pos hduring]
  · simp only [resetTo_cause, hduring, ne_eq, not_false_eq_true, true_and]
  · rw [resetTo_history, if_neg (by simp [hcold, hbrown])]
  · rw [resetTo_history, if_pos hclears, Nat.zero_or]

end Sys2Proof.Goals
end

section
/-!
PROOF. The whole block: every command has an effect on the device alone, which it has where it is well-formed; so a queue of well-formed commands empties.
-/
namespace Sys2Proof.Goals

open Sys2Proof Sys2Proof.Machine

/-- Every command of the table has the one form of a meaning: an effect on the device where it is well-formed, and a fault where it is not. -/
theorem exec_eq_onDev (i : Instr) : ∃ f : Dev → Dev, ∀ s, exec i s = onDev i.wellFormed f s := by
  cases i <;> dsimp only [exec] <;> exact ⟨_, fun _ => rfl⟩

/-- A well-formed command answers a next state, with the queue as it was. -/
theorem exec_wellFormed {i : Instr} (hwf : i.wellFormed = true) (s : State) : ∃ d, exec i s = .next { s with dev := d } := by
  obtain ⟨f, hf⟩ := exec_eq_onDev i
  exact ⟨f s.dev, by rw [hf, onDev, if_pos hwf]⟩

/-- A step that starts from a well-formed command answers a next state, with the rest of the queue. -/
theorem step_wellFormed {s : State} {c : Instr} {cs : List Instr} (hq : s.pending = c :: cs) (hwf : c.wellFormed = true) :
    ∃ t, step s = .next t ∧ t.pending = cs := by
  obtain ⟨d, hd⟩ := exec_wellFormed hwf { s with pending := cs }
  refine ⟨{ pending := cs, dev := d }, ?_, rfl⟩
  rw [step, hq]
  exact hd

/-- Settles O59, by induction on the queue. -/
theorem wellFormedQueuesDrain : Obligations.WellFormedQueuesDrain := by
  intro s hwf
  obtain ⟨q, d⟩ := s
  induction q generalizing d with
  | nil => exact ⟨fun _ => ⟨[], d⟩, rfl, fun _ _ => by simp, fun _ hk => absurd hk (Nat.not_lt_zero _)⟩
  | cons c cs ih =>
    obtain ⟨⟨_, e⟩, hstep, rfl⟩ := step_wellFormed (s := ⟨c :: cs, d⟩) rfl (hwf c (by simp))
    obtain ⟨f, hf, hrest, hsteps⟩ := ih e fun x hx => hwf x (by simp [hx])
    refine ⟨fun | 0 => ⟨c :: _, d⟩ | k + 1 => f k, rfl, fun k hk => ?_, fun k hk => ?_⟩
    · cases k with
      | zero => rfl
      | succ k => exact hrest k (Nat.le_of_succ_le_succ hk)
    · cases k with
      | zero => exact hf ▸ hstep
      | succ k => exact hsteps k (Nat.lt_of_succ_lt_succ hk)

end Sys2Proof.Goals
end

section
/-!
PROOF. A coded picture keeps within its cap (08 R210): what is used, together with the reserve of what is still to be coded, never exceeds it.
-/

namespace Sys2Proof.Goals

open Sys2Proof Sys2Proof.Machine

theorem rowsReserve_cons (k : Nat) (r : CodedRow) (rows : List CodedRow) :
    rowsReserve k (r :: rows) = k * r.blocks.length + 256 + rowsReserve k rows := by
  simp [rowsReserve]

/-- Blocks that start with their own reserve and the later rows' free leave the later rows' reserve free. -/
theorem codeBlocks_fits {k cap later : Nat} (bs : List (Nat × Nat × Nat × Bool)) (hskip : ∀ b ∈ bs, b.2.2.1 ≤ k) (m : CodeMode) (used : Nat) (lost : Bool)
    (hfree : used + k * bs.length + later ≤ cap) : (codeBlocks k cap later bs m used lost).2.1 + later ≤ cap := by
  induction bs generalizing m used lost with
  | nil => simpa [codeBlocks] using hfree
  | cons b bs ih =>
    obtain ⟨rc, qp51, skip, intra⟩ := b
    have hhead : skip ≤ k := hskip _ List.mem_cons_self
    have htail : ∀ b ∈ bs, b.2.2.1 ≤ k := fun b hb => hskip b (List.mem_cons_of_mem _ hb)
    rw [List.length_cons, Nat.mul_succ] at hfree
    simp only [codeBlocks]
    generalize (if m = .maxqp then qp51 else rc) = trial
    split_ifs
    · exact ih htail _ _ _ (by omega)
    · exact absurd rfl ‹_›
    · exact ih htail _ _ _ (by omega)
    next hroom hcoded =>
      have : used + trial + k * bs.length + later ≤ cap := not_lt.mp fun hover => hroom ⟨hcoded, hover⟩
      exact ih htail _ _ _ (by omega)

/-- Rows that start with their reserve free end within the cap. -/
theorem codeRows_fits {k cap : Nat} {share : Int} (rows : List CodedRow) (hrows : ∀ r ∈ rows, r.header ≤ 256 ∧ ∀ b ∈ r.blocks, b.2.2.1 ≤ k) (m : CodeMode)
    (used : Nat) (lost : Bool) (hfree : used + rowsReserve k rows ≤ cap) : (codeRows k cap share rows m used lost).2.1 ≤ cap := by
  induction rows generalizing m used lost with
  | nil => simpa [codeRows, rowsReserve] using hfree
  | cons r rows ih =>
    obtain ⟨hheader, hblocks⟩ := hrows r List.mem_cons_self
    rw [rowsReserve_cons] at hfree
    simp only [codeRows]
    exact ih (fun x hx => hrows x (List.mem_cons_of_mem _ hx)) _ _ _ (codeBlocks_fits _ hblocks _ _ _ (by omega))

/-- Settles O22: before the first row nothing is used, and the cap holds the reserve of all rows. -/
theorem pictureFitsItsCap : Obligations.PictureFitsItsCap := by
  intro idr cap target rows k hrows hcap
  exact codeRows_fits rows hrows _ _ _ (by omega)

end Sys2Proof.Goals
end

section
/-!
PROOF. The limiter of the mixer (12 R330): it scales the other inputs alone, and by no more than keeps the sum with an alert that fits within full scale.
-/

namespace Sys2Proof.Goals

open Sys2Proof Sys2Proof.Machine

/-- The value of the limiter that keeps the sum of the others' `n` and the alert's `m` within full scale. -/
def limitFor (n m : Rat) : Rat := if n = 0 then 1 else if 0 < n then (fullScale - m) / n else (-fullScale - m) / n

/-- The limiter for the sample: as it stood where the sum fits, else no more than what makes it fit. -/
def limitedTo (l n m : Rat) : Rat := if n * l + m ≤ fullScale ∧ -fullScale ≤ n * l + m then l else max 0 (min l (limitFor n m))

theorem limitedTo_nonneg {l n m : Rat} (hl : 0 ≤ l) : 0 ≤ limitedTo l n m := by
  unfold limitedTo
  split_ifs
  · exact hl
  · exact le_max_left ..

theorem limitedTo_le {l n m : Rat} (hl : 0 ≤ l) : limitedTo l n m ≤ l := by
  unfold limitedTo
  split_ifs
  · exact le_rfl
  · exact max_le hl (min_le_left ..)

/-- With an alert within full scale the limited sum is within full scale. -/
theorem limitedTo_fits {l n m : Rat} (hl : 0 ≤ l) (hhi : m ≤ fullScale) (hlo : -fullScale ≤ m) :
    -fullScale ≤ n * limitedTo l n m + m ∧ n * limitedTo l n m + m ≤ fullScale := by
  have hnonneg := limitedTo_nonneg (n := n) (m := m) hl
  by_cases hfits : n * l + m ≤ fullScale ∧ -fullScale ≤ n * l + m
  · rw [limitedTo, if_pos hfits]
    exact hfits.symm
  rcases lt_trichotomy n 0 with hn | rfl | hn
  · have hcap : 0 ≤ (-fullScale - m) / n := div_nonneg_of_nonpos (by linarith) hn.le
    have hle : limitedTo l n m ≤ (-fullScale - m) / n := by
      rw [limitedTo, if_neg hfits, limitFor, if_neg hn.ne, if_neg hn.not_gt]
      exact max_le hcap (min_le_right ..)
    have := (le_div_iff_of_neg hn).mp hle
    have := mul_nonpos_of_nonpos_of_nonneg hn.le hnonneg
    constructor <;> linarith
  · simp only [zero_mul, zero_add]
    exact ⟨hlo, hhi⟩
  · have hcap : 0 ≤ (fullScale - m) / n := div_nonneg (by linarith) hn.le
    have hle : limitedTo l n m ≤ (fullScale - m) / n := by
      rw [limitedTo, if_neg hfits, limitFor, if_neg hn.ne', if_pos hn]
      exact max_le hcap (min_le_right ..)
    have := (le_div_iff₀ hn).mp hle
    have := mul_nonneg hn.le hnonneg
    constructor <;> linarith

/-- Settles O32: the sample is the limited sum, which needs no clipping. -/
theorem alertPassesTheMixer : Obligations.AlertPassesTheMixer := by
  intro slotAtt duck alertAtt lim xs alert n m hhi hlo
  have hl : (0 : Rat) ≤ ((lim : Nat) : Rat) / 2147483648 := by positivity
  obtain ⟨hge, hle⟩ := limitedTo_fits (n := n) hl hhi hlo
  refine ⟨limitedTo _ n m, limitedTo_nonneg hl, limitedTo_le hl, hge, hle, ?_⟩
  have hclip : max (-fullScale) (min fullScale (n * limitedTo (lim / 2147483648) n m + m)) = n * limitedTo (lim / 2147483648) n m + m := by
    rw [min_eq_right hle, max_eq_right hge]
  rw [← hclip]
  rfl

end Sys2Proof.Goals
end

section
/-!
PROOF. Telling the sessions counts on two parameters alone, SES.STAT and LNK.ETH_STAT: every other parameter reads as before.
-/

namespace Sys2Proof.Goals

open Sys2Proof Sys2Proof.Machine

/-! ### Parameters that telling leaves (10 R286, R289; 14 R373) -/

/-- Every parameter but the counters of the sessions and of the Ethernet ports reads as it did. -/
structure CountsAlone (d d' : Dev) : Prop where
  get : ∀ (p : Par) (s : Nat), p.ctorIdx ≠ Par.sesStat.ctorIdx → p.ctorIdx ≠ Par.lnkEthStat.ctorIdx → s < 2 ^ 24 → d'.get p s = d.get p s

theorem CountsAlone.refl (d : Dev) : CountsAlone d d := ⟨fun _ _ _ _ _ => rfl⟩

theorem CountsAlone.trans {a b c : Dev} (h : CountsAlone a b) (h' : CountsAlone b c) : CountsAlone a c :=
  ⟨fun p s hp hq hs => (h'.get p s hp hq hs).trans (h.get p s hp hq hs)⟩

theorem CountsAlone.of_regs {d d' : Dev} (h : d'.regs = d.regs) : CountsAlone d d' :=
  ⟨fun p s _ _ _ => by simp only [Dev.get, h]⟩

/-- What comes before and leaves the parameters may be left out. -/
theorem CountsAlone.after {a b c : Dev} (h : CountsAlone b c) (hr : b.regs = a.regs) : CountsAlone a c := (of_regs hr).trans h

theorem sesCount_countsAlone (d : Dev) (port : Nat) {k : Nat} (hk : k < 10) : CountsAlone d (d.sesCount port k) := by
  unfold Dev.sesCount Dev.when
  split
  · rename_i hport
    have := of_decide_eq_true hport
    refine ⟨fun p s hp _ hs => get_count_ne hp hs ?_⟩
    change port * 10 + k < _
    omega
  · exact .refl d

theorem ethStat_countsAlone (d : Dev) {port k : Nat} (hport : port < 8) (hk : k < 7) : CountsAlone d (d.count2 .lnkEthStat port k) := by
  refine ⟨fun p s _ hp hs => get_count_ne hp hs ?_⟩
  change port * 7 + k < _
  omega

theorem ethTx_countsAlone (d : Dev) {port : Nat} (hport : port < 8) (prio : Nat) (o : Out) : CountsAlone d (d.ethTx port prio o) := by
  unfold Dev.ethTx
  split
  · exact (ethStat_countsAlone _ hport (show 1 < 7 by omega)).after rfl
  · exact .of_regs rfl

theorem ipTx_countsAlone (d : Dev) {port : Nat} (hport : port < 8) (v6 : Bool) (dst prio : Nat) (o : Out) : CountsAlone d (d.ipTx port v6 dst prio o) := by
  unfold Dev.ipTx
  generalize (if v6 then bits dst 127 120 == 0xFF else bits dst 31 28 == 0xE) = toGroup
  dsimp only
  split
  · exact ethTx_countsAlone d hport prio o
  split
  · exact ethStat_countsAlone d hport (by omega)
  split
  · exact ethTx_countsAlone d hport prio o
  split
  · exact .of_regs rfl
  · exact (ethTx_countsAlone _ hport 0 _).after rfl

theorem ncTx_countsAlone (d : Dev) (cfg peer : Nat) (o : Out) : CountsAlone d (d.ncTx cfg peer o) :=
  ipTx_countsAlone d (Nat.mod_lt _ (by decide)) ..

theorem signal_countsAlone (d : Dev) (ep v : Nat) : CountsAlone d (d.signal ep v) := by
  unfold Dev.signal
  split <;> exact .of_regs rfl

theorem sendEvent_countsAlone (d : Dev) (s : Session) (no : Nat) (e : Event) : CountsAlone d (d.sendEvent s no e) := by
  unfold Dev.sendEvent
  refine (sesCount_countsAlone d s.port (show 8 < 10 by omega)).trans ?_
  dsimp only
  split
  · split
    · exact ncTx_countsAlone ..
    · exact .of_regs rfl
  · exact (signal_countsAlone ..).after rfl

theorem postEvent_countsAlone (d : Dev) (port : Nat) (e : Event) : CountsAlone d (d.postEvent port e) := by
  unfold Dev.postEvent
  split
  · exact .refl d
  split
  · exact .refl d
  dsimp only
  split
  · exact (sendEvent_countsAlone ..).after rfl
  split
  · exact .of_regs rfl
  · exact (sesCount_countsAlone _ port (show 9 < 10 by omega)).after rfl

theorem each_countsAlone {α : Type} {f : Dev → α → Dev} (hf : ∀ d a, CountsAlone d (f d a)) (l : List α) (d : Dev) : CountsAlone d (d.each l f) := by
  unfold Dev.each
  induction l generalizing d with
  | nil => exact .refl d
  | cons a l ih => exact (hf d a).trans (ih _)

theorem raise_countsAlone (d : Dev) (rcpt : Session → Bool) (e : Event) : CountsAlone d (d.raise rcpt e) :=
  each_countsAlone (fun d p => postEvent_countsAlone d p _) _ d

/-- A parameter that is no counter of sessions or Ethernet ports reads as before an event was raised. -/
theorem raise_get (d : Dev) (rcpt : Session → Bool) (e : Event) {p : Par} {s : Nat} (hp : p.ctorIdx ≠ Par.sesStat.ctorIdx)
    (hq : p.ctorIdx ≠ Par.lnkEthStat.ctorIdx) (hs : s < 2 ^ 24) : (d.raise rcpt e).get p s = d.get p s :=
  (raise_countsAlone d rcpt e).get p s hp hq hs

end Sys2Proof.Goals
end

section
/-!
PROOF. Reports leave the map of memory (13 R362): the regions, the colours of pages and the installed DRAM are as they were, so that a page is allowed or
denied as before. A write of which every page is denied therefore reaches no memory.
-/

namespace Sys2Proof.Goals

open Sys2Proof Sys2Proof.Machine

/-! ### What decides on a page (13 R359, R362) -/

/-- The regions in force, the colours given to pages, and what the installed DRAM and the partner's share of it are. -/
structure SameMap (d d' : Dev) : Prop where
  regions : d'.mem.regions = d.mem.regions
  tags : d'.mem.tags = d.mem.tags
  trained : d'.mem.trained = d.mem.trained
  dram : d'.get .memDramCfg = d.get .memDramCfg
  partner : d'.get .memPartnerMib = d.get .memPartnerMib

theorem SameMap.refl (d : Dev) : SameMap d d := ⟨rfl, rfl, rfl, rfl, rfl⟩

theorem SameMap.trans {a b c : Dev} (h : SameMap a b) (h' : SameMap b c) : SameMap a c where
  regions := h'.regions.trans h.regions
  tags := h'.tags.trans h.tags
  trained := h'.trained.trans h.trained
  dram := h'.dram.trans h.dram
  partner := h'.partner.trans h.partner

theorem SameMap.dramBytes {d d' : Dev} (h : SameMap d d') : d'.dramBytes = d.dramBytes := by
  simp only [Dev.dramBytes, h.trained, h.dram]

theorem SameMap.targetOf {d d' : Dev} (h : SameMap d d') (a : Nat) : d'.targetOf a = d.targetOf a := by
  simp only [Dev.targetOf, h.dramBytes]

theorem SameMap.tagOf {d d' : Dev} (h : SameMap d d') (page : Nat) : d'.tagOf page = d.tagOf page := by
  simp only [Dev.tagOf, Dev.defaultTag, h.targetOf, h.tags, h.dramBytes, h.partner]

/-- Where the map is the same, so is the verdict on every page. -/
theorem SameMap.checkPage {d d' : Dev} (h : SameMap d d') (m page : Nat) (kind : AccKind) (claim : Nat) :
    d'.checkPage m page kind claim = d.checkPage m page kind claim := by
  simp only [Dev.checkPage, Dev.bndRegion, h.regions, h.tagOf]
  rfl

/-- Counting and telling leave the map. -/
theorem CountsAlone.sameMap {d d' : Dev} (h : CountsAlone d d') (hm : d'.mem = d.mem) : SameMap d d' where
  regions := by rw [hm]
  tags := by rw [hm]
  trained := by rw [hm]
  dram := h.get .memDramCfg 0 (by decide) (by decide) (by decide)
  partner := h.get .memPartnerMib 0 (by decide) (by decide) (by decide)

theorem raise_sameMap (d : Dev) (rcpt : Session → Bool) (e : Event) : SameMap d (d.raise rcpt e) :=
  (raise_countsAlone d rcpt e).sameMap (raise_mem d rcpt e)

theorem audit_sameMap (d : Dev) (code : Nat) (data : Bytes) : SameMap d (d.audit code data) := by
  obtain ⟨chain, cells, h⟩ := Dev.audit_frame d code data 0xFF 0xFF
  rw [h]
  exact ⟨rfl, rfl, rfl, rfl, rfl⟩

theorem debugDenied_sameMap (d : Dev) (entry : Bytes) : SameMap d (d.debugDenied entry) := by
  unfold Dev.debugDenied
  refine (audit_sameMap d 0x000C entry).trans ?_
  generalize d.audit 0x000C entry = d
  dsimp only
  split
  · refine SameMap.trans ?_ (audit_sameMap _ 0x000C _)
    exact ⟨rfl, rfl, rfl, rfl, rfl⟩
  · exact ⟨rfl, rfl, rfl, rfl, rfl⟩

theorem when_sameMap (d : Dev) (c : Bool) {f : Dev → Dev} (h : ∀ d, SameMap d (f d)) : SameMap d (d.when c f) := by
  unfold Dev.when
  split
  · exact h d
  · exact .refl d

/-- A report leaves the map. -/
theorem report_sameMap (d : Dev) (v : Viol) : SameMap d (d.report v) := by
  unfold Dev.report
  dsimp only
  refine SameMap.trans ?_ ((raise_sameMap _ _ _).trans (when_sameMap _ _ fun d => debugDenied_sameMap d _))
  split <;> exact ⟨rfl, rfl, rfl, rfl, rfl⟩

theorem notice_sameMap (d : Dev) (v : Viol) : SameMap d (d.notice v) := by
  unfold Dev.notice
  dsimp only
  split
  · exact ⟨rfl, rfl, rfl, rfl, rfl⟩
  · exact report_sameMap ..

/-- A denial leaves the map. -/
theorem denied_sameMap (d : Dev) (m a region : Nat) (kind : AccKind) (claim : Nat) (byTag : Bool) : SameMap d (d.denied m a region kind claim byTag) := by
  unfold Dev.denied
  dsimp only
  split
  · have hfresh : SameMap d d.fresh.2 := ⟨rfl, rfl, rfl, rfl, rfl⟩
    split
    · exact hfresh.trans (notice_sameMap ..)
    · exact hfresh.trans (report_sameMap ..)
  · exact report_sameMap ..

/-! ### Writes that are denied (13 R362, R363) -/

theorem routePart_denied {d : Dev} {m a qos claim : Nat} {kind : AccKind} (h : d.checkPage m (a / 4096) kind (claimOf m claim) ≠ .allow) :
    (d.routePart m a qos kind claim).1 = none ∧ SameMap d (d.routePart m a qos kind claim).2 := by
  unfold Dev.routePart
  split
  · exact ⟨rfl, denied_sameMap ..⟩
  · contradiction

/-- A write of which every part is denied disturbs nothing. -/
theorem writeParts_denied {S : Nat → Prop} (fab : Fabric) {m : Nat} (claim : Nat) (bad : Bool) (hS : m = 23 → ∀ x, S x → x < auditBase ∨ auditEnd ≤ x)
    (l : List (Nat × Nat)) (data : Bytes) (d : Dev) (hdeny : ∀ p ∈ l, d.checkPage m (p.1 / 4096) .write (claimOf m claim) ≠ .allow) :
    Undisturbed S d (d.writeParts fab m claim data bad l).2 := by
  induction l generalizing data d with
  | nil => exact .refl d
  | cons p l ih =>
    obtain ⟨a, n⟩ := p
    obtain ⟨hnone, hmap⟩ := routePart_denied (qos := d.qosOf m) (hdeny (a, n) List.mem_cons_self)
    rw [Dev.writeParts]
    simp only [hnone]
    refine (routePart_undisturbed d hS hnone).trans (ih _ _ fun p hp => ?_)
    rw [hmap.checkPage]
    exact hdeny p (List.mem_cons_of_mem _ hp)

/-- Settles O37: no denial changes what decides on the next page, and none reaches memory but by the audit log. -/
theorem deniedWritesReachNoMemory : Obligations.DeniedWritesReachNoMemory := by
  intro s m a claim data bad hq hwf hdeny
  have h : Undisturbed (fun x => m ≠ 23 ∨ x < 0x30000000 ∨ 0x30400000 ≤ x) s.dev (memWriteOp fabric m a claim data bad s.dev) := by
    unfold memWriteOp
    split
    · exact .refl _
    · refine (writeParts_denied fabric claim bad (fun hm x hx => ?_) _ data s.dev hdeny).trans (each_undisturbed (fun d _ => send_undisturbed d _) _ _)
      simp only [auditEnd, auditBase, mramBase, auditSlots]
      rcases hx with hx | hx
      · exact absurd hm hx
      · omega
  exact ⟨_, exec_memWrite_of_quiet hwf (h.quiet hq), h.bytes⟩

end Sys2Proof.Goals
end

section
/-!
PROOF. An audit entry (17 R473): its bytes at its own slot of the ring, which the rewriting of a header copy leaves, and its chain.
-/

namespace Sys2Proof.Goals

open Sys2Proof Sys2Proof.Machine

/-! ### Bytes of a range -/

/-- A range that reads byte for byte as a string is that string. -/
theorem peekN_eq {d : Dev} {a : Nat} {bs : Bytes} (h : ∀ i < bs.length, d.peek (a + i) = bs.getD i 0) : d.peekN a bs.length = bs := by
  refine List.ext_getElem (by simp [Dev.peekN]) fun i hi hi' => ?_
  simp [Dev.peekN, h i hi', hi']

/-- Ranges that read the same byte for byte are the same. -/
theorem peekN_congr {d e : Dev} {a n : Nat} (h : ∀ i < n, e.peek (a + i) = d.peek (a + i)) : e.peekN a n = d.peekN a n :=
  List.map_congr_left fun i hi => h i (List.mem_range.mp hi)

theorem padTo_length (n : Nat) (b : Bytes) : (padTo n b).length = n := by simp [padTo]

/-! ### The entries of the ring -/

/-- The CHAIN of the entry that is appended. -/
def nextChain (d : Dev) (code port tenancy : Nat) (data : Bytes) : Bytes :=
  padTo 48 (Config.sha384 (d.sec.auditChain ++ auditEntry (d.sec.auditSeq + 1) (datumTime d.now) code d.epoch port tenancy data))

/-- The entry that is appended, its CHAIN with it. -/
def nextEntry (d : Dev) (code port tenancy : Nat) (data : Bytes) : Bytes :=
  auditEntry (d.sec.auditSeq + 1) (datumTime d.now) code d.epoch port tenancy data ++ nextChain d code port tenancy data

theorem nextEntry_length (d : Dev) (code port tenancy : Nat) (data : Bytes) : (nextEntry d code port tenancy data).length = 128 := by
  simp [nextEntry, nextChain, auditEntry_length, padTo_length]

/-- Rewriting a header copy leaves the entries. -/
theorem auditRehead_peek_entries {d : Dev} {seq x : Nat} {chain : Bytes} (hx : auditBase + 0x1000 ≤ x) : (d.auditRehead seq chain).peek x = d.peek x := by
  have head (b : Bool) (bs : Bytes) (hl : bs.length = 68) : (d.poke (auditHeadAddr b) bs).peek x = d.peek x := by
    rw [Dev.poke_get, if_neg]
    cases b <;> simp only [auditHeadAddr, hl] <;> simp <;> omega
  unfold Dev.auditRehead
  split
  · exact head _ _ (auditHeader_length ..)
  · exact head _ _ (auditHeader_length ..)

/-- Among the entries of the ring an audit entry writes its own slot alone. -/
theorem audit_peek_entries (d : Dev) (code port tenancy : Nat) (data : Bytes) {x : Nat} (hx : auditBase + 0x1000 ≤ x) :
    (d.audit code data port tenancy).peek x =
      if auditAddr (d.sec.auditSeq + 1) ≤ x ∧ x < auditAddr (d.sec.auditSeq + 1) + 128 then
        (nextEntry d code port tenancy data).getD (x - auditAddr (d.sec.auditSeq + 1)) 0
      else d.peek x := by
  have entry (e : Dev) : (e.poke (auditAddr (d.sec.auditSeq + 1)) (nextEntry d code port tenancy data)).peek x = _ := Dev.poke_get _ e _ x
  rw [nextEntry_length] at entry
  unfold Dev.audit
  dsimp only
  split
  · rw [auditRehead_peek_entries hx]
    exact entry _
  · exact entry _

theorem auditAddr_ge (k : Nat) : auditBase + 0x1000 ≤ auditAddr k := by unfold auditAddr; omega

/-- The slot of the entry holds it. -/
theorem audit_peekN_self (d : Dev) (code port tenancy : Nat) (data : Bytes) :
    (d.audit code data port tenancy).peekN (auditAddr (d.sec.auditSeq + 1)) 128 = nextEntry d code port tenancy data := by
  have ha := auditAddr_ge (d.sec.auditSeq + 1)
  rw [← nextEntry_length d code port tenancy data]
  refine peekN_eq fun i hi => ?_
  rw [nextEntry_length] at hi
  rw [audit_peek_entries d code port tenancy data (by omega), if_pos ⟨by omega, by omega⟩, Nat.add_sub_cancel_left]

/-- Every other slot holds what it held. -/
theorem audit_peekN_other (d : Dev) (code port tenancy : Nat) (data : Bytes) {k : Nat} (hk : auditAddr k ≠ auditAddr (d.sec.auditSeq + 1)) :
    (d.audit code data port tenancy).peekN (auditAddr k) 128 = d.peekN (auditAddr k) 128 := by
  refine peekN_congr fun i hi => ?_
  have ha := auditAddr_ge k
  rw [audit_peek_entries d code port tenancy data (by omega), if_neg]
  unfold auditAddr at hk ⊢
  omega

theorem audit_sec (d : Dev) (code port tenancy : Nat) (data : Bytes) :
    (d.audit code data port tenancy).sec = { d.sec with auditSeq := d.sec.auditSeq + 1, auditChain := nextChain d code port tenancy data } := by
  have hpoke (bs : Bytes) (e : Dev) (a : Nat) : (e.poke a bs).sec = e.sec := by rw [Dev.poke_frame]
  have hhead (e : Dev) (seq : Nat) (chain : Bytes) : (e.auditRehead seq chain).sec = e.sec := by
    obtain ⟨c, h⟩ := e.auditRehead_frame seq chain
    rw [h]
  unfold Dev.audit
  dsimp only
  split
  · rw [hhead, hpoke]; rfl
  · rw [hpoke]; rfl

/-! ### The fields of an entry (17 Table 17.8) -/

theorem auditEntry_seq (seq time code epoch port tenancy : Nat) (data rest : Bytes) :
    (auditEntry seq time code epoch port tenancy data ++ rest).take 8 = u64 seq := by
  simp only [auditEntry, List.append_assoc]
  exact List.take_left' (leBytes_length 8 seq)

theorem auditEntry_code (seq time code epoch port tenancy : Nat) (data rest : Bytes) :
    ((auditEntry seq time code epoch port tenancy data ++ rest).drop 16).take 2 = u16 code := by
  have hhead : (u64 seq ++ u64 time).length = 16 := by simp [u64, leBytes_length]
  simp only [auditEntry, List.append_assoc]
  rw [← List.append_assoc, List.drop_left' hhead]
  exact List.take_left' (leBytes_length 2 code)

theorem auditEntry_data (seq time code epoch port tenancy : Nat) (data rest : Bytes) :
    ((auditEntry seq time code epoch port tenancy data ++ rest).drop 24).take 56 = padTo 56 data := by
  have hhead : (u64 seq ++ u64 time ++ u16 code ++ u8 epoch ++ zeros 1 ++ u8 port ++ u8 tenancy ++ zeros 2).length = 24 := by
    simp [u64, u16, u8, zeros, leBytes_length]
  rw [auditEntry, List.append_assoc, List.drop_left' hhead]
  exact List.take_left' (padTo_length 56 data)

/-- Settles O55: the slot holds the entry that was to be appended, and of the ring that slot alone is written. -/
theorem auditEntriesChain : Obligations.AuditEntriesChain := by
  intro d code port tenancy data hwf
  dsimp only
  rw [audit_peekN_self, audit_sec]
  refine ⟨rfl, Dev.audit_wf _ _ _ _ _ hwf, ?_, ?_, auditEntry_seq .., auditEntry_code .., auditEntry_data .., fun x hx => ?_, fun k hk => ?_⟩
  · rw [nextEntry, List.take_left' (auditEntry_length ..)]; rfl
  · exact List.drop_left' (auditEntry_length ..)
  · refine audit_peek ?_
    simp only [auditEnd, auditBase, auditSlots]
    omega
  · exact audit_peekN_other _ _ _ _ _ hk

end Sys2Proof.Goals
end

section
/-!
PROOF. The rules of the indexed units: a unit that is set or changed is read back, and every other one is as it was.
-/

namespace Sys2Proof.Goals

open Sys2Proof Sys2Proof.Machine

@[simp] theorem src_setSrc (d : Dev) (n k : Nat) (x : Src) : (d.setSrc n x).src k = if k = n then x else d.src k := smGet_set _ _ _ _ _
@[simp] theorem src_modSrc (d : Dev) (n k : Nat) (f : Src → Src) : (d.modSrc n f).src k = if k = n then f (d.src n) else d.src k := smGet_set _ _ _ _ _
@[simp] theorem dec_setDec (d : Dev) (n k : Nat) (x : Dec) : (d.setDec n x).dec k = if k = n then x else d.dec k := smGet_set _ _ _ _ _
@[simp] theorem dec_modDec (d : Dev) (n k : Nat) (f : Dec → Dec) : (d.modDec n f).dec k = if k = n then f (d.dec n) else d.dec k := smGet_set _ _ _ _ _
@[simp] theorem pipe_setPipe (d : Dev) (n k : Nat) (x : Pipe) : (d.setPipe n x).pipe k = if k = n then x else d.pipe k := smGet_set _ _ _ _ _
@[simp] theorem pipe_modPipe (d : Dev) (n k : Nat) (f : Pipe → Pipe) : (d.modPipe n f).pipe k = if k = n then f (d.pipe n) else d.pipe k := smGet_set _ _ _ _ _
@[simp] theorem out_setOut (d : Dev) (n k : Nat) (x : Output) : (d.setOut n x).out k = if k = n then x else d.out k := smGet_set _ _ _ _ _
@[simp] theorem out_modOut (d : Dev) (n k : Nat) (f : Output → Output) : (d.modOut n f).out k = if k = n then f (d.out n) else d.out k := smGet_set _ _ _ _ _
@[simp] theorem plate_setPlate (d : Dev) (n k : Nat) (x : Plate) : (d.setPlate n x).plate k = if k = n then x else d.plate k := smGet_set _ _ _ _ _
@[simp] theorem plate_modPlate (d : Dev) (n k : Nat) (f : Plate → Plate) : (d.modPlate n f).plate k = if k = n then f (d.plate n) else d.plate k := smGet_set _ _ _ _ _
@[simp] theorem wit_setWit (d : Dev) (n k : Nat) (x : Wit) : (d.setWit n x).wit k = if k = n then x else d.wit k := smGet_set _ _ _ _ _
@[simp] theorem wit_modWit (d : Dev) (n k : Nat) (f : Wit → Wit) : (d.modWit n f).wit k = if k = n then f (d.wit n) else d.wit k := smGet_set _ _ _ _ _
@[simp] theorem mon_setMon (d : Dev) (n k : Nat) (x : RcSt) : (d.setMon n x).mon k = if k = n then x else d.mon k := smGet_set _ _ _ _ _
@[simp] theorem mon_modMon (d : Dev) (n k : Nat) (f : RcSt → RcSt) : (d.modMon n f).mon k = if k = n then f (d.mon n) else d.mon k := smGet_set _ _ _ _ _
@[simp] theorem ten_setTen (d : Dev) (n k : Nat) (x : Ten) : (d.setTen n x).ten k = if k = n then x else d.ten k := smGet_set _ _ _ _ _
@[simp] theorem ten_modTen (d : Dev) (n k : Nat) (f : Ten → Ten) : (d.modTen n f).ten k = if k = n then f (d.ten n) else d.ten k := smGet_set _ _ _ _ _
@[simp] theorem fe_setFe (d : Dev) (n k : Nat) (x : FrontEnd) : (d.setFe n x).fe k = if k = n then x else d.fe k := smGet_set _ _ _ _ _
@[simp] theorem fe_modFe (d : Dev) (n k : Nat) (f : FrontEnd → FrontEnd) : (d.modFe n f).fe k = if k = n then f (d.fe n) else d.fe k := smGet_set _ _ _ _ _
@[simp] theorem hap_setHap (d : Dev) (n k : Nat) (x : Haptic) : (d.setHap n x).hap k = if k = n then x else d.hap k := smGet_set _ _ _ _ _
@[simp] theorem hap_modHap (d : Dev) (n k : Nat) (f : Haptic → Haptic) : (d.modHap n f).hap k = if k = n then f (d.hap n) else d.hap k := smGet_set _ _ _ _ _
@[simp] theorem eth_setEth (d : Dev) (n k : Nat) (x : EthPort) : (d.setEth n x).eth k = if k = n then x else d.eth k := smGet_set _ _ _ _ _
@[simp] theorem eth_modEth (d : Dev) (n k : Nat) (f : EthPort → EthPort) : (d.modEth n f).eth k = if k = n then f (d.eth n) else d.eth k := smGet_set _ _ _ _ _
@[simp] theorem mdk_setMdk (d : Dev) (n k : Nat) (x : Mdk) : (d.setMdk n x).mdk k = if k = n then x else d.mdk k := smGet_set _ _ _ _ _
@[simp] theorem mdk_modMdk (d : Dev) (n k : Nat) (f : Mdk → Mdk) : (d.modMdk n f).mdk k = if k = n then f (d.mdk n) else d.mdk k := smGet_set _ _ _ _ _
@[simp] theorem pcie_setPcie (d : Dev) (n k : Nat) (x : Pcie) : (d.setPcie n x).pcie k = if k = n then x else d.pcie k := smGet_set _ _ _ _ _
@[simp] theorem pcie_modPcie (d : Dev) (n k : Nat) (f : Pcie → Pcie) : (d.modPcie n f).pcie k = if k = n then f (d.pcie n) else d.pcie k := smGet_set _ _ _ _ _
@[simp] theorem dp_setDp (d : Dev) (n k : Nat) (x : DpLink) : (d.setDp n x).dp k = if k = n then x else d.dp k := smGet_set _ _ _ _ _
@[simp] theorem dp_modDp (d : Dev) (n k : Nat) (f : DpLink → DpLink) : (d.modDp n f).dp k = if k = n then f (d.dp n) else d.dp k := smGet_set _ _ _ _ _
@[simp] theorem prt_setPrt (d : Dev) (n k : Nat) (x : PortSt) : (d.setPrt n x).prt k = if k = n then x else d.prt k := smGet_set _ _ _ _ _
@[simp] theorem prt_modPrt (d : Dev) (n k : Nat) (f : PortSt → PortSt) : (d.modPrt n f).prt k = if k = n then f (d.prt n) else d.prt k := smGet_set _ _ _ _ _

end Sys2Proof.Goals
end

section
/-!
PROOF. Mindanko delivers in order (14 R385): what each of its operations makes of a port.
-/

namespace Sys2Proof.Goals

open Sys2Proof Sys2Proof.Machine

/-! ### A port through what leaves it (14 R385, R386) -/

@[simp] theorem mdk_send (d : Dev) (o : Out) (p : Nat) : (d.send o).mdk p = d.mdk p := rfl

@[simp] theorem mdk_mdkCount (d : Dev) (q k n p : Nat) : (d.mdkCount q k n).mdk p = d.mdk p := rfl

@[simp] theorem mdk_when_mdkCount (d : Dev) (c : Bool) (q k n p : Nat) : (d.when c fun d => d.mdkCount q k n).mdk p = d.mdk p := by
  unfold Dev.when
  split <;> rfl

@[simp] theorem mdk_linkEvent (d : Dev) (link rate lanes : Nat) (up : Bool) (p : Nat) : (d.linkEvent link rate lanes up).mdk p = d.mdk p := by
  simp [Dev.mdk, Dev.linkEvent]

/-- What is sent for each element of a list leaves the ports. -/
@[simp] theorem mdk_each_send {α : Type} (d : Dev) (l : List α) (g : α → Out) (p : Nat) : (d.each l fun d a => d.send (g a)).mdk p = d.mdk p := by
  unfold Dev.each
  exact List.foldlRecOn (motive := fun e : Dev => e.mdk p = d.mdk p) _ _ rfl fun _ he _ _ => he

theorem mdkNak_mdk (d : Dev) (p : Nat) : (d.mdkNak p).mdk p = { d.mdk p with nakOut := true } := by simp [Dev.mdkNak]

theorem mdkAck_mdk (d : Dev) (p : Nat) : (d.mdkAck p).mdk p = { d.mdk p with sinceAck := 0, ackDue := false } := by simp [Dev.mdkAck]

/-- What a port becomes that enters a state: its link's frames and numbers stay in ACTIVE, IDLE and RECOVERY, and start anew in the others. -/
def entered (m : Mdk) (st : MdkSt) : Mdk :=
  if st = .active || st = .idle || st = .recovery then { m with st, eidleSent := false, eidleRcvd := false, commas := false }
  else { st, rxUp := m.rxUp && st != .down, inv := m.inv, skew := m.skew }

theorem mdkEnter_mdk (d : Dev) (p : Nat) (st : MdkSt) : (d.mdkEnter p st).mdk p = entered (d.mdk p) st := by
  unfold Dev.mdkEnter
  dsimp only
  rw [apply_ite (Dev.mdk · p)]
  simp [entered]

theorem linked_of_active {m : Mdk} (h : m.st = .active) : m.linked = true := by simp [Mdk.linked, h]

theorem not_test_of_linked {m : Mdk} (h : m.linked = true) : m.st ≠ .test := by
  intro ht
  simp [Mdk.linked, ht] at h

/-- A resend leaves the replay buffer. -/
theorem mdkResend_replay (d : Dev) (p seq : Nat) : ((d.mdkResend p seq).mdk p).replay = (d.mdk p).replay := by
  unfold Dev.mdkResend
  dsimp only
  split_ifs
  · rfl
  · simp [mdkEnter_mdk, entered]
  · simp

/-- The step by which a waiting frame is sent: it takes the next number and stands in the replay buffer. -/
def pumpFrame (p : Nat) (d : Dev) (f : Nat × Bytes) : Dev :=
  ((d.setMdk p { d.mdk p with txSeq := ((d.mdk p).txSeq + 1) % 65536, replay := (d.mdk p).replay ++ [((d.mdk p).txSeq, f.1, f.2)],
                              waiting := (d.mdk p).waiting.drop 1, eidleSent := false, eidleRcvd := false }).send
    (.mdk p mkFrame (d.mdk p).txSeq (u8 f.1 ++ f.2))).mdkCount p 0

theorem pumpFrame_replay (d : Dev) (p : Nat) (f : Nat × Bytes) :
    ((pumpFrame p d f).mdk p).replay = (d.mdk p).replay ++ [((d.mdk p).txSeq, f.1, f.2)] := by
  simp [pumpFrame]

theorem each_pumpFrame_replay (d : Dev) (p : Nat) (l : List (Nat × Bytes)) :
    ∃ new, ((d.each l (pumpFrame p)).mdk p).replay = (d.mdk p).replay ++ new ∧ new.length = l.length := by
  unfold Dev.each
  induction l generalizing d with
  | nil => exact ⟨[], by simp⟩
  | cons f l ih =>
    obtain ⟨new, hreplay, hlen⟩ := ih (pumpFrame p d f)
    refine ⟨((d.mdk p).txSeq, f.1, f.2) :: new, ?_, by simp [hlen]⟩
    rw [List.foldl_cons, hreplay, pumpFrame_replay, List.append_assoc, List.singleton_append]

/-- Of an active port the frames that are started follow those held, and are no more than wait. -/
theorem mdkPump_replay (d : Dev) (p : Nat) (hst : (d.mdk p).st = .active) :
    ∃ new, ((d.mdkPump p).mdk p).replay = (d.mdk p).replay ++ new ∧ new.length ≤ (d.mdk p).waiting.length := by
  unfold Dev.mdkPump
  dsimp only
  split
  · exact ⟨[], by simp⟩
  · rw [if_neg (by simp [hst])]
    obtain ⟨new, hreplay, hlen⟩ := each_pumpFrame_replay d p ((d.mdk p).waiting.take (64 - (d.mdk p).replay.length))
    exact ⟨new, hreplay, hlen ▸ List.length_take_le' ..⟩

/-! ### Order (14 R385) -/

/-- Whatever a linked port receives, its replay buffer and its own numbers stay, and it expects another number only past a frame it takes. -/
theorem mdkFrameOp_order {d : Dev} {p : Nat} (f : MdkFrame) (hl : (d.mdk p).linked = true) :
    ((mdkFrameOp p f d).mdk p).expect =
        (if f.ok = true ∧ f.room = true ∧ f.seq % 65536 = (d.mdk p).expect then ((d.mdk p).expect + 1) % 65536 else (d.mdk p).expect) ∧
      ((mdkFrameOp p f d).mdk p).replay = (d.mdk p).replay ∧ ((mdkFrameOp p f d).mdk p).txSeq = (d.mdk p).txSeq := by
  unfold mdkFrameOp
  dsimp only
  rw [if_neg (not_test_of_linked hl), if_neg (by simp [hl])]
  by_cases hok : f.ok = true
  · by_cases hseq : f.seq % 65536 = (d.mdk p).expect
    · by_cases hroom : f.room = true
      · rw [if_neg (by simp [hok]), if_pos hseq, if_neg (by simp [hroom])]
        unfold Dev.when
        split <;> simp [hok, hroom, hseq, mdkAck_mdk]
      · rw [if_neg (by simp [hok]), if_pos hseq, if_pos (by simp [hroom])]
        simp [hroom, mdkNak_mdk]
    · have hnot : ¬(f.ok = true ∧ f.room = true ∧ f.seq % 65536 = (d.mdk p).expect) := fun h => hseq h.2.2
      rw [if_neg (by simp [hok]), if_neg hseq, if_neg hnot]
      split_ifs <;> simp [ mdkNak_mdk, mdkAck_mdk]
  · have hnot : ¬(f.ok = true ∧ f.room = true ∧ f.seq % 65536 = (d.mdk p).expect) := fun h => hok h.1
    rw [if_pos (by simp [hok]), if_neg hnot]
    split_ifs <;> simp [mdkNak_mdk]

/-- Settles O43: frames, NAKs and ACKs in turn. -/
theorem mindankoKeepsOrder : Obligations.MindankoKeepsOrder := by
  refine ⟨fun d p f hl => mdkFrameOp_order f hl, fun d p seq hst => ?_, fun d p seq hst => ?_⟩
  · simp [mdkLinkctlOp, linked_of_active hst, mdkResend_replay]
  · simp only [mdkLinkctlOp, linked_of_active hst, Bool.not_true, Bool.false_and, Bool.false_eq_true, if_false, if_true]
    have hpump := mdkPump_replay (d.setMdk p { d.mdk p with
      replay := (d.mdk p).replay.filter fun f => serialGt 16 f.1 seq,
      resends := if ((d.mdk p).replay.filter fun f => serialGt 16 f.1 seq).length < (d.mdk p).replay.length then 0 else (d.mdk p).resends }) p
    simpa [hst] using hpump

end Sys2Proof.Goals
end

section
/-!
PROOF. More that starts nothing: parameters that come after SES.PORT_CFG in the table, writes of memory, units of the console. A command whose effect
starts nothing answers that effect on a quiet device.
-/

namespace Sys2Proof.Goals

open Sys2Proof Sys2Proof.Machine

/-! ### Parameters by their place in 19 Table 19.4 -/

/-- A parameter further on in the table has no key of a small slot of an earlier one. -/
theorem key_ne_later {p q : Par} {s : Nat} (t : Nat) (b : Bool) (hpq : p.ctorIdx < q.ctorIdx) (hs : s < 2 ^ 24) : p.key s false ≠ q.key t b := by
  have : (p.ctorIdx + 1) * 2 ^ 24 ≤ q.ctorIdx * 2 ^ 24 := Nat.mul_le_mul_right _ hpq
  cases b <;> simp only [Par.key, Bool.toNat_false, Bool.toNat_true] <;> omega

/-- A parameter reads as before a write of one further on in the table, whatever the slot. -/
theorem get_put_later {d : Dev} {p q : Par} {s t v : Nat} (hpq : p.ctorIdx < q.ctorIdx) (hs : s < 2 ^ 24) : (d.put q t v).get p s = d.get p s :=
  smGet_set_ne _ _ _ _ (key_ne_later t false hpq hs)

section
variable {S : Nat → Prop}

/-- Parameters after SES.PORT_CFG start nothing. -/
theorem put_undisturbed (d : Dev) {q : Par} (t v : Nat) (hq : Par.sesPortCfg.ctorIdx < q.ctorIdx) : Undisturbed S d (d.put q t v) :=
  ⟨rfl, rfl, rfl, rfl, fun _ hp => get_put_later hq (by omega), fun _ _ => rfl⟩

/-- What leaves commits, cartouche commits, tenancies, sessions, parameters and memory starts nothing. -/
theorem Undisturbed.of_eqs {d d' : Dev} (hcommits : d'.commits = d.commits) (hcarts : d'.carts = d.carts) (htens : d'.tens = d.tens)
    (hsessions : d'.sessions = d.sessions) (hregs : d'.regs = d.regs) (hmem : d'.mem.cells = d.mem.cells) : Undisturbed S d d' where
  commits := hcommits
  carts := hcarts
  tens := htens
  waits := by rw [hsessions]
  listens _ _ := by simp only [Dev.get, hregs]
  bytes _ _ := by simp only [Dev.peek, hmem]

theorem modFe_undisturbed (d : Dev) (t : Nat) (f : FrontEnd → FrontEnd) : Undisturbed S d (d.modFe t f) := .of_eqs rfl rfl rfl rfl rfl rfl

theorem fresh_undisturbed (d : Dev) : Undisturbed S d d.fresh.2 := .of_eqs rfl rfl rfl rfl rfl rfl

end

/-- Nothing is started, whatever is written into memory. -/
abbrev Calm (d d' : Dev) : Prop := Undisturbed (fun _ => False) d d'

theorem poke_calm (d : Dev) (a : Nat) (bs : Bytes) : Calm d (d.poke a bs) := by
  rw [Dev.poke_frame]
  exact ⟨rfl, rfl, rfl, rfl, fun _ _ => rfl, fun _ h => h.elim⟩

/-- A command whose effect starts nothing answers that effect on a quiet device. -/
theorem onDev_settled {wf : Bool} {f : Dev → Dev} {s : State} (hwf : wf = true) (hq : Quiet s.dev) (hcalm : Calm s.dev (f s.dev)) :
    onDev wf (fun d => (f d).settled) s = .next { s with dev := f s.dev } := by
  rw [onDev, if_pos hwf, settled_quiet _ (hcalm.quiet hq)]

end Sys2Proof.Goals
end

section
/-!
PROOF. Contacts of a front-end (12 R312): a lone node that stands out starts one at its own place, and a frame with no such node ends them all.
-/

namespace Sys2Proof.Goals

open Sys2Proof Sys2Proof.Machine

/-! ### Reports leave the front-ends (12 R322, R323) -/

@[simp] theorem fe_poke (d : Dev) (a : Nat) (bs : Bytes) (u : Nat) : (d.poke a bs).fe u = d.fe u := by
  rw [Dev.poke_frame]
  rfl

@[simp] theorem fe_raise (d : Dev) (r : Session → Bool) (e : Event) (u : Nat) : (d.raise r e).fe u = d.fe u := by simp [Dev.fe]

@[simp] theorem fe_when_raise (d : Dev) (c : Bool) (r : Session → Bool) (e : Event) (u : Nat) : (d.when c fun d => d.raise r e).fe u = d.fe u := by
  unfold Dev.when
  split <;> simp

@[simp] theorem fe_put (d : Dev) (p : Par) (k v u : Nat) : (d.put p k v).fe u = d.fe u := rfl

@[simp] theorem fe_count2 (d : Dev) (p : Par) (x y n u : Nat) : (d.count2 p x y n).fe u = d.fe u := rfl

@[simp] theorem fe_setTring (d : Dev) (r : Nat) (x : RingSt) (u : Nat) : (d.setTring r x).fe u = d.fe u := rfl

@[simp] theorem fe_putBytes (d : Dev) (a : Nat) (b : Bytes) (u : Nat) : (d.putBytes a b).fe u = d.fe u := by
  unfold Dev.putBytes
  split
  · rfl
  · exact fe_poke ..

theorem touchRecord_fe (d : Dev) (r : Nat) (p : TouchRep) (u : Nat) : (d.touchRecord r p).fe u = d.fe u := by
  unfold Dev.touchRecord
  dsimp only
  split_ifs <;> simp only [fe_count2, fe_setTring, fe_when_raise, fe_put, fe_putBytes]

theorem reportTouch_fe (d : Dev) (t kind : Nat) (c : Contact) (noisy : Bool) (u : Nat) : (d.reportTouch t kind c noisy).fe u = d.fe u := by
  unfold Dev.reportTouch
  split
  · rfl
  · split
    · rfl
    · exact touchRecord_fe ..

theorem putBytes_calm (d : Dev) (a : Nat) (b : Bytes) : Calm d (d.putBytes a b) := by
  unfold Dev.putBytes Dev.busWrite
  split
  · exact send_undisturbed ..
  · exact poke_calm ..

theorem setTring_calm (d : Dev) (r : Nat) (x : RingSt) : Calm d (d.setTring r x) := .of_eqs rfl rfl rfl rfl rfl rfl

theorem setFe_calm (d : Dev) (t : Nat) (x : FrontEnd) : Calm d (d.setFe t x) := .of_eqs rfl rfl rfl rfl rfl rfl

theorem grtStat_calm (d : Dev) (t k : Nat) : Calm d (d.count2 .grtStat t k) := put_undisturbed d _ _ (by decide)

theorem touchRecord_calm (d : Dev) (r : Nat) (p : TouchRep) : Calm d (d.touchRecord r p) := by
  unfold Dev.touchRecord
  dsimp only
  split_ifs
  · exact grtStat_calm ..
  · exact (grtStat_calm d _ _).trans (setTring_calm ..)
  · exact (putBytes_calm d _ _).trans <| (put_undisturbed _ r _ (by decide)).trans <| (setTring_calm ..).trans <|
      (when_undisturbed _ fun _ => raise_undisturbed ..).trans (when_undisturbed _ fun _ => raise_undisturbed ..)

theorem reportTouch_calm (d : Dev) (t kind : Nat) (c : Contact) (noisy : Bool) : Calm d (d.reportTouch t kind c noisy) := by
  unfold Dev.reportTouch
  split
  · exact .refl d
  · split
    · exact .refl d
    · exact touchRecord_calm ..

/-! ### The end of a frame (12 R311) -/

theorem hopTest_fe (d : Dev) (t : Nat) :
    ((d.hopTest t).fe t).contacts = (d.fe t).contacts ∧ ((d.hopTest t).fe t).frames = (d.fe t).frames := by
  unfold Dev.hopTest
  dsimp only
  split_ifs <;> simp

theorem hopTest_calm (d : Dev) (t : Nat) : Calm d (d.hopTest t) := by
  unfold Dev.hopTest
  dsimp only
  generalize (if (bit (d.feCfg t) 62 && louder (d.fe t).noise (d.fe t).freq 4) = true then (d.fe t).hopRun + 1 else 0) = run
  split
  · exact (setFe_calm d t _).trans <| (grtStat_calm ..).trans (raise_undisturbed ..)
  · exact setFe_calm ..

/-- With no recalibration in progress a frame's values enter none. -/
theorem recalFrame_idle {d : Dev} {t : Nat} (vals : List (Nat × Int)) (h : (d.fe t).recal = 0) : d.recalFrame t vals = d := if_pos h

/-! ### A frame on a quiet front-end (12 R309 to R315) -/

/-- The device as a scan frame is counted and its noise averaged. -/
def scanned (d : Dev) (t : Nat) (noise : List Nat) : Dev :=
  (d.count2 .grtStat t 0).modFe t fun fe =>
    { fe with frames := fe.frames + 1, noise := (List.range 16).map fun k => smooth fe.noise[k]? (noise.getD k 0) }

theorem scanned_fe (d : Dev) (t : Nat) (noise : List Nat) :
    (scanned d t noise).fe t =
      { d.fe t with frames := (d.fe t).frames + 1, noise := (List.range 16).map fun k => smooth (d.fe t).noise[k]? (noise.getD k 0) } := by
  simp [scanned]

theorem scanned_calm (d : Dev) (t : Nat) (noise : List Nat) : Calm d (scanned d t noise) := (grtStat_calm d t 0).trans (modFe_undisturbed ..)

theorem scanned_feCfg (d : Dev) {t : Nat} (ht : t < 4) (noise : List Nat) : (scanned d t noise).feCfg t = d.feCfg t := by
  unfold Dev.feCfg
  rw [if_pos ht, if_pos ht]
  exact get_put_later (by decide) (by omega)

/-- A frame that brings no first baseline, and whose nodes are not suspect. -/
theorem touchScanOp_unsuspect {d : Dev} {t : Nat} {f : ScanFrame} {vals ds : List (Nat × Int)} {noisy : Bool} {e : Dev}
    (hscan : d.feScans t = true) (he : scanned d t f.noise = e)
    (hvals : ((f.nodes.filter fun n => decide (n.sense < bits (d.feCfg t) 51 45 ∧ n.drive < bits (d.feCfg t) 57 52)).map fun n =>
      (nodeKey n.sense n.drive, n.value)) = vals)
    (hfirst : (d.fe t).firstScan = false) (hsus : (d.fe t).suspect = false)
    (hds : vals.map (fun v => (v.1, (d.fe t).baseOf (d.fe t).freq v.1 - v.2)) = ds) (hnoisy : louder (e.fe t).noise (e.fe t).freq 16 = noisy)
    (hfew : e.suspectTest t (bits (d.feCfg t) 51 45 * bits (d.feCfg t) 57 52) ds = e) :
    let tracked := e.each (e.fe t).contacts fun d c => d.trackTouch t ds noisy c
    let hot := (ds.filter fun e => decide (touchTh (d.feCfg t) ≤ e.2)).map (·.1)
    let started := tracked.each (hot.filter (tracked.fe t).starting.contains) fun d k => d.startTouch t ds noisy k
    touchScanOp t f d = (((((started.modFe t fun fe => { fe with starting := hot }).each ds fun d e => d.driftNode t e).recalFrame t vals).hopTest t)) := by
  have hfe := scanned_fe d t f.noise
  rw [he] at hfe
  have hf : e.firstScan t vals = e := if_neg (by rw [hfe]; simp [hfirst])
  have hd : vals.map (fun v => (v.1, (e.fe t).baseOf (e.fe t).freq v.1 - v.2)) = ds := by rw [← hds, hfe]; rfl
  unfold touchScanOp
  rw [if_neg (by simp [hscan])]
  dsimp only
  unfold scanned at he
  rw [he, hvals, hf, hd, hnoisy, hfew, if_neg (by rw [hfe]; simp [hsus])]

end Sys2Proof.Goals
end

section
/-!
PROOF. The life of a contact (12 R312): in a frame with no node that stands out every contact ends; a lone node at TOUCH_TH for a second frame starts one.
-/

namespace Sys2Proof.Goals

open Sys2Proof Sys2Proof.Machine

/-! ### Every contact ends -/

/-- With no node that stands out a contact ends with UP. -/
theorem trackTouch_nil (d : Dev) (t : Nat) (noisy : Bool) (c : Contact) :
    d.trackTouch t [] noisy c = (d.reportTouch t 3 c noisy).modFe t fun fe => { fe with contacts := fe.contacts.filter (·.id != c.id) } := rfl

theorem trackTouch_nil_calm (d : Dev) (t : Nat) (noisy : Bool) (c : Contact) : Calm d (d.trackTouch t [] noisy c) := by
  rw [trackTouch_nil]
  exact (reportTouch_calm ..).trans (modFe_undisturbed ..)

theorem trackTouch_nil_fe (d : Dev) (t : Nat) (noisy : Bool) (c : Contact) :
    (d.trackTouch t [] noisy c).fe t = { d.fe t with contacts := (d.fe t).contacts.filter (·.id != c.id) } := by
  simp [trackTouch_nil, reportTouch_fe]

/-- Contacts that end leave those of other numbers, and the rest of the front-end. -/
theorem each_trackTouch_nil_fe (l : List Contact) (d : Dev) (t : Nat) (noisy : Bool) :
    (d.each l fun d c => d.trackTouch t [] noisy c).fe t =
      { d.fe t with contacts := (d.fe t).contacts.filter fun x => decide (∀ c ∈ l, x.id ≠ c.id) } := by
  unfold Dev.each
  induction l generalizing d with
  | nil => simp
  | cons c l ih =>
    rw [List.foldl_cons, ih, trackTouch_nil_fe]
    simp only [List.filter_filter]
    congr 1
    refine List.filter_congr fun x _ => ?_
    simp [bne, beq_eq_decide, Bool.and_comm]

/-- After a frame with no node that stands out a front-end has no contact. -/
theorem touchScanOp_empty {d : Dev} {t : Nat} {noise : List Nat} (hscan : d.feScans t = true) (hsus : (d.fe t).suspect = false)
    (hfirst : (d.fe t).firstScan = false) (hrecal : (d.fe t).recal = 0) :
    Calm d (touchScanOp t { nodes := [], noise } d) ∧ ((touchScanOp t { nodes := [], noise } d).fe t).contacts = [] ∧
      ((touchScanOp t { nodes := [], noise } d).fe t).frames = (d.fe t).frames + 1 := by
  rw [touchScanOp_unsuspect (vals := []) (ds := []) hscan rfl rfl hfirst hsus rfl rfl (by simp [Dev.suspectTest])]
  simp only [List.filter_nil, List.map_nil, Dev.each, List.foldl_nil]
  generalize louder _ _ 16 = noisy
  have hcalm := each_undisturbed (fun d c => trackTouch_nil_calm d t noisy c) ((scanned d t noise).fe t).contacts (scanned d t noise)
  have hfe := each_trackTouch_nil_fe ((scanned d t noise).fe t).contacts (scanned d t noise) t noisy
  unfold Dev.each at hcalm hfe
  generalize List.foldl _ (scanned d t noise) _ = e at hcalm hfe ⊢
  have hnone : (((scanned d t noise).fe t).contacts.filter fun x => decide (∀ c ∈ ((scanned d t noise).fe t).contacts, x.id ≠ c.id)) = [] := by
    rw [List.filter_eq_nil_iff]
    exact fun x hx h => of_decide_eq_true h x hx rfl
  rw [hnone, scanned_fe] at hfe
  rw [recalFrame_idle _ (by simp [hfe, hrecal])]
  obtain ⟨hcontacts, hframes⟩ := hopTest_fe (e.modFe t fun fe => { fe with starting := [] }) t
  refine ⟨(scanned_calm d t noise).trans <| hcalm.trans <| (modFe_undisturbed ..).trans (hopTest_calm ..), ?_, ?_⟩
  · simp [hcontacts, hfe]
  · simp [hframes, hfe]

/-! ### A contact starts -/

theorem bits_lt (v hi lo : Nat) : bits v hi lo < 2 ^ (hi + 1 - lo) := Nat.mod_lt _ (Nat.two_pow_pos _)

theorem nodeKey_inj {s v a b : Nat} (hs : s < 128) (ha : a < 128) : nodeKey a b = nodeKey s v ↔ a = s ∧ b = v := by
  unfold nodeKey
  omega

theorem nodeKey_sense {s : Nat} (v : Nat) (hs : s < 128) : nodeKey s v % 128 = s := by unfold nodeKey; omega

theorem nodeKey_drive {s : Nat} (v : Nat) (hs : s < 128) : nodeKey s v / 128 = v := by unfold nodeKey; omega

/-- Of a lone node every other node of the panel has no delta. -/
theorem deltaAt_lone {s v a b : Nat} (hs : s < 128) (ha : a < 128) (z : Int) :
    deltaAt [(nodeKey s v, z)] (nodeKey a b) = if a = s ∧ b = v then z else 0 := by
  unfold deltaAt
  by_cases h : a = s ∧ b = v
  · obtain ⟨rfl, rfl⟩ := h
    simp
  · have hk : ¬nodeKey s v = nodeKey a b := fun hk => h ((nodeKey_inj hs ha).mp hk.symm)
    simp [h, hk]

/-- The places around one on an axis of `n`: each once, itself among them. -/
theorem places_nodup (s n : Nat) : ([s - 1, s, s + 1].eraseDups.filter (· < n)).Nodup := by
  refine List.Nodup.filter _ ?_
  cases s with
  | zero => decide
  | succ s =>
    have hdups : [s + 1 - 1, s + 1, s + 1 + 1].eraseDups = [s, s + 1, s + 2] := by
      have hne : s + 1 + 1 ≠ s := by omega
      simp [List.eraseDups_cons, hne]
    rw [hdups]
    simp

theorem mem_places {s n : Nat} (hs : s < n) : s ∈ [s - 1, s, s + 1].eraseDups.filter (· < n) := by
  simp [List.mem_filter, hs]

theorem around_nodup (senses drives s v : Nat) : (around senses drives s v).Nodup := (places_nodup s senses).product (places_nodup v drives)

theorem mem_around {senses drives s v : Nat} (hs : s < senses) (hv : v < drives) : (s, v) ∈ around senses drives s v :=
  List.mem_product.mpr ⟨mem_places hs, mem_places hv⟩

/-- The nodes around one lie on the panel. -/
theorem around_lt {senses drives s v : Nat} {p : Nat × Nat} (h : p ∈ around senses drives s v) : p.1 < senses := by
  obtain ⟨ha, -⟩ := List.mem_product.mp (show p ∈ List.product _ _ from h)
  simpa using (List.mem_filter.mp ha).2

/-- A sum over the nodes around one to which no other contributes. -/
theorem sum_around {senses drives s v : Nat} (hs : s < senses) (hv : v < drives) (f : Nat × Nat → Nat)
    (hf : ∀ p ∈ around senses drives s v, p ≠ (s, v) → f p = 0) : ((around senses drives s v).map f).sum = f (s, v) := by
  rw [← List.sum_toFinset f (around_nodup ..)]
  exact Finset.sum_eq_single (s, v) (fun p hp => hf p (List.mem_toFinset.mp hp)) fun h => absurd (List.mem_toFinset.mpr (mem_around hs hv)) h

/-- The centroid around a lone node is the node's own place. -/
theorem centroid_lone {senses drives s v : Nat} {z rel : Int} (hs : s < senses) (hv : v < drives) (hsenses : senses ≤ 128) (hrel : 0 ≤ rel)
    (hz : rel < z) : centroid [(nodeKey s v, z)] rel senses drives s v = some (64 * s, 64 * v) := by
  have weight : ∀ p ∈ around senses drives s v, p ≠ (s, v) → (max 0 (2 * deltaAt [(nodeKey s v, z)] (nodeKey p.1 p.2) - rel)).toNat = 0 := by
    intro p hp hne
    have := around_lt hp
    rw [deltaAt_lone (by omega) (by omega), if_neg fun h => hne (Prod.ext h.1 h.2)]
    omega
  have hself : (max 0 (2 * deltaAt [(nodeKey s v, z)] (nodeKey s v) - rel)).toNat = (2 * z - rel).toNat := by
    rw [deltaAt_lone (by omega) (by omega), if_pos ⟨rfl, rfl⟩, max_eq_right (by omega)]
  have hpos : 0 < (2 * z - rel).toNat := by omega
  unfold centroid
  simp only [List.map_map, Function.comp_def]
  rw [sum_around hs hv _ weight, sum_around hs hv _ fun p hp hne => by rw [weight p hp hne, Nat.mul_zero],
    sum_around hs hv _ fun p hp hne => by rw [weight p hp hne, Nat.mul_zero], hself, if_neg hpos.ne', Nat.mul_div_cancel _ hpos,
    Nat.mul_div_cancel _ hpos]

/-- A lone node that has stood out before starts contact 0 at its own place. -/
theorem startTouch_lone {d : Dev} {t s v : Nat} {z : Int} (noisy : Bool) (hs : s < bits (d.feCfg t) 51 45) (hv : v < bits (d.feCfg t) 57 52)
    (hrel : releaseTh (d.feCfg t) < z) (hnone : (d.fe t).contacts = []) :
    d.startTouch t [(nodeKey s v, z)] noisy (nodeKey s v) =
      let c : Contact :=
        { id := 0, sense := s, drive := v, x := 64 * s, y := 64 * v, z := z.toNat, ax := 64 * s, ay := 64 * v, at_ := d.tim.elapsed,
          recipient := some (d.routeTouch t (64 * s) (64 * v)).1, region := (d.routeTouch t (64 * s) (64 * v)).2, fresh := false }
      (d.modFe t fun fe => { fe with contacts := fe.contacts ++ [c] }).reportTouch t 1 c noisy := by
  have hsenses : bits (d.feCfg t) 51 45 ≤ 128 := (bits_lt _ 51 45).le
  have hrel0 : 0 ≤ releaseTh (d.feCfg t) := Int.natCast_nonneg _
  have hself : deltaAt [(nodeKey s v, z)] (nodeKey s v) = z := by rw [deltaAt_lone (by omega) (by omega), if_pos ⟨rfl, rfl⟩]
  have hpeak : ((around (bits (d.feCfg t) 51 45) (bits (d.feCfg t) 57 52) s v).all fun p =>
      decide (deltaAt [(nodeKey s v, z)] (nodeKey p.1 p.2) ≤ z)) = true := by
    rw [List.all_eq_true]
    intro p hp
    have := around_lt hp
    rw [deltaAt_lone (by omega) (by omega), decide_eq_true_eq]
    split <;> omega
  have hid : freeId [] = 0 := rfl
  unfold Dev.startTouch Dev.placeTouch
  simp only [nodeKey_sense v (show s < 128 by omega), nodeKey_drive v (show s < 128 by omega), hpeak, hnone, List.any_nil, Bool.not_true, Bool.or_false,
    Bool.false_eq_true, if_false, centroid_lone hs hv hsenses hrel0 hrel, hself, hid, show ¬10 ≤ 0 by omega]

/-- A contact at a node keeps its baseline. -/
theorem driftNode_touched {d : Dev} {t : Nat} {c : Contact} {e : Nat × Int} (ht : t < 4) (hc : (d.fe t).contacts = [c]) (hs : e.1 % 128 = c.sense)
    (hv : e.1 / 128 = c.drive) : d.driftNode t e = d := by
  unfold Dev.driftNode
  simp [hc, ht, hs, hv, nearNode]

/-- A lone node at TOUCH_TH for a second frame starts a contact. -/
theorem touchScanOp_lone {d : Dev} {t : Nat} {noise : List Nat} {n : Node} (ht : t < 4) (hscan : d.feScans t = true) (hsus : (d.fe t).suspect = false)
    (hfirst : (d.fe t).firstScan = false) (hrecal : (d.fe t).recal = 0) (hs : n.sense < bits (d.feCfg t) 51 45) (hv : n.drive < bits (d.feCfg t) 57 52)
    (hpanel : 4 ≤ bits (d.feCfg t) 51 45 * bits (d.feCfg t) 57 52) (hrel : releaseTh (d.feCfg t) < touchTh (d.feCfg t))
    (hdelta : touchTh (d.feCfg t) ≤ (d.fe t).baseOf (d.fe t).freq (nodeKey n.sense n.drive) - n.value)
    (hsecond : nodeKey n.sense n.drive ∈ (d.fe t).starting) (hnone : (d.fe t).contacts = []) :
    let e := touchScanOp t { nodes := [n], noise } d
    Calm d e ∧ (e.fe t).frames = (d.fe t).frames + 1 ∧ ∃ c, (e.fe t).contacts = [c] ∧ c.id = 0 ∧ c.x = 64 * n.sense ∧ c.y = 64 * n.drive ∧
      c.z = ((d.fe t).baseOf (d.fe t).freq (nodeKey n.sense n.drive) - n.value).toNat ∧
      (c.recipient, c.region) = (some (d.routeTouch t (64 * n.sense) (64 * n.drive)).1, (d.routeTouch t (64 * n.sense) (64 * n.drive)).2) := by
  generalize hz : (d.fe t).baseOf (d.fe t).freq (nodeKey n.sense n.drive) - n.value = z at hdelta
  have hfe := scanned_fe d t noise
  have hcfg := scanned_feCfg d ht noise
  have hcalm := scanned_calm d t noise
  have hroute : ∀ x y, (scanned d t noise).routeTouch t x y = d.routeTouch t x y := fun _ _ => rfl
  have hdrive : n.sense < 128 := hs.trans (bits_lt _ 51 45)
  have hfew : (scanned d t noise).suspectTest t (bits (d.feCfg t) 51 45 * bits (d.feCfg t) 57 52) [(nodeKey n.sense n.drive, z)] = scanned d t noise := by
    refine if_neg fun h => ?_
    have := List.length_filter_le (fun e : Nat × Int => decide ((touchTh ((scanned d t noise).feCfg t)).toNat ≤ e.2.natAbs)) [(nodeKey n.sense n.drive, z)]
    simp only [List.length_cons, List.length_nil] at this
    omega
  have hop := touchScanOp_unsuspect (f := { nodes := [n], noise }) (vals := [(nodeKey n.sense n.drive, n.value)]) (ds := [(nodeKey n.sense n.drive, z)])
    hscan rfl (by simp [hs, hv]) hfirst hsus (by simp [hz]) rfl hfew
  dsimp only at hop ⊢
  rw [hop]
  generalize scanned d t noise = e at *
  have hcontacts : (e.fe t).contacts = [] := by rw [hfe]; exact hnone
  have hstart := startTouch_lone (d := e) (t := t) (s := n.sense) (v := n.drive) (z := z) (louder (e.fe t).noise (e.fe t).freq 16)
    (hcfg ▸ hs) (hcfg ▸ hv) (by rw [hcfg]; omega) hcontacts
  simp only [hroute] at hstart
  have hhot : ([(nodeKey n.sense n.drive, z)].filter fun e => decide (touchTh (d.feCfg t) ≤ e.2)).map (·.1) = [nodeKey n.sense n.drive] := by
    simp [hdelta]
  have hstarting : [nodeKey n.sense n.drive].filter (e.fe t).starting.contains = [nodeKey n.sense n.drive] := by
    rw [hfe]
    simp [hsecond]
  simp only [hhot, hcontacts, Dev.each, List.foldl_nil, hstarting, List.foldl_cons, hstart]
  generalize louder _ _ 16 = noisy
  generalize hc : Contact.mk _ _ _ _ _ _ _ _ _ _ _ _ _ = c
  have hreport := (modFe_undisturbed e t _).trans (reportTouch_calm (e.modFe t fun fe => { fe with contacts := fe.contacts ++ [c] }) t 1 c noisy)
  have hreportFe := reportTouch_fe (e.modFe t fun fe => { fe with contacts := fe.contacts ++ [c] }) t 1 c noisy t
  generalize Dev.reportTouch _ t 1 c noisy = r at hreport hreportFe ⊢
  rw [fe_modFe, if_pos rfl, hfe] at hreportFe
  rw [driftNode_touched (c := c) ht (by simp [hreportFe, hnone]) (by simp [← hc, nodeKey_sense _ hdrive]) (by simp [← hc, nodeKey_drive _ hdrive]),
    recalFrame_idle _ (by simp [hreportFe, hrecal])]
  obtain ⟨hcontacts', hframes⟩ := hopTest_fe (r.modFe t fun fe => { fe with starting := [nodeKey n.sense n.drive] }) t
  refine ⟨hcalm.trans <| hreport.trans <| (modFe_undisturbed ..).trans (hopTest_calm ..), ?_, c, ?_, ?_⟩
  · simp [hframes, hreportFe]
  · simp [hcontacts', hreportFe, hnone]
  · subst hc
    exact ⟨rfl, rfl, rfl, rfl, rfl⟩

theorem exec_touchScanFrame {t : Nat} {f : ScanFrame} {s : State} (ht : t < 4) (hq : Quiet s.dev) (hcalm : Calm s.dev (touchScanOp t f s.dev)) :
    exec (.touchScanFrame t f) s = .next { s with dev := touchScanOp t f s.dev } :=
  onDev_settled (decide_eq_true ht) hq hcalm

/-- Settles O31: a second frame with a lone node, and a frame with none. -/
theorem contactsStartAndEnd : Obligations.ContactsStartAndEnd := by
  intro s t noise ht hq hscan hsus hfirst hrecal
  have hcfg : s.dev.feCfg t = s.dev.get .grtFeCfg t := if_pos ht
  refine ⟨fun n => ?_, ?_⟩
  · dsimp only
    rw [← hcfg]
    intro hs hv hpanel hrel hdelta hsecond hnone
    obtain ⟨hcalm, hframes, c, hcontacts, hid, hx, hy, hz, hroute⟩ :=
      touchScanOp_lone (noise := noise) ht hscan hsus hfirst hrecal hs hv hpanel hrel hdelta hsecond hnone
    exact ⟨_, exec_touchScanFrame ht hq hcalm, c, hcontacts, hid, hx, hy, hz, hroute, hframes⟩
  · obtain ⟨hcalm, hend⟩ := touchScanOp_empty (noise := noise) hscan hsus hfirst hrecal
    exact ⟨_, exec_touchScanFrame ht hq hcalm, hend⟩

end Sys2Proof.Goals
end

section
/-!
PROOF. The step and the device clock (03 R68, R70, R81): what a cycle and a step of the clock leave in the time unit.
-/

namespace Sys2Proof.Goals

open Sys2Proof Sys2Proof.Machine

/-- Settles O1: by the definition of a step. -/
theorem stepRunsFront : Obligations.StepRunsFront := fun _ _ _ => rfl

/-- Settles O2: by the definition of a step. -/
theorem stepOnEmptyQueueTicks : Obligations.StepOnEmptyQueueTicks := fun _ => rfl

/-- Settles O50: the state after reset is a literal. -/
theorem resetState : Obligations.ResetState := by
  unfold Obligations.ResetState
  exact ⟨rfl, rfl, rfl, rfl, rfl, rfl, rfl, rfl, rfl, rfl, rfl, rfl, rfl, rfl, rfl, rfl, rfl, rfl⟩

/-! ### A cycle (03 R68) -/

/-- The time in 2⁻³² ns after a cycle's advance, before the carry. -/
def advanced (t : TimeU) : Nat := (((t.ns.toNat * 2 ^ 32 + t.f.toNat + 2 * 2 ^ 32 : Nat) : Int) + t.adj.toInt).toNat

theorem advanced_eq (t : TimeU) : (advanced t : Int) = t.ns.toNat * 2 ^ 32 + t.f.toNat + 2 * 2 ^ 32 + t.adj.toInt := by
  have := t.adj.le_toInt
  unfold advanced
  omega

theorem advanced_lt {t : TimeU} (h : t.ns.toNat < 1000000000) : advanced t / 2 ^ 32 < 1000000000 + 3 := by
  have := advanced_eq t
  have := t.adj.toInt_lt
  have := t.f.isLt
  omega

theorem tick_f (t : TimeU) : t.tick.f.toNat = advanced t % 2 ^ 32 := BitVec.toNat_ofNat ..

theorem tick_ns {t : TimeU} (h : t.ns.toNat < 1000000000) :
    t.tick.ns.toNat = if 1000000000 ≤ advanced t / 2 ^ 32 then advanced t / 2 ^ 32 - 1000000000 else advanced t / 2 ^ 32 := by
  have := advanced_lt h
  refine (BitVec.toNat_ofNat ..).trans (Nat.mod_eq_of_lt ?_)
  change (if 1000000000 ≤ advanced t / 2 ^ 32 then advanced t / 2 ^ 32 - 1000000000 else advanced t / 2 ^ 32) < 2 ^ 30
  split <;> omega

theorem tick_s (t : TimeU) : t.tick.s.toNat = if 1000000000 ≤ advanced t / 2 ^ 32 then (t.s.toNat + 1) % 2 ^ 48 else t.s.toNat := by
  change (if 1000000000 ≤ advanced t / 2 ^ 32 then t.s + 1 else t.s).toNat = _
  split
  · exact BitVec.toNat_add ..
  · rfl

/-! ### A step of the clock (03 R68, R81) -/

theorem steppedTo_lt (now : Ns) (size : Int) : steppedTo now size < 2 ^ 48 * 1000000000 := by
  have h := Int.emod_lt_of_pos ((now : Int) + size) (show (0 : Int) < 2 ^ 48 * 1000000000 by decide)
  have := Int.emod_nonneg ((now : Int) + size) (show ((2 : Int) ^ 48 * 1000000000) ≠ 0 by decide)
  unfold steppedTo
  generalize ((now : Int) + size) % (2 ^ 48 * 1000000000) = x at *
  change x.toNat < 2 ^ 48 * 1000000000
  omega

theorem tsoSchedule_tim (d : Dev) (n : Nat) : ∃ x, (d.tsoSchedule n).tim = { d.tim with tsoNext := x } := ⟨_, rfl⟩

/-- Scheduling timed outputs changes their next edges alone. -/
theorem each_tsoSchedule_tim (l : List Nat) (d : Dev) : ∃ x, (d.each l fun d n => d.tsoSchedule n).tim = { d.tim with tsoNext := x } := by
  unfold Dev.each
  induction l generalizing d with
  | nil => exact ⟨_, rfl⟩
  | cons n l ih =>
    obtain ⟨x, hx⟩ := ih (d.tsoSchedule n)
    exact ⟨x, by rw [List.foldl_cons, hx]; rfl⟩

theorem audit_tim (d : Dev) (code : Nat) (data : Bytes) : (d.audit code data).tim = d.tim := by
  obtain ⟨chain, cells, h⟩ := Dev.audit_frame d code data 0xFF 0xFF
  rw [h]

/-- The time unit after a step: the clock moved, the next epoch, the step logged, and the timed outputs' next edges. -/
theorem stepClock_tim (d : Dev) (size : Int) (auto : Bool) :
    ∃ x, (d.stepClock size auto).tim =
      { d.tim.setNow (steppedTo d.now size) with
        epoch := BitVec.ofNat 4 ((d.epoch + 1) % 16)
        log := ({ size, epoch := (d.epoch + 1) % 16, after := steppedTo d.now size, auto } :: d.tim.log).take 15
        lastStep := some d.tim.elapsed
        tsoNext := x } := by
  unfold Dev.stepClock
  dsimp only
  rw [raise_tim, audit_tim]
  exact each_tsoSchedule_tim _ _

theorem setNow_now {d : Dev} {n : Nat} (hn : n < 2 ^ 48 * 1000000000) (h : ∃ t : TimeU, d.tim = t ∧ t.s = (t.setNow n).s ∧ t.ns = (t.setNow n).ns) :
    d.now = n ∧ d.tim.ns.toNat < 1000000000 := by
  obtain ⟨t, rfl, hs, hns⟩ := h
  unfold Dev.now
  rw [hs, hns]
  simp only [TimeU.setNow, BitVec.toNat_ofNat]
  exact ⟨show (_ : Nat) = n by omega, by omega⟩

theorem stepClock_now (d : Dev) (size : Int) (auto : Bool) :
    (d.stepClock size auto).now = steppedTo d.now size ∧ (d.stepClock size auto).tim.ns.toNat < 1000000000 := by
  obtain ⟨x, h⟩ := stepClock_tim d size auto
  exact setNow_now (steppedTo_lt ..) ⟨_, h, rfl, rfl⟩

/-- Settles O9: a cycle carries at most one second, and S wraps at 48 bits. -/
theorem clockCountsAndSteps : Obligations.ClockCountsAndSteps := by
  refine ⟨fun t h => ?_, fun d size auto => ?_⟩
  · have hadv := advanced_eq t
    have hlt := advanced_lt h
    have hs := t.s.isLt
    simp only [tick_f, tick_ns h, tick_s]
    split <;> constructor <;> omega
  · obtain ⟨hnow, hns⟩ := stepClock_now d size auto
    refine ⟨hns, ?_⟩
    rw [hnow]
    unfold steppedTo
    omega

/-- Settles O10: from what a step leaves in the time unit. -/
theorem stepOpensEpochAndIsLogged : Obligations.StepOpensEpochAndIsLogged := by
  intro d size auto
  obtain ⟨hnow, -⟩ := stepClock_now d size auto
  obtain ⟨x, h⟩ := stepClock_tim d size auto
  refine ⟨?_, hnow, by rw [h], fun i hi => ?_⟩
  · simp [Dev.epoch, h]
  · simp only [Dev.stepLog, List.getElem?_eq_none hi]

end Sys2Proof.Goals
end

section
/-!
PROOF. What every proof of a command's completion uses: a well-formed command answers its effect, and an opcode whose checks pass runs its body.
-/

namespace Sys2Proof.Goals

open Sys2Proof Sys2Proof.Machine

/-- A well-formed command answers its effect on the device. -/
theorem to_of {i : Instr} {s : State} {wf : Bool} {f : Dev → Dev} {d : Dev} (he : exec i s = onDev wf f s) (hwf : wf = true) (hd : f s.dev = d) :
    To i s d := by
  unfold To
  rw [he, onDev, if_pos hwf, hd]

/-- A well-formed command whose effect has a property answers a device that has it. -/
theorem gives_of {i : Instr} {s : State} {wf : Bool} {f : Dev → Dev} {P : Dev → Prop} (he : exec i s = onDev wf f s) (hwf : wf = true)
    (hp : P (f s.dev)) : Gives i s P :=
  ⟨f s.dev, by rw [he, onDev, if_pos hwf], hp⟩

/-- A well-formed command answers its effect on the device, written out. -/
theorem onDev_pos {wf : Bool} {f : Dev → Dev} {s : State} (hwf : wf = true) : onDev wf f s = .next { s with dev := f s.dev } := by
  rw [onDev, if_pos hwf]

/-- A command answers one device alone. -/
theorem to_unique {i : Instr} {s : State} {d e : Dev} (h : To i s d) (he : exec i s = .next { s with dev := e }) : d = e :=
  congrArg State.dev (Host.Outcome.next.inj (h.symm.trans he))

/-- With no check that fails, the command executes. -/
theorem checked_pass {cs : List (Bool × Nat)} (h : ∀ x ∈ cs, x.1 = false) (d : Dev) (f : Dev → Answer) : checked cs d f = f d := by
  have hnone : cs.find? (·.1) = none := List.find?_eq_none.mpr fun x hx => by simp [h x hx]
  rw [checked, hnone]

end Sys2Proof.Goals
end

section
/-!
PROOF. Sessions (10 R266 to R270): the handshake, and how a session ends or is kept alive.
-/

namespace Sys2Proof.Goals

open Sys2Proof Sys2Proof.Machine

/-! ### Counting leaves what the handshake looks at (10 R289) -/

theorem sesCount_prt (d : Dev) (port k : Nat) (q : Nat) : (d.sesCount port k).prt q = d.prt q := by rw [sesCount_frame]; rfl

theorem sesCount_ses (d : Dev) (port k : Nat) (q : Nat) : (d.sesCount port k).ses q = d.ses q := by rw [sesCount_frame]; rfl

theorem sesCount_keyOf (d : Dev) (port k : Nat) (q : Nat) : (d.sesCount port k).keyOf q = d.keyOf q := by rw [sesCount_frame]; rfl

/-! ### The handshake (10 R266, R268) -/

/-- SESSION_HELLO on an open, keyed port opens an attempt. -/
theorem helloOp_opens {d : Dev} {port peer : Nat} {nonce key : Bytes} (hans : d.portAnswers port = true) (hlock : (d.prt port).locked = false)
    (hkey : d.keyOf port = some key) :
    helloOp port peer (portRole port) nonce none d =
      let d := d.sesCount port 0
      let sid := d.fresh.1 % 65535 + 1
      let e := (d.fresh.2.freshBytes 32).2
      let n := (d.fresh.2.freshBytes 32).1
      (e.modPrt port fun p => { p with attempt := some { role := portRole port, peer, sid, hostNonce := nonce, devNonce := n } }).handshake port peer sid 0
        stOk (u16 sid ++ u8 (((e.prt port).key.map (·.kind)).getD 0) ++ zeros 1 ++ padTo 16 (((e.prt port).key.map (·.salt)).getD (zeros 16)) ++ n
          ++ padTo 16 Config.serial) none := by
  unfold helloOp
  rw [if_neg (by simp [hans])]
  simp only [sesCount_prt, hlock, sesCount_keyOf, hkey, bne_self_eq_false, Bool.false_eq_true, if_false]

/-- SESSION_AUTH that proves the key of the attempt's own peer opens the session. -/
theorem authOp_opens {d : Dev} {port peer : Nat} {mac key : Bytes} {a : Attempt} (hans : d.portAnswers port = true)
    (hatt : (d.prt port).attempt = some a) (hpeer : a.peer = peer) (hkey : d.keyOf port = some key)
    (hmac : mac = Config.hmacSha256 key (macBytes labelH port a.sid a.devNonce a.hostNonce)) :
    authOp port peer a.sid mac none d =
      let d := (d.sesCount port 0).closeSession port 1
      let cfg := d.get .sesPortCfg (d.cfgPort port)
      let x : Session :=
        { sid := a.sid, port := port, role := portRole port, mediator := portRole port == 0 && bit cfg 62, peer := peer, cfg := cfg,
          timeoutMs := bits cfg 31 16 * 100, holeMs := bits cfg 15 8 }
      let d := d.modPrt port fun p => { p with attempt := none, fails := 0, locked := false, lockSecs := 0 }
      let d : Dev := { d with sessions := d.sessions ++ [x] }
      let d := d.when (decide (port < 2)) fun d => { d with pages := smSet 4 d.pages (port * 16) (bits cfg 59 56) }
      d.handshake port peer a.sid 1 stOk
        (padTo 32 (Config.hmacSha256 key (macBytes labelD port a.sid a.hostNonce a.devNonce)) ++ u32 x.timeoutMs ++ u32 (d.maxLen port)) none := by
  have hauth : d.authPeer port peer = true := by simp [Dev.authPeer, hatt, hpeer]
  unfold authOp
  rw [if_neg (by simp [hans]), if_neg (by simp [hauth])]
  simp only [sesCount_prt, hatt, sesCount_keyOf, hkey, ← hmac, bne_self_eq_false, Bool.false_eq_true, if_false]

/-! ### Holes and lost events (10 R274, R286) -/

theorem holeExpireOp_hole {d : Dev} {port seq : Nat} {x : Session} (hx : d.ses port = some x) (hr : ∃ r ∈ x.recs, r.seq = seq ∧ r.slot = .hole) :
    holeExpireOp port seq d = ((d.modSes port fun y => { y with recs := y.recs.filter (·.seq != seq) }).sesCount port 7).pump := by
  have hany : (x.recs.any fun r => r.seq == seq && r.slot == .hole) = true := by simpa [List.any_eq_true] using hr
  unfold holeExpireOp
  rw [hx]
  simp only [hany, if_true]

/-- With no event held, space that returns reports those lost. -/
theorem eventSpaceBack_lost {d : Dev} {port : Nat} {x : Session} (hx : d.ses port = some x) (hund : x.undelivered = []) (hlost : 0 < x.lost) :
    d.eventSpaceBack port = (d.modSes port fun y => { y with lost := 0, lostFirst := 0 }).postEvent port
      { code := 0xE001, object := port, time := d.now, epoch := d.epoch, data := u32 x.lost ++ u32 x.lostFirst } := by
  have hdrain : Dev.drainEvents 128 port d = d := by
    rw [Dev.drainEvents]
    simp only [hx, hund]
  unfold Dev.eventSpaceBack
  simp only [hdrain, hx, hund, List.length_nil, hlost, Nat.zero_lt_succ, decide_true, Bool.and_self, if_true]
  rfl

/-- Settles O3: each happening of a session's life in turn. -/
theorem sessionCommandsComplete : Obligations.SessionCommandsComplete := by
  refine ⟨?_, ?_, ?_, ?_, ?_, ?_, ?_, ?_⟩
  · rintro s port peer role nonce key hport hans hlock rfl hkey
    exact to_of rfl hport (helloOp_opens hans hlock hkey)
  · rintro s port peer session mac key a hport hans hatt rfl hpeer hkey hmac
    exact to_of (f := fun d => (authOp port peer a.sid mac none d).settled) rfl hport (congrArg Dev.settled (authOp_opens hans hatt hpeer hkey hmac))
  · intro s port hport
    exact ⟨onDev_pos hport, onDev_pos hport⟩
  · exact fun h => runs_of _ h _ _ _ _ (fun _ => rfl) nofun fun _ _ _ => rfl
  · exact fun h => runs_of _ h _ _ _ _ (fun _ => rfl) nofun fun _ _ _ => rfl
  · intro s port hport
    exact ⟨to_of (f := fun d => (sessionTimeoutOp port d).settled) rfl hport rfl, onDev_pos hport, onDev_pos hport⟩
  · intro s port seq x hport hx hr
    exact to_of rfl hport (holeExpireOp_hole hx hr)
  · intro s port x hport hx hund hlost
    exact to_of (f := fun d => d.eventSpaceBack port) rfl hport (eventSpaceBack_lost hx hund hlost)

end Sys2Proof.Goals
end

section
/-!
PROOF. Doorbells, identity and parameters (10 R256, R257, R280 to R286; 19 R504 to R512).
-/

namespace Sys2Proof.Goals

open Sys2Proof Sys2Proof.Machine

/-- Settles O4: on an open ring each doorbell's guard passes. -/
theorem doorbellsComplete : Obligations.DoorbellsComplete := by
  refine ⟨?_, ?_, ?_⟩
  · intro s ep page ring tail l hep hpage hring halive hopen hheld
    refine to_of rfl (decide_eq_true ⟨hep, hpage, hring⟩) ?_
    unfold sqDoorbellOp
    simp [hopen, halive, hheld]
  · intro s ep page ring head hep hpage hring hopen
    exact to_of (f := cqDoorbellOp ep page ring head) rfl (decide_eq_true ⟨hep, hpage, hring⟩) (if_pos hopen)
  · intro s ep page head hep hpage hen hown hroom
    refine to_of (f := evtDoorbellOp ep page head) rfl (decide_eq_true ⟨hep, hpage⟩) ?_
    have hpass : (page == 0 || (s.dev.pageOpen page && decide (s.dev.tenEp page = ep))) = true := by simpa using hown
    simp only [evtDoorbellOp, hen, hpass, hroom, decide_true, Bool.and_self, if_true]

/-- Settles O5: what each body answers where its checks pass. -/
theorem identityCommandsComplete : Obligations.IdentityCommandsComplete := by
  refine ⟨?_, ?_, ?_, ?_⟩
  · exact fun h => runs_of _ h .deviceDescribe _ _ _ (fun _ => rfl) nofun fun _ _ _ => rfl
  · exact fun h session seq => runs_of _ h (.traverseQuery session seq) _ _ _ (fun _ => rfl) nofun fun _ _ _ => rfl
  · intro h port kind salt key
    refine runs_of _ h (.keySet port kind salt key) _ _ _ (fun _ => rfl) nofun fun c d ⟨hmed, hport, hkind⟩ => ?_
    show keySetOp c port kind salt key d = _
    rw [keySetOp, checked_pass]
    simp [hmed, hport, hkind]
  · exact fun h mask => runs_of _ h (.eventMask mask) _ _ _ (fun _ => rfl) nofun fun _ _ _ => rfl

/-! ### Reads of parameters (19 R504, R511, R512) -/

/-- A read that its checks let pass. -/
theorem paramReadOp_pass {c : Ctx} {p : Par} {inForce : Bool} {off n : Nat} {d : Dev}
    (hmay : ∀ e ∈ (p.info.covered off n).filter (d.parPresent p), d.mayRead c p e = true) (hoff : off % 4 = 0) (hn : n % 4 = 0)
    (hrange : off + n ≤ p.info.bytes) (hlen : 28 + n ≤ d.maxLen c.ses.port) :
    paramReadOp c (some p) inForce off n d =
      (some (rRead (d.parBytes p (inForce && p.info.shadow) off n)), d.afterRead p ((p.info.covered off n).filter (d.parPresent p))) := by
  have hmay' : ((p.info.covered off n).filter (d.parPresent p)).any (fun e => !d.mayRead c p e) = false := by
    rw [List.any_eq_false]
    intro e he
    simp [hmay e he]
  simp only [paramReadOp]
  rw [checked_pass]
  simpa [hoff, hn, hrange, hlen] using hmay'

/-- The record of TSI FIFO `n`. -/
theorem covered_tsiFifo {n : Nat} (hn : n < 8) : Par.timTsiFifo.info.covered (n * 16) 16 = [n] := by
  interval_cases n <;> decide

/-- The record of BND.VIOL. -/
theorem covered_bndViol : Par.bndViol.info.covered 0 24 = [0] := by decide

/-- Settles O6: a read passes its checks, and covers its one record where it removes one. -/
theorem parameterReadsComplete : Obligations.ParameterReadsComplete := by
  refine ⟨?_, ?_, ?_⟩
  · intro h p inForce off n
    refine runs_of _ h (.paramRead (some p) inForce off n) _ _ _ (fun _ => rfl) nofun fun c d ⟨hmay, hoff, hn, hrange, hlen⟩ => ?_
    exact paramReadOp_pass hmay hoff hn hrange hlen
  · intro h n hn
    refine runs_of _ h (.paramRead (some .timTsiFifo) false (n * 16) 16) _ _ _ (fun _ => rfl) nofun fun c d ⟨howner, hlen⟩ => ?_
    have hes : (Par.timTsiFifo.info.covered (n * 16) 16).filter (d.parPresent .timTsiFifo) = [n] := by
      rw [covered_tsiFifo hn]; rfl
    have hmay : ∀ e ∈ (Par.timTsiFifo.info.covered (n * 16) 16).filter (d.parPresent .timTsiFifo), d.mayRead c .timTsiFifo e = true := by
      rw [hes]
      simpa [Dev.mayRead] using howner
    have hrange : n * 16 + 16 ≤ Par.timTsiFifo.info.bytes := by
      have : Par.timTsiFifo.info.bytes = 128 := rfl
      omega
    refine (paramReadOp_pass hmay (by omega) rfl hrange (by omega)).trans ?_
    rw [hes]
    rfl
  · intro h
    refine runs_of _ h (.paramRead (some .bndViol) false 0 24) _ _ _ (fun _ => rfl) nofun fun c d ⟨hmed, hlen⟩ => ?_
    have hes : (Par.bndViol.info.covered 0 24).filter (d.parPresent .bndViol) = [0] := by
      rw [covered_bndViol]; rfl
    have hmay : ∀ e ∈ (Par.bndViol.info.covered 0 24).filter (d.parPresent .bndViol), d.mayRead c .bndViol e = true := by
      rw [hes]
      simpa [Dev.mayRead] using hmed
    refine (paramReadOp_pass hmay rfl rfl (by decide) (by omega)).trans ?_
    rw [hes]
    rfl

/-! ### Writes of parameters (19 R504 to R506, 10 R277) -/

/-- A row that writes one item completes as PARAM_WRITE of it does. -/
theorem writes_of {i : Instr} {h : Hdr} {it : ParItem} (he : ∀ s, exec i s = onDev i.wellFormed (fun d => d.deliver h (.paramWrite it)) s) :
    Writes i h it := by
  refine runs_of i h (.paramWrite it) _ _ _ he nofun fun c d hst => ?_
  show paramWriteOp c it d = _
  simp [paramWriteOp, hst]

/-- Items that all pass are all counted and all written. -/
theorem writeItems_all {c : Ctx} (its : List ParItem) :
    ∀ (d : Dev) (n : Nat), (d.writeItems c its n).2.1 = stOk →
      d.writeItems c its n = (n + its.length, stOk, its.foldl (fun d it => d.writeItem c it) d) := by
  induction its with
  | nil => intro d n _; rfl
  | cons it its ih =>
    intro d n hok
    rw [Dev.writeItems] at hok ⊢
    by_cases hst : d.itemStatus c true it = stOk
    · simp only [hst, bne_self_eq_false, Bool.false_eq_true, if_false] at hok ⊢
      rw [ih _ _ hok, List.length_cons, List.foldl_cons, Nat.add_right_comm, Nat.add_assoc]
    · simp only [bne_iff_ne, ne_eq, hst, not_false_eq_true, if_true] at hok

/-- A number's bytes are already as long as it is padded to. -/
theorem padTo_leBytes (n v : Nat) : padTo n (leBytes n v) = leBytes n v := by
  rw [padTo, List.take_left' (leBytes_length n v)]

/-- A row that writes element `[n]` of a parameter whole completes as PARAM_WRITE of its bytes does. -/
theorem writes_elem {i : Instr} {h : Hdr} {p : Par} {n v len k off m : Nat} {data : Bytes}
    (he : ∀ s, exec i s = onDev i.wellFormed (fun d => d.deliver h (elemWrite p n v)) s) (hpow : p.info.bPow = 1) (hstride : p.info.stride = k)
    (hlen : (p.info.b - 1) * p.info.stride + p.info.size = len) (hoff : n * k = off)
    (hpad : ceilDiv len 4 * 4 = m)
    (hdata : padTo m (leBytes len v) = data) :
    Writes i h { par := some p, offset := off, data := data } := by
  refine writes_of fun s => ?_
  rw [he, elemWrite, elemBytes, hlen, hpad, hpow, hstride, hdata, Nat.mul_one, hoff]

/-- FE_CFG_WRITE of a front-end (12 Table 12.1). -/
theorem feCfgWrite_writes (h : Hdr) {t : Nat} (v : Nat) (ht : t < 4) :
    Writes (.feCfgWrite h t v) h { par := some .grtFeCfg, offset := t * 8, data := leBytes 8 v } := by
  have hop : (if t = 4 then elemWrite .grtSelfCfg 0 v else elemWrite .grtFeCfg t v) = elemWrite .grtFeCfg t v := if_neg (by omega)
  refine writes_elem (p := .grtFeCfg) (n := t) (v := v) (fun s => ?_) rfl rfl rfl rfl rfl (padTo_leBytes _ _)
  show execFeCfgWrite h t v s = _
  rw [execFeCfgWrite, hop]

/-- TAKEBACK_N_WRITE is PARAM_WRITE of MDK.BARRIER_CFG with its other fields as they are (notes/assumptions/87.md). -/
theorem exec_takebackNWrite_eq {h : Hdr} {v : Nat} {st : State} (hport : portOk h.port = true) :
    exec (.takebackNWrite h v) st =
      exec (.paramWrite h { par := some .mdkBarrierCfg, offset := 0, data := leBytes 8 (setBits (st.dev.get .mdkBarrierCfg) 15 3 v) }) st := by
  have hl : exec (.takebackNWrite h v) st =
      onDev (portOk h.port) (fun d => d.deliver h (elemWrite .mdkBarrierCfg 0 (setBits (d.get .mdkBarrierCfg) 15 3 v))) st := rfl
  have hr (it : ParItem) : exec (.paramWrite h it) st = onDev (portOk h.port) (fun d => d.deliver h (.paramWrite it)) st := rfl
  have helem (w : Nat) : elemWrite .mdkBarrierCfg 0 w = .paramWrite { par := some .mdkBarrierCfg, offset := 0, data := leBytes 8 w } :=
    congrArg (fun data => IcpOp.paramWrite { par := some .mdkBarrierCfg, offset := 0, data := data }) (padTo_leBytes 8 w)
  rw [hl, hr, onDev, onDev, if_pos hport, if_pos hport, helem]

/-- Settles O7: each row is PARAM_WRITE of its item; a list of items is written item by item. -/
theorem parameterWritesComplete : Obligations.ParameterWritesComplete := by
  refine ⟨?_, ?_, ?_, ?_, ?_, ?_, ?_, ?_, ?_, ?_, ?_, ?_, ?_, ?_, ?_, ?_, ?_, ?_⟩
  · exact fun h it => writes_of fun _ => rfl
  · intro h its
    refine runs_of _ h (.paramWriteMulti its) _ _ _ (fun _ => rfl) nofun fun c d hok => ?_
    show paramMultiOp c its d = _
    simp [paramMultiOp, writeItems_all its d 0 hok]
  · exact fun h n v => writes_elem (fun _ => rfl) rfl rfl rfl rfl rfl (padTo_leBytes _ _)
  · exact fun h p n v => writes_of fun _ => rfl
  · exact fun h input off data => writes_of fun _ => rfl
  · exact fun h v => writes_elem (n := 0) (off := 0) (fun _ => rfl) rfl rfl rfl rfl rfl rfl
  · exact fun h m v => writes_elem (fun _ => rfl) rfl rfl rfl rfl rfl (padTo_leBytes _ _)
  · exact fun h p o v => writes_of fun _ => rfl
  · exact fun h v => writes_elem (n := 0) (off := 0) (fun _ => rfl) rfl rfl rfl rfl rfl (padTo_leBytes _ _)
  · exact fun h t v ht => feCfgWrite_writes h v ht
  · exact fun h v => writes_elem (n := 0) (off := 0) (fun _ => rfl) rfl rfl rfl rfl rfl (padTo_leBytes _ _)
  · exact fun h v => writes_elem (n := 0) (off := 0) (fun _ => rfl) rfl rfl rfl rfl rfl rfl
  · exact fun h r v => writes_elem (fun _ => rfl) rfl rfl rfl rfl rfl (padTo_leBytes _ _)
  · exact fun h r v => writes_elem (fun _ => rfl) rfl rfl rfl rfl rfl (padTo_leBytes _ _)
  · exact fun h p v => writes_elem (fun _ => rfl) rfl rfl rfl rfl rfl (padTo_leBytes _ _)
  · exact fun h p v => writes_elem (fun _ => rfl) rfl rfl rfl rfl rfl (padTo_leBytes _ _)
  · exact fun h p v => writes_elem (fun _ => rfl) rfl rfl rfl rfl rfl (padTo_leBytes _ _)
  · intro st h v s it op hport hr hst
    have hrow : Writes (.paramWrite h it) h it := writes_of fun _ => rfl
    have hto := hrow st s hport hr hst fun x _ hph => absurd hph (by decide : ¬ (2 : Nat) = 1)
    unfold To at hto ⊢
    rw [exec_takebackNWrite_eq hport]
    exact hto

end Sys2Proof.Goals
end

section
/-!
PROOF. The time unit's commands (03 R69 to R88).
-/

namespace Sys2Proof.Goals

open Sys2Proof Sys2Proof.Machine

/-! ### Bits of a field -/

theorem bit_eq_testBit (v n : Nat) : bit v n = v.testBit n := by
  rw [Nat.testBit_eq_decide_div_mod_eq, bit, Nat.shiftRight_eq_div_pow, beq_eq_decide]

theorem bit_bits {v hi lo k : Nat} (h : lo + k ≤ hi) : bit (bits v hi lo) k = bit v (lo + k) := by
  have hk : k < hi + 1 - lo := by omega
  rw [bit_eq_testBit, bit_eq_testBit, bits, Nat.testBit_mod_two_pow, Nat.testBit_shiftRight, decide_eq_true hk, Bool.true_and]

/-! ### Timestamp inputs (03 R85, R86) -/

@[simp] theorem tsi_setTsi (d : Dev) (n : Nat) (x : TsiSt) : (d.setTsi n x).tsi n = x := smGet_set_self ..

theorem when_tim {d : Dev} {c : Bool} {f : Dev → Dev} (h : (f d).tim = d.tim) : (d.when c f).tim = d.tim := by
  cases c
  · rfl
  · exact h

/-- An edge that EDGE selects, on an enabled input with room, far enough from the one before it. -/
theorem tsiEdgeOp_recorded {d : Dev} {n : Nat} {rise : Bool} (hen : d.flag .timTsiCfg n 31 = true)
    (hedge : d.flag .timTsiCfg n (if rise then 29 else 30) = true)
    (hfar : ∀ t, (d.tsi n).lastEdge = some t → t + 8 ≤ d.tim.elapsed) (hroom : (d.tsi n).fifo.length < 16) :
    (tsiEdgeOp n rise d).tsi n =
      { d.tsi n with
        count := ((d.tsi n).count + 1) % 2 ^ 32, lastEdge := some d.tim.elapsed, ovfPending := false
        fifo := (d.tsi n).fifo ++ [(datumTime d.now <<< 64) + (d.epoch <<< 60) + (rise.toNat <<< 59) + ((d.tsi n).ovfPending.toNat <<< 58) +
          (1 <<< 57) + ((d.tsi n).count + 1) % 2 ^ 32] } := by
  have hsel : bit (d.fld .timTsiCfg n 30 29) (if rise then 0 else 1) = true := by
    cases rise <;> exact (bit_bits (by decide)).trans hedge
  have hnear : ((d.tsi n).lastEdge.any fun t => decide (d.tim.elapsed - t < 8)) = false := by
    cases h : (d.tsi n).lastEdge with
    | none => rfl
    | some t =>
      have := hfar t h
      exact decide_eq_false (Nat.not_lt.mpr (Nat.le_sub_of_add_le' this))
  unfold tsiEdgeOp
  simp only [hen, hsel, hnear, Nat.not_le.mpr hroom, Bool.and_self, Bool.not_true, Bool.false_eq_true, if_false]
  rw [Dev.tsi, when_tim (raise_tim _ _ _), ← Dev.tsi, tsi_setTsi]

/-! ### Losing the grandmaster (03 R77) -/

/-- HOLDOVER keeps the rate where no 64 exchanges in LOCKED can be averaged (03 R79). -/
theorem enterHoldover_tim (d : Dev) :
    d.enterHoldover.tim.st = .holdover ∧ (d.tim.rates.length < 64 → d.enterHoldover.tim.adj = d.tim.adj) := by
  unfold Dev.enterHoldover
  simp only [raise_tim]
  exact ⟨rfl, fun h => if_neg (Nat.ne_of_lt h)⟩

theorem announceTimeoutOp_locked {d : Dev} (h : d.tim.st = .locked) :
    announceTimeoutOp d = { d.enterHoldover with
      tim := { d.enterHoldover.tim with gmValid := false, slavePort := 0xF, valid := 0, inLock := 0 } } := by
  unfold announceTimeoutOp
  simp only [h]

/-! ### TIME_STEP (03 R80, R81) -/

theorem stepClock_epoch (d : Dev) (size : Int) (auto : Bool) : (d.stepClock size auto).epoch = (d.epoch + 1) % 16 :=
  (stepOpensEpochAndIsLogged d size auto).1

/-- TIME_STEP with its operand, on a device without a chain role. -/
theorem timeStepOp_pass {c : Ctx} {delta : Int} {d : Dev} (hp : c.partner = true) (hrole : d.chain.role = 0) (hrange : inS64 delta = true)
    (hne : delta ≠ 0) (hrecent : d.recentStep = false) :
    timeStepOp c 0 delta d = (some { st := stOk, ph := 3, body := stepReply delta ((d.epoch + 1) % 16) }, d.stepClock delta false) := by
  simp only [timeStepOp]
  rw [checked_pass (by simp [hp, hrole, hrange, hne, hrecent])]
  simp only [hrole, if_true, stepClock_epoch]

/-- Settles O8: each happening in turn. -/
theorem timeCommandsComplete : Obligations.TimeCommandsComplete := by
  refine ⟨?_, ?_, ?_, ?_, ?_, ?_, ?_, ?_, ?_⟩
  · intro s port off hport
    refine to_of (f := ptpOp (.exchange port off)) rfl rfl ?_
    simp only [ptpOp, hport, Bool.not_true, Bool.false_eq_true, if_false]
    rfl
  · exact fun s utc sm => onDev_pos rfl
  · intro s hst
    obtain ⟨hhold, hadj⟩ := enterHoldover_tim s.dev
    have hto : To .announceTimeout s _ := to_of (f := announceTimeoutOp) rfl rfl (announceTimeoutOp_locked hst)
    exact ⟨_, hto, hhold, rfl, rfl, hadj⟩
  · intro s port hlt hport hslave hge
    refine to_of (f := ptpSyncOp port) rfl (decide_eq_true hlt) ?_
    simp [ptpSyncOp, hport, hslave, hge, Nat.not_lt.mpr hge, Dev.when]
  · intro s hst
    exact to_of (f := trustExpireOp) rfl rfl (if_pos hst)
  · intro s n rise hn hen hedge hfar hroom
    have hrec := tsiEdgeOp_recorded hen hedge hfar hroom
    refine ⟨_, to_of (f := tsiEdgeOp n rise) rfl (decide_eq_true hn) rfl, ?_, ?_, ?_⟩ <;> simp [hrec]
  · intro s n hn hruns
    exact to_of (f := tsoEdgeOp n) rfl (decide_eq_true hn) (if_pos hruns)
  · intro s n hn hact
    exact to_of (f := tsoPulseEndOp n) rfl (decide_eq_true hn) (if_pos hact)
  · intro h mode delta
    refine runs_of _ h (.timeStep mode delta) _ _ _ (fun _ => rfl) nofun fun c d ⟨hp, hrole, ⟨hmode, hrange, hne⟩, hrecent⟩ => ?_
    subst hmode
    exact timeStepOp_pass hp hrole hrange hne hrecent

end Sys2Proof.Goals
end

section
/-!
PROOF. Ingest: the choice of a capture time (04 R94), and frames of a DisplayPort input whose source is suspended (04 R105, 09 R240).
-/

namespace Sys2Proof.Goals

open Sys2Proof Sys2Proof.Machine

/-! ### Capture times (04 R94, 02 R32) -/

/-- Where mapping is not permitted, the ingest time less the allowance. -/
theorem captureTime_unmapped {d : Dev} (n ts allow : Nat) (ing : Ns) (hb : Option (Option Ns)) (h : d.mappingPermitted = false) :
    d.captureTime n ts ing allow hb = (ing - allow * 100000, 1, false) := by
  simp [Dev.captureTime, h]

/-- The heartbeat's time alone. -/
theorem captureTime_heartbeat {d : Dev} (n ts allow : Nat) {ing t : Ns} (h : d.mappingPermitted = true) (hclock : d.srcClock n ≠ 1) (ht : t ≤ ing) :
    d.captureTime n ts ing allow (some (some t)) = (t, 0, false) := by
  have hlate : ¬ ing < t := Nat.not_lt.mpr ht
  simp [Dev.captureTime, h, hclock, hlate]

/-- The earlier of the heartbeat's and the mapped time. -/
theorem captureTime_mapped {d : Dev} (n ts allow : Nat) {ing t m : Ns} (h : d.mappingPermitted = true) (hclock : d.srcClock n = 1) (ht : t ≤ ing)
    (hm : m ≤ ing) (hmap : mapRtp (d.get .srcMediaOff n) ts ing = some m) :
    d.captureTime n ts ing allow (some (some t)) = (min t m, 0, false) := by
  have hlate : ¬ ing < t := Nat.not_lt.mpr ht
  have hlate' : ¬ ing < m := Nat.not_lt.mpr hm
  simp [Dev.captureTime, h, hclock, hmap, hlate, hlate', List.min?]

/-- A heartbeat's time after the ingest time. -/
theorem captureTime_suspect {d : Dev} (n ts allow : Nat) {ing t : Ns} (h : d.mappingPermitted = true) (ht : ing < t) :
    d.captureTime n ts ing allow (some (some t)) = (ing - allow * 100000, 1, true) := by
  simp [Dev.captureTime, h, ht]

/-- Settles O13: one form of the choice at a time. -/
theorem captureTimeChoice : Obligations.CaptureTimeChoice :=
  ⟨fun _ n ts allow _ _ => captureTime_heartbeat n ts allow, fun _ n ts allow _ _ _ => captureTime_mapped n ts allow,
    fun _ n ts allow _ _ => captureTime_suspect n ts allow, fun _ n ts allow ing hb => captureTime_unmapped n ts allow ing hb⟩

/-! ### What ingest leaves of decode (05 R118 to R121) -/

/-- Of decode only the sources' engines and loads, and the moves between engines that wait, have changed. -/
def PlacedOnly (d e : Dev) : Prop :=
  ∀ n, ∃ (g : Option Nat) (l : Nat) (m : Option (Nat × Nat)), e.dec n = { d.dec n with engine := g, load := l, movePending := m }

theorem PlacedOnly.of_decs {d e : Dev} (h : e.decs = d.decs) : PlacedOnly d e := fun n =>
  ⟨(d.dec n).engine, (d.dec n).load, (d.dec n).movePending, show smGet {} e.decs n = smGet {} d.decs n by rw [h]⟩

theorem PlacedOnly.trans {d e f : Dev} (h1 : PlacedOnly d e) (h2 : PlacedOnly e f) : PlacedOnly d f := by
  intro n
  obtain ⟨_, _, _, h1⟩ := h1 n
  obtain ⟨g, l, m, h2⟩ := h2 n
  exact ⟨g, l, m, by rw [h2, h1]⟩

theorem srcEvent_decs (d : Dev) (n code : Nat) (data : Bytes) (on : Bool) (gen : Option Nat) : (d.srcEvent n code data on gen).decs = d.decs :=
  raise_decs ..

theorem formatEvent_decs (d : Dev) (n : Nat) (on : Bool) : (d.formatEvent n on).decs = d.decs := srcEvent_decs ..

theorem resumedEvent_decs (d : Dev) (n : Nat) : (d.resumedEvent n).decs = d.decs := srcEvent_decs ..

theorem modSrc_decs (d : Dev) (n : Nat) (f : Src → Src) : (d.modSrc n f).decs = d.decs := rfl

theorem when_decs {d : Dev} {c : Bool} {f : Dev → Dev} (h : ∀ d, (f d).decs = d.decs) : (d.when c f).decs = d.decs := by
  cases c
  · rfl
  · exact h d

theorem enterFormat_decs (d : Dev) (n : Nat) (oor : Bool) (f : Option Format) : (d.enterFormat n oor f).decs = d.decs := by
  simp only [Dev.enterFormat, when_decs fun d => formatEvent_decs d n true, when_decs fun d => resumedEvent_decs d n, modSrc_decs]

theorem outOfRange_decs (d : Dev) (n : Nat) : (d.outOfRange n).decs = d.decs := by
  unfold Dev.outOfRange
  split
  · rfl
  · split
    · rfl
    · exact enterFormat_decs ..

theorem formatOf_decs (d : Dev) (n : Nat) (f : Format) : (d.formatOf n f).2.decs = d.decs := by
  unfold Dev.formatOf
  dsimp only
  split
  case h_1 => rfl
  case h_2 => rfl
  case h_3 =>
    split
    · rfl
    · exact (modSrc_decs _ _ _).trans ((enterFormat_decs ..).trans (modSrc_decs ..))
  case h_4 =>
    split
    · exact (resumedEvent_decs ..).trans (modSrc_decs ..)
    · exact (modSrc_decs _ _ _).trans ((enterFormat_decs ..).trans (modSrc_decs ..))
  case h_5 =>
    split
    · exact (formatEvent_decs ..).trans (modSrc_decs ..)
    · rfl

theorem accepted_decs (d : Dev) (n : Nat) (ing : Ns) : (d.accepted n ing).2.decs = d.decs := rfl

theorem modEng_decs (d : Dev) (e : Nat) (f : DecEng → DecEng) : (d.modEng e f).decs = d.decs := rfl

theorem overcommit_decs (d : Dev) : d.overcommit.decs = d.decs := by
  unfold Dev.overcommit Dev.each
  generalize [0, 1, 2, 3] = l
  induction l generalizing d with
  | nil => rfl
  | cons e l ih =>
    rw [List.foldl_cons, ih]
    dsimp only
    split
    · rfl
    · rw [raise_decs, modEng_decs]

theorem modDec_placedOnly {d : Dev} {n : Nat} {f : Dec → Dec}
    (h : ∃ (g : Option Nat) (l : Nat) (m : Option (Nat × Nat)), f (d.dec n) = { d.dec n with engine := g, load := l, movePending := m }) :
    PlacedOnly d (d.modDec n f) := by
  intro k
  rw [dec_modDec]
  split
  case isTrue hk => subst hk; exact h
  case isFalse hk => exact ⟨_, _, _, rfl⟩

theorem place_placedOnly (d : Dev) (n cause : Nat) : PlacedOnly d (d.place n cause) := by
  have hmod : PlacedOnly d (d.modDec n fun x => { x with engine := d.engineFor n (d.loadOf n), load := d.loadOf n, movePending := none }) :=
    modDec_placedOnly ⟨_, _, _, rfl⟩
  refine hmod.trans (.of_decs ((overcommit_decs _).trans ?_))
  split
  · split
    · rfl
    · exact srcEvent_decs ..
  · rfl

theorem placement_placedOnly (d : Dev) (n : Nat) : PlacedOnly d (d.placement n) := by
  unfold Dev.placement
  dsimp only
  split
  · exact place_placedOnly _ _ _
  split
  · exact place_placedOnly _ _ _
  split
  · exact place_placedOnly _ _ _
  split
  · split
    · exact modDec_placedOnly ⟨_, _, _, rfl⟩
    · exact place_placedOnly _ _ _
  split
  · exact place_placedOnly _ _ _
  · exact .of_decs rfl

theorem formatOf_placedOnly (d : Dev) (n : Nat) (f : Format) : PlacedOnly d (d.formatOf n f).2 := .of_decs (formatOf_decs d n f)

theorem accepted_placedOnly (d : Dev) (n : Nat) (ing : Ns) : PlacedOnly d (d.accepted n ing).2 := .of_decs (accepted_decs d n ing)

theorem picture_placedOnly (d : Dev) (n : Nat) (f : Format) :
    PlacedOnly d (((d.formatOf n f).2.accepted n (d.formatOf n f).2.now).2.placement n) :=
  (formatOf_placedOnly d n f).trans ((accepted_placedOnly _ n _).trans (placement_placedOnly _ n))

/-- A frame of an input whose source is suspended is published nowhere (09 R240). -/
theorem dpiFrameOp_suspended {d : Dev} {m n : Nat} (f : DpiFrame) (hon : d.srcOn 3 m = some n) (hs : (d.dec n).suspended = true) :
    PlacedOnly d (dpiFrameOp m f d) := by
  have hcount : PlacedOnly d ((d.srcCount n 0).modSrc n fun s => { s with dpiCount := (s.dpiCount + 1) % 2 ^ 32 }) := .of_decs rfl
  unfold dpiFrameOp
  simp only [hon]
  split
  · exact .of_decs rfl
  split
  · exact hcount.trans (.of_decs (outOfRange_decs ..))
  have hplaced := hcount.trans (picture_placedOnly _ n f.fmt)
  split
  · exact hplaced
  case isFalse hns =>
    obtain ⟨g, l, m, hn⟩ := hplaced n
    exact absurd (congrArg Dec.suspended hn |>.trans hs) hns

/-- With nothing in decode and nothing new published, nothing is forwarded. -/
theorem forwarding_unpublished {d e : Dev} {n : Nat} {units : List Nat} (hcur : (e.dec n).curStamps = []) (hpics : (e.dec n).pics = []) :
    Dev.forwarding d e n units = e := by
  simp [Dev.forwarding, hcur, hpics]

/-- A P9 whose source 0 receives DisplayPort input 0 and is suspended. -/
def suspendedDpi : Dev :=
  { ({} : Dev).put .srcCfg 0 (2 ^ 63 + 3 * 2 ^ 60) with decs := [(0, { suspended := true })], rst := { blkSrst := 0, pllGood := 127 } }

/-- A whole frame in range. -/
def wholeDpi : DpiFrame :=
  { edge := 0, msaValid := true, complete := true, inRange := true, fmt := { width := 64, height := 64, sampling := 0, depth := 8, color := 0 },
    check := 0, sentinels := [], grid := [] }

/-- Refutes O12: its clause of a DisplayPort frame does not suppose the source in service; a frame of a suspended source is discarded (09 R240), so no
picture of it is given out. -/
theorem not_ingestCommandsComplete : ¬ Obligations.IngestCommandsComplete := by
  unfold Obligations.IngestCommandsComplete
  intro ⟨_, _, _, _, _, _, _, hdpi, _⟩
  have hon : suspendedDpi.srcOn 3 0 = some 0 := by decide
  obtain ⟨d, he, p, hp, _⟩ := hdpi { dev := suspendedDpi } 0 0 wholeDpi (by decide) hon rfl rfl rfl (by decide) (by decide)
  obtain ⟨g, l, m, hdec⟩ := dpiFrameOp_suspended wholeDpi hon rfl 0
  have hlast : (d.dec 0).lastOut = none := by
    have hgives : To (.dpiFrameRx 0 wholeDpi) { dev := suspendedDpi } (dpiFrameOp 0 wholeDpi suspendedDpi) :=
      to_of (f := fun d => Dev.forwarding d (dpiFrameOp 0 wholeDpi d) ((d.srcOn 3 0).getD 192) (unitRows wholeDpi.fmt.height)) rfl rfl (by
        simp only [hon, Option.getD_some]
        exact forwarding_unpublished (by rw [hdec]; rfl) (by rw [hdec]; rfl))
    have hd : dpiFrameOp 0 wholeDpi suspendedDpi = d := to_unique hgives he
    rw [← hd, hdec]
    rfl
  rw [hlast] at hp
  cases hp

end Sys2Proof.Goals
end

section
/-!
PROOF. An engine's slice (05 R124 to R130).
-/

namespace Sys2Proof.Goals

open Sys2Proof Sys2Proof.Machine

@[simp] theorem decCount_dec (d : Dev) (n k by_ j : Nat) : (d.decCount n k by_).dec j = d.dec j := rfl

@[simp] theorem busy_dec (d : Dev) (e ns j : Nat) : (d.busy e ns).dec j = d.dec j := rfl

/-- Without routes nothing is forwarded (15 R417). -/
theorem forwarding_unrouted (d : Dev) {e : Dev} (n : Nat) (units : List Nat) (h : e.routes = []) : Dev.forwarding d e n units = e := by
  unfold Dev.forwarding
  dsimp only
  split
  · simp [Dev.forwardSlices, h, Dev.each]
  · rfl

/-- A source's publications that have not changed are not forwarded. -/
theorem forwarding_same {d e : Dev} {n : Nat} (units : List Nat) (hcur : (e.dec n).curStamps = []) (hpics : (e.dec n).pics = (d.dec n).pics) :
    Dev.forwarding d e n units = e := by
  unfold Dev.forwarding
  rw [hcur, hpics]
  cases (d.dec n).pics with
  | nil => rfl
  | cons p l => simp [Option.filter]

/-- A picture in decode is not shed (05 R122). -/
theorem shedAhead_decoding {d : Dev} {n : Nat} {p : AccPic} (seq : Nat) (h : (d.dec n).cur = some p) : d.shedAhead n seq = d := by
  simp [Dev.shedAhead, h]

/-- A slice of the picture in decode that is not its last is done on the engine of its source. -/
theorem sliceDecodedOp_one {d : Dev} {r : SliceDec} {p : AccPic} {e : Nat} (hred : r.outcome ≠ .redundant) (hcur : (d.dec r.src).cur = some p)
    (hseq : p.seq = r.seq) (heng : (d.dec r.src).engine = some e) (huse : d.engUsable e = true) (hlast : r.last = false) :
    sliceDecodedOp r d = (d.busy e r.busyNs).oneSlice r.src p r := by
  simp [sliceDecodedOp, hred, hcur, hseq, heng, huse, hlast]

theorem oneSlice_routes (d : Dev) (n : Nat) (p : AccPic) (r : SliceDec) : (d.oneSlice n p r).routes = d.routes := by
  unfold Dev.oneSlice
  split
  · rfl
  · dsimp only
    split <;> rfl

theorem exec_sliceDecoded (r : SliceDec) (s : State) :
    exec (.sliceDecoded r) s = onDev (Instr.wellFormed (.sliceDecoded r)) (fun d =>
      Dev.forwarding d (sliceDecodedOp r (if r.outcome = .redundant then d else d.shedAhead r.src r.seq)) r.src r.units) s := rfl

/-- A slice done leads to the device after it, where no route forwards it. -/
theorem sliceDecoded_to {s : State} {r : SliceDec} {p : AccPic} {e : Nat} (hsrc : r.src < 192) (hroutes : s.dev.routes = [])
    (hred : r.outcome ≠ .redundant) (hcur : (s.dev.dec r.src).cur = some p) (hseq : p.seq = r.seq) (heng : (s.dev.dec r.src).engine = some e)
    (huse : s.dev.engUsable e = true) (hlast : r.last = false) : To (.sliceDecoded r) s ((s.dev.busy e r.busyNs).oneSlice r.src p r) := by
  refine to_of (exec_sliceDecoded r s) (decide_eq_true hsrc) ?_
  rw [if_neg hred, shedAhead_decoding _ hcur, sliceDecodedOp_one hred hcur hseq heng huse hlast]
  exact forwarding_unrouted _ _ _ ((oneSlice_routes ..).trans hroutes)

/-- A slice decoded (05 R129): its own stamp with its CHECK, CONCEALED where it used a substitute. -/
theorem oneSlice_ok {d : Dev} {n : Nat} {p : AccPic} {r : SliceDec} {i : Nat} {own : Stamp} (hout : r.outcome = .ok) (hpoison : r.poison = false)
    (hfind : p.slices.find? (·.1 == r.slice) = some (i, false, own)) :
    ((d.oneSlice n p r).dec n).curStamps.getLast? =
        some { own with check := r.check, taint := own.taint ||| taintIf r.substituted tConcealed } ∧
      (r.substituted = false → ((d.oneSlice n p r).dec n).curStamps.dropLast = (d.dec n).curStamps) ∧
      ((d.oneSlice n p r).dec n).cur = some { p with done := p.done ++ [i] } := by
  unfold Dev.oneSlice
  rw [hfind]
  cases hsub : r.substituted <;> simp [hout, hpoison, taintIf]

/-! ### Concealed slices (05 R128) -/

theorem bit_zero_or (a b : Nat) : bit (a ||| b) 0 = (bit a 0 || bit b 0) := by
  simp [bit_eq_testBit]

theorem gapStamp_concealed (l : List (Nat × Bool × Stamp)) (i : Nat) (own : Stamp) : bit (gapStamp l i own).taint 0 = true := by
  unfold gapStamp
  dsimp only
  split
  · rfl
  · simp [bit, tConcealed]

/-- A slice that was a gap or did not parse is concealed, its CHECK written. -/
theorem oneSlice_concealed {d : Dev} {n : Nat} {p : AccPic} {r : SliceDec} {i : Nat} {gap : Bool} {own : Stamp}
    (hbad : gap = true ∨ r.outcome = .parseError) (hfind : p.slices.find? (·.1 == r.slice) = some (i, gap, own)) :
    ∃ st, ((d.oneSlice n p r).dec n).curStamps.getLast? = some st ∧ bit st.taint 0 = true ∧ st.check = r.check ∧
      ((d.oneSlice n p r).dec n).cur = some { p with done := p.done ++ [i] } := by
  unfold Dev.oneSlice
  rw [hfind]
  cases gap with
  | true => simp [bit_zero_or, gapStamp_concealed]
  | false =>
    have hparse : r.outcome = .parseError := by simpa using hbad
    simp [hparse, bit, tConcealed]

/-- Settles O14: a redundant slice is counted alone; any other one is done by `Dev.oneSlice`. -/
theorem decodeCommandsComplete : Obligations.DecodeCommandsComplete := by
  refine ⟨?_, ?_, ?_⟩
  · intro s r hsrc hred hcur
    refine to_of (exec_sliceDecoded r s) (decide_eq_true hsrc) ?_
    rw [if_pos hred, sliceDecodedOp, if_pos hred]
    exact forwarding_same _ hcur rfl
  · intro s r p e i own hsrc hroutes hcur hseq heng huse hlast hout hpoison hfind
    have hred : r.outcome ≠ .redundant := by rw [hout]; nofun
    exact ⟨_, sliceDecoded_to hsrc hroutes hred hcur hseq heng huse hlast, oneSlice_ok hout hpoison hfind⟩
  · intro s r p e i gap own hsrc hroutes hcur hseq heng huse hlast hbad hred hfind
    exact ⟨_, sliceDecoded_to hsrc hroutes hred hcur hseq heng huse hlast, oneSlice_concealed hbad hfind⟩

end Sys2Proof.Goals
end

section
/-!
PROOF. The packets of a camera frame, and the extended frame number (06 R153 to R160).
-/

namespace Sys2Proof.Goals

open Sys2Proof Sys2Proof.Machine

/-! ### The extended frame number (06 R160) -/

theorem extend_zero (p : Pipe) : p.extend 0 = { p with e := (p.e + 1) % 2 ^ 32 } := if_pos rfl

theorem extend_jump {p : Pipe} {q j : Nat} (hq : p.fPrev = some q) (hlt : q < 2 ^ 16) (hj : j < 2 ^ 16) (hne : (q + j) % 2 ^ 16 ≠ 0) :
    p.extend ((q + j) % 2 ^ 16) = { p with e := (p.e + if 1 ≤ j ∧ j ≤ 16 then j else 1) % 2 ^ 32, fPrev := some ((q + j) % 2 ^ 16) } := by
  have hjump : ((q + j) % 2 ^ 16 + 65536 - q) % 65536 = j := by omega
  unfold Pipe.extend
  simp only [hne, if_false, hq, hjump]
  by_cases h : 1 ≤ j ∧ j ≤ 16
  · rw [if_neg (by omega), if_pos h]
  · rw [if_pos (by omega), if_neg h]

theorem extend_first {p : Pipe} {fn : Nat} (hp : p.fPrev = none) (hne : fn ≠ 0) :
    p.extend fn = { p with e := (p.e + 1) % 2 ^ 32, fPrev := some fn } := by
  simp [Pipe.extend, hp, hne]

/-- Settles O17: one form of `extend` for each clause. -/
theorem extendedFrameNumber : Obligations.ExtendedFrameNumber := by
  refine ⟨fun p => ?_, fun p q j hq hlt hj hne => ?_, fun p fn hp hne => ?_⟩
  · rw [extend_zero]; exact ⟨rfl, rfl⟩
  · rw [extend_jump hq hlt hj hne]; exact ⟨rfl, rfl⟩
  · rw [extend_first hp hne]; exact ⟨rfl, rfl⟩

/-! ### What counting and telling leave of a pipe -/

@[simp] theorem ipuCount_pipe (d : Dev) (c k n j : Nat) : (d.ipuCount c k n).pipe j = d.pipe j := rfl

theorem when_pipe {d : Dev} {b : Bool} {f : Dev → Dev} {j : Nat} (h : ∀ d, (f d).pipe j = d.pipe j) : (d.when b f).pipe j = d.pipe j := by
  cases b
  · rfl
  · exact h d

/-- A parameter reads as before a counter further on in the table advances. -/
theorem get_count2_later {d : Dev} {p q : Par} {s x y n : Nat} (hpq : p.ctorIdx < q.ctorIdx) (hs : s < 2 ^ 24) :
    (d.count2 q x y n).get p s = d.get p s := get_put_later hpq hs

/-! ### An exposure closes (06 R153, R154, R157) -/

@[simp] theorem pipe_modSet (d : Dev) (c e : Nat) (f : CamSet → CamSet) :
    (d.modSet c e f).pipe c = { d.pipe c with sets := (d.pipe c).sets.map fun s => if s.e == e then f s else s } :=
  (pipe_modPipe ..).trans (if_pos rfl)

/-- A frame whose exposures have all closed takes its ING_TIME. -/
theorem setReceived_lone {d : Dev} {c : Nat} {g : CamSet} (hsets : (d.pipe c).sets = [g]) (hclosed : ∀ x ∈ g.exps, x.2.closed = true)
    (hing : g.ing = none) (hkeep : g.discard = false) :
    ((d.setReceived c g.e).pipe c).sets = [{ g with ing := some ((d.now : Int) - d.stepSum g.epoch).toNat }] := by
  have hall : (g.exps.all fun x => x.2.closed) = true := List.all_eq_true.mpr hclosed
  have hfind : (d.pipe c).sets.find? (·.e == g.e) = some g := by simp [hsets]
  unfold Dev.setReceived
  rw [hfind]
  simp only [hall, hing, hkeep, Option.isSome_none, Bool.not_true, Bool.or_self, Bool.false_eq_true, if_false, pipe_modSet, hsets, List.map_cons,
    List.map_nil, beq_self_eq_true, if_true]

/-- The exposure of a frame of one exposure closes: the frame is padded where lines are missing, and received. -/
theorem closeExposure_lone {d : Dev} {c : Nat} {f : CamSet} {r : ExpRx} (hone : (d.pipe c).nExp = 1) (hsets : (d.pipe c).sets = [f])
    (hexps : f.exps = [(0, r)]) (hopen : r.closed = false) (hing : f.ing = none) (hkeep : f.discard = false) :
    ((d.closeExposure c 0).pipe c).sets =
      [{ f with exps := [(0, { r with closed := true })], cropPad := f.cropPad || decide (r.lines < bits (d.pipe c).cam 47 32),
                ing := some ((d.now : Int) - d.stepSum f.epoch).toNat }] := by
  have hset : (d.pipe c).openSet 0 = some f := by simp [Pipe.openSet, hsets, hexps, hopen]
  have hmissing : ((List.range (d.pipe c).nExp).filter fun i => !f.exps.any (·.1 == i)) = [] := by
    rw [hone, hexps]; rfl
  have hshort : (f.exps.any fun e => e.1 == 0 && decide (e.2.lines < bits (d.pipe c).cam 47 32)) = decide (r.lines < bits (d.pipe c).cam 47 32) := by
    simp [hexps]
  unfold Dev.closeExposure
  simp only [hset, hshort, if_true]
  generalize hd : (d.when (decide (r.lines < bits (d.pipe c).cam 47 32)) fun d => d.ipuCount c 3) = e
  have hpipe : e.pipe c = d.pipe c := by rw [← hd]; exact when_pipe fun _ => rfl
  have hnow : e.now = d.now := by rw [← hd]; cases decide (r.lines < bits (d.pipe c).cam 47 32) <;> rfl
  have hsum : e.stepSum f.epoch = d.stepSum f.epoch := by rw [← hd]; cases decide (r.lines < bits (d.pipe c).cam 47 32) <;> rfl
  rw [hpipe, hmissing, ← hnow, ← hsum]
  generalize hg : ({ f with exps := [(0, { r with closed := true })], cropPad := f.cropPad || decide (r.lines < bits (d.pipe c).cam 47 32) } : CamSet) = g
  generalize hm : e.modSet c f.e _ = m
  have hsets' : (m.pipe c).sets = [g] := by
    rw [← hm, pipe_modSet, hpipe, hsets, ← hg]
    simp [CamSet.modExp, hexps]
  have hm' : m.now = e.now ∧ m.stepSum f.epoch = e.stepSum f.epoch := by rw [← hm]; exact ⟨rfl, rfl⟩
  have hrec := setReceived_lone (g := g) hsets' (by rw [← hg]; simp) (by rw [← hg]; exact hing) (by rw [← hg]; exact hkeep)
  rw [← hm'.1, ← hm'.2]
  subst hg
  exact hrec

end Sys2Proof.Goals
end

section
/-!
PROOF. What counting leaves of the parameter file: every other parameter.
-/

namespace Sys2Proof.Goals

open Sys2Proof Sys2Proof.Machine

/-- The parameters that count: of sessions, Ethernet ports, sources, decode, the camera pipes and the scheduler. -/
def counters : List Nat :=
  [Par.sesStat.ctorIdx, Par.lnkEthStat.ctorIdx, Par.srcStat.ctorIdx, Par.decStat.ctorIdx, Par.ipuStat.ctorIdx, Par.bshStat.ctorIdx]

/-- Every parameter but the counters reads as before. -/
def Counted (d e : Dev) : Prop := ∀ (p : Par) (s : Nat), p.ctorIdx ∉ counters → s < 2 ^ 24 → e.get p s = d.get p s

namespace Counted

theorem of_regs {d e : Dev} (h : e.regs = d.regs) : Counted d e := fun p s _ _ => by
  rw [Dev.get, Dev.get, h]

theorem refl (d : Dev) : Counted d d := of_regs rfl

theorem trans {d e f : Dev} (h1 : Counted d e) (h2 : Counted e f) : Counted d f := fun p s hp hs =>
  (h2 p s hp hs).trans (h1 p s hp hs)

theorem flag {d e : Dev} (h : Counted d e) {p : Par} (hp : p.ctorIdx ∉ counters) {s : Nat} (hs : s < 2 ^ 24) (k : Nat) : e.flag p s k = d.flag p s k := by
  rw [Dev.flag, Dev.flag, h p s hp hs]

theorem fld {d e : Dev} (h : Counted d e) {p : Par} (hp : p.ctorIdx ∉ counters) {s : Nat} (hs : s < 2 ^ 24) (hi lo : Nat) :
    e.fld p s hi lo = d.fld p s hi lo := by
  rw [Dev.fld, Dev.fld, h p s hp hs]

theorem count (d : Dev) {q : Par} {t n : Nat} (hq : q.ctorIdx ∈ counters) (ht : t < 2 ^ 24) : Counted d (d.count q t n) := fun _ _ hp hs =>
  get_count_ne (fun heq => hp (heq ▸ hq)) hs ht

theorem raise (d : Dev) (rcpt : Session → Bool) (e : Event) : Counted d (d.raise rcpt e) := fun _ _ hp hs =>
  raise_get d rcpt e (fun heq => hp (heq ▸ by decide)) (fun heq => hp (heq ▸ by decide)) hs

theorem when {d : Dev} {c : Bool} {f : Dev → Dev} (h : ∀ d, Counted d (f d)) : Counted d (d.when c f) := by
  cases c
  · exact refl d
  · exact h d

theorem each {α : Type} {l : List α} {f : Dev → α → Dev} (h : ∀ d a, a ∈ l → Counted d (f d a)) : ∀ d : Dev, Counted d (d.each l f) := by
  induction l with
  | nil => exact refl
  | cons a l ih => exact fun d => (h d a (List.mem_cons_self ..)).trans (ih (fun d b hb => h d b (List.mem_cons_of_mem _ hb)) (f d a))

/-- The entry of an input or a pipe is as it was. -/
theorem srcOn {d e : Dev} (h : Counted d e) (kind port : Nat) : e.srcOn kind port = d.srcOn kind port := by
  refine List.find?_congr fun n hn => ?_
  have hlt : n < 2 ^ 24 := by have := List.mem_range.mp hn; omega
  rw [Dev.srcEn, Dev.isMirror, Dev.srcKind, Dev.srcPort, h.flag (by decide) hlt, h.flag (by decide) hlt, h.fld (by decide) hlt, h.fld (by decide) hlt]
  rfl

theorem srcGen {d e : Dev} (h : Counted d e) {n : Nat} (hn : n < 192) : e.srcGen n = d.srcGen n := h.fld (by decide) (by omega) 15 8

end Counted

/-- An input's entry is one of the 192. -/
theorem srcOn_lt {d : Dev} {kind port n : Nat} (h : d.srcOn kind port = some n) : n < 192 :=
  List.mem_range.mp (List.mem_of_find?_eq_some h)

theorem ipuCount_counted (d : Dev) {c k : Nat} (n : Nat) (hc : c < 4) (hk : k < 11) : Counted d (d.ipuCount c k n) := by
  refine Counted.count d (by decide) ?_
  have : Par.ipuStat.info.elem c k = c * 11 + k := rfl
  omega

end Sys2Proof.Goals
end

section
/-!
PROOF. A camera frame begins, its lines arrive, and exposure sets are queued (06 R146, R153 to R159).
-/

namespace Sys2Proof.Goals

open Sys2Proof Sys2Proof.Machine

/-! ### A frame start (06 R154 to R157) -/

/-- Of pipe `c` the frames, what came early and the running numbers are as before; time, and every parameter but the counters too. -/
structure FrameKept (c : Nat) (d e : Dev) : Prop where
  sets : (e.pipe c).sets = (d.pipe c).sets
  early : (e.pipe c).early = (d.pipe c).early
  cam : (e.pipe c).cam = (d.pipe c).cam
  num : (e.pipe c).e = (d.pipe c).e
  fPrev : (e.pipe c).fPrev = (d.pipe c).fPrev
  tim : e.tim = d.tim
  counted : Counted d e

namespace FrameKept

variable {c : Nat} {d e f : Dev}

theorem trans (h1 : FrameKept c d e) (h2 : FrameKept c e f) : FrameKept c d f :=
  ⟨h2.sets.trans h1.sets, h2.early.trans h1.early, h2.cam.trans h1.cam, h2.num.trans h1.num, h2.fPrev.trans h1.fPrev, h2.tim.trans h1.tim,
    h1.counted.trans h2.counted⟩

theorem modPipe {g : Pipe → Pipe} (h : (g (d.pipe c)).sets = (d.pipe c).sets ∧ (g (d.pipe c)).early = (d.pipe c).early ∧
    (g (d.pipe c)).cam = (d.pipe c).cam ∧ (g (d.pipe c)).e = (d.pipe c).e ∧ (g (d.pipe c)).fPrev = (d.pipe c).fPrev) :
    FrameKept c d (d.modPipe c g) := by
  obtain ⟨hs, he, hc, hn, hf⟩ := h
  have hp : (d.modPipe c g).pipe c = g (d.pipe c) := (pipe_modPipe ..).trans (if_pos rfl)
  constructor
  · rw [hp, hs]
  · rw [hp, he]
  · rw [hp, hc]
  · rw [hp, hn]
  · rw [hp, hf]
  · rfl
  · exact .of_regs rfl

theorem ipuCount {k n : Nat} (hc : c < 4) (hk : k < 11) : FrameKept c d (d.ipuCount c k n) :=
  ⟨rfl, rfl, rfl, rfl, rfl, rfl, ipuCount_counted d n hc hk⟩

/-- With no frame and no early exposure in the pipe there is nothing to close. -/
theorem closeExposure {x : Nat} (hsets : (d.pipe c).sets = []) (hearly : (d.pipe c).early = []) : FrameKept c d (d.closeExposure c x) := by
  have hopen : (d.pipe c).openSet x = none := by simp [Pipe.openSet, hsets]
  simp only [Dev.closeExposure, hopen, Dev.closeEarly, hearly, List.any_nil, Dev.when, Bool.false_eq_true, if_false]
  exact modPipe ⟨rfl, by simp [hearly], rfl, rfl, rfl⟩

/-- With nothing early there is nothing to drop. -/
theorem dropEarly (hc : c < 4) (g : EarlyExp → Bool) (hearly : (d.pipe c).early = []) : FrameKept c d (d.dropEarly c g) := by
  refine (ipuCount hc (by decide : 6 < 11)).trans (modPipe ⟨rfl, ?_, rfl, rfl, rfl⟩)
  simp [hearly]

/-- A camera configuration that has not changed changes no format (06 R147). -/
theorem takeCam (n : Nat) (h : (d.pipe c).cam = d.get .ipuCamCfg c) : FrameKept c d (d.takeCam c n) := by
  simp only [Dev.takeCam, ← h, bne_self_eq_false, Bool.and_false, Bool.false_and, Dev.when, Bool.false_eq_true, if_false]
  exact modPipe ⟨rfl, rfl, rfl, rfl, rfl⟩

end FrameKept

theorem extend_congr {p q : Pipe} (he : p.e = q.e) (hf : p.fPrev = q.fPrev) (fn : Nat) :
    (p.extend fn).e = (q.extend fn).e ∧ (p.extend fn).fPrev = (q.extend fn).fPrev := by
  by_cases h : fn = 0 <;> simp [Pipe.extend, h, he, hf]

theorem extend_sets (p : Pipe) (fn : Nat) : (p.extend fn).sets = p.sets ∧ (p.extend fn).early = p.early := by
  by_cases h : fn = 0 <;> simp [Pipe.extend, h]

/-- A frame start of exposure 0 on an empty pipe opens the frame. -/
theorem csiFsOp_opens {d : Dev} {c n vc : Nat} (fn : Nat) (hc : c < 4) (hruns : d.pipeRuns c = true) (hon : d.srcOn 4 c = some n)
    (hexp : ({ d.pipe c with port := d.get .ipuPortCfg c } : Pipe).expOf vc = some 0) (hsets : (d.pipe c).sets = []) (hearly : (d.pipe c).early = [])
    (hcam : (d.pipe c).cam = d.get .ipuCamCfg c) :
    ((csiFsOp c vc fn d).pipe c).sets = [{ e := ((d.pipe c).extend fn).e, fn, fs := d.now, epoch := d.epoch, holdover := d.holdoverFlag,
                                           gen := d.srcGen n, exps := [(0, {})] }] ∧
      ((csiFsOp c vc fn d).pipe c).e = ((d.pipe c).extend fn).e ∧ ((csiFsOp c vc fn d).pipe c).fPrev = ((d.pipe c).extend fn).fPrev := by
  have hd1 : FrameKept c d (d.modPipe c fun p => { p with port := d.get .ipuPortCfg c }) := .modPipe ⟨rfl, rfl, rfl, rfl, rfl⟩
  have hexp1 : ((d.modPipe c fun p => { p with port := d.get .ipuPortCfg c }).pipe c).expOf vc = some 0 := by
    rw [pipe_modPipe, if_pos rfl, hexp]
  unfold csiFsOp
  simp only [hruns, Bool.not_true, Bool.false_eq_true, if_false, hexp1, if_true]
  generalize d.modPipe c (fun p => { p with port := d.get .ipuPortCfg c }) = d1 at hd1
  have hd2 := hd1.trans (.closeExposure (x := 0) (hd1.sets.trans hsets) (hd1.early.trans hearly))
  generalize d1.closeExposure c 0 = d2 at hd2
  have hd3 := hd2.trans (.modPipe (g := fun p => { p with void := p.void.filter (· != 0), stray := smSet 0 p.stray vc 0 }) ⟨rfl, rfl, rfl, rfl, rfl⟩)
  generalize d2.modPipe c _ = d3 at hd3 ⊢
  have hd4 := hd3.trans (.dropEarly hc (fun a => fn == 0 || a.fn != fn) (hd3.early.trans hearly))
  generalize d3.dropEarly c _ = d4 at hd4 ⊢
  have hcam4 : (d4.pipe c).cam = d4.get .ipuCamCfg c := by
    rw [hd4.cam, hcam, hd4.counted _ _ (by decide) (by omega)]
  rw [hd4.counted.srcOn, hon]
  have hd5 := hd4.trans (.takeCam n hcam4)
  dsimp only
  generalize d4.takeCam c n = d5 at hd5
  obtain ⟨hnum, hprev⟩ := extend_congr hd5.num hd5.fPrev fn
  obtain ⟨hsets5, hearly5⟩ := extend_sets (d5.pipe c) fn
  have hgen : (d5.modPipe c (Pipe.extend · fn)).srcGen n = d.srcGen n := hd5.counted.srcGen (srcOn_lt hon)
  have hnow : (d5.modPipe c (Pipe.extend · fn)).tim = d.tim := hd5.tim
  simp only [pipe_modPipe, if_true, hearly5, hd5.early, hearly, List.any_nil, Dev.when, Bool.false_eq_true, if_false, List.foldl_nil, List.map_nil,
    hsets5, hd5.sets, hsets, List.nil_append, hgen, hnum, hprev, Dev.now, Dev.epoch, Dev.holdoverFlag, hnow, and_self]

/-! ### Lines and the end of a frame (06 R153, R154) -/

/-- A line of an open exposure that fits counts one line. -/
theorem csiLineOp_fits {d : Dev} {c x : Nat} {l : CsiLine} {f : CamSet} {r : ExpRx} (hruns : d.pipeRuns c = true)
    (hsup : l.supported = true) (hemb : l.embedded = false) (hcrc : l.crcOk = true) (hover : l.overflow = false)
    (hexp : (d.pipe c).expOf l.vc = some x) (hsets : (d.pipe c).sets = [f]) (hexps : f.exps = [(x, r)]) (hopen : r.closed = false)
    (hlines : r.lines < bits (d.pipe c).cam 47 32) (hsamples : l.samples = bits (d.pipe c).cam 63 48) :
    ((csiLineOp c l d).pipe c).sets = [{ f with exps := [(x, { r with lines := r.lines + 1 })] }] := by
  have hset : (d.pipe c).openSet x = some f := by simp [Pipe.openSet, hsets, hexps, hopen]
  have hcase : lineCase (d.pipe c).cam r.lines l = none := by
    simp [lineCase, hcrc, hsamples, Nat.not_le.mpr hlines]
  have hline : r.line (d.pipe c).cam = { r with lines := r.lines + 1 } := if_neg (Nat.not_le.mpr hlines)
  unfold csiLineOp
  simp only [hruns, hsup, hemb, hover, Bool.not_true, Bool.false_eq_true, if_false, ipuCount_pipe, hexp, hset, Dev.when, hexps]
  simp [hcase, hsets, CamSet.modExp, hexps, hline]

/-- The end of a whole frame of one exposure: it is received as it is. -/
theorem csiFeOp_whole {d : Dev} {c vc : Nat} {f : CamSet} {r : ExpRx} (hruns : d.pipeRuns c = true) (hexp : (d.pipe c).expOf vc = some 0)
    (hone : (d.pipe c).nExp = 1) (hsets : (d.pipe c).sets = [f]) (hexps : f.exps = [(0, r)]) (hopen : r.closed = false) (hing : f.ing = none)
    (hkeep : f.discard = false) (hlines : r.lines = bits (d.pipe c).cam 47 32) :
    ((csiFeOp c vc d).pipe c).sets =
      [{ f with exps := [(0, { r with closed := true })], ing := some ((d.now : Int) - d.stepSum f.epoch).toNat }] := by
  have hset : (d.pipe c).openSet 0 = some f := by simp [Pipe.openSet, hsets, hexps, hopen]
  unfold csiFeOp
  simp only [hruns, hexp, hset, Option.isSome_some, Bool.not_true, Bool.false_eq_true, if_false, Bool.true_or, if_true]
  rw [closeExposure_lone hone hsets hexps hopen hing hkeep]
  simp [hlines]

/-! ### Exposure sets (06 R158, R159) -/

theorem setPipe_modPipe {d : Dev} {c : Nat} {f g : Pipe → Pipe} (h : f (d.pipe c) = g (d.pipe c)) : d.modPipe c f = d.modPipe c g := by
  rw [Dev.modPipe, Dev.modPipe, h]

/-- The frame that IPU_EXPOSE names for a set: none where the set is matched by its embedded values. -/
def exposeTarget (d : Dev) (pipe : Nat) : Nat :=
  if d.flag .ipuCamCfg pipe 20 then 0xFFFFFFFF else ((d.pipe pipe).e + d.fld .ipuCamCfg pipe 19 16) % 2 ^ 32

/-- IPU_EXPOSE of a set that no other waits before. -/
theorem ipuExposeOp_pass {c : Ctx} {pipe tag : Nat} {sets : List Exposure} {d : Dev} (hpres : d.present 20 = true)
    (hown : ((d.srcOn 4 pipe).any fun n => c.owns (d.srcOwner n)) = true ∨ c.ses.mediator = true) (hpipe : pipe ≤ 3) (htag : tag ≠ 0)
    (hlen : sets.length = bits (d.get .ipuPortCfg pipe) 7 6 + 1) (hexp : ∀ x ∈ sets, x.expNs ≠ 0 ∧ x.gain ≠ 0) (hpend : (d.pipe pipe).pend = []) :
    ipuExposeOp c pipe tag sets d =
      (some { st := stOk, ph := 3, body := u32 (exposeTarget d pipe) },
        d.modPipe pipe fun p => { p with pend := [{ tag, sets, port := c.ses.port, session := c.ses.sid, seq := c.seq,
                                                    embedded := d.flag .ipuCamCfg pipe 20, target := exposeTarget d pipe }] }) := by
  have hzero : (sets.any fun x => x.expNs == 0 || x.gain == 0) = false := by
    rw [List.any_eq_false]
    intro x hx
    obtain ⟨hns, hgain⟩ := hexp x hx
    simp [hns, hgain]
  have hown' : (!(d.srcOn 4 pipe).any (fun n => c.owns (d.srcOwner n)) && !c.ses.mediator) = false := by
    obtain h | h := hown <;> simp [h]
  simp only [ipuExposeOp]
  rw [checked_pass (by simp only [List.forall_mem_cons]; simp [hpres, hown', hzero, hlen, htag, Nat.not_lt.mpr hpipe])]
  simp only [hpend, List.filter_nil, Dev.each, List.foldl_nil]
  exact congrArg (Prod.mk _) (setPipe_modPipe (by simp [hpend, exposeTarget, Dev.flag, Dev.fld]; rfl))

/-- A set whose frames have run out is told and dropped. -/
theorem exposeTimeoutOp_lapsed {d : Dev} {c : Nat} {x : ExpSet} (hpend : (d.pipe c).pend = [x]) (hemb : x.embedded = true) (hleft : x.framesLeft = 0) :
    exposeTimeoutOp c x.tag d = (d.modPipe c fun p => { p with pend := [] }).ipuEvent c 4 (u32 (d.pipe c).e ++ u16 x.tag) := by
  have hmod : (d.modPipe c fun p => { p with pend := p.pend.filter fun s => !(s.embedded && s.tag == x.tag && s.framesLeft == 0) }) =
      d.modPipe c fun p => { p with pend := [] } := setPipe_modPipe (by simp [hpend, hemb, hleft])
  unfold exposeTimeoutOp
  simp only [hmod]
  simp [hpend, hemb, hleft]

end Sys2Proof.Goals
end

section
/-!
PROOF. Reprocessing, and the finished camera frame (06 R151, R152, R156, R157).
-/

namespace Sys2Proof.Goals

open Sys2Proof Sys2Proof.Machine

/-! ### Reprocessing (06 R151, R152) -/

/-- What a job of IPU_REPROCESS asks for can be produced: its frame, its configuration and its buffers. -/
structure Reprocessable (c : Ctx) (d : Dev) (tap pipe copy inAddr outAddr outFmt : Nat) (config : Bytes) : Prop where
  pres : d.present 20 = true
  own : ((d.srcOn 4 pipe).any fun n => c.owns (d.srcOwner n)) = true ∨ c.ses.mediator = true
  pipe_le : pipe ≤ 3
  tap_le : tap ≤ 4
  copy_ok : copy = 0 ∨ (copy = 1 ∧ 8 ≤ config.length)
  width : 64 ≤ bits outFmt 63 48 ∧ bits outFmt 63 48 ≤ 7680
  height : 64 ≤ bits outFmt 47 32 ∧ bits outFmt 47 32 ≤ 7680
  sampling : 1 ≤ bits outFmt 31 28 ∧ bits outFmt 31 28 ≤ 3
  depth : bits outFmt 27 24 = 10
  color : bits outFmt 23 20 = 1 ∨ bits outFmt 23 20 = 2
  nin : 0 < tapBytes (if copy = 1 then leVal (config.take 8) else d.get .ipuCamCfg pipe) tap (d.fld .ipuPortCfg pipe 7 6 + 1)
  inTag : d.allTagged inAddr (tapBytes (if copy = 1 then leVal (config.take 8) else d.get .ipuCamCfg pipe) tap (d.fld .ipuPortCfg pipe 7 6 + 1))
    (d.ownerColour c.act) = true
  outTag : d.allTagged outAddr (bits outFmt 63 48 * bits outFmt 47 32 * 8) (d.ownerColour c.act) = true

theorem ipuReprocessOp_pass {c : Ctx} {d : Dev} {tap pipe copy inAddr outAddr outFmt : Nat} {config : Bytes}
    (h : Reprocessable c d tap pipe copy inAddr outAddr outFmt config) :
    ipuReprocessOp c tap pipe copy inAddr outAddr outFmt config d =
      (none, (d.modPipe pipe fun p => { p with reproc := p.reproc ++
        [{ port := c.ses.port, session := c.ses.sid, seq := c.seq, inAddr, outAddr, outLen := bits outFmt 63 48 * bits outFmt 47 32 * 8, pipe }] }).phaseDone
          c.ses.port c.ses.sid c.seq 2) := by
  have hown : (!(d.srcOn 4 pipe).any (fun n => c.owns (d.srcOwner n)) && !c.ses.mediator) = false := by
    obtain h | h := h.own <;> simp [h]
  have hfmt : (decide (64 ≤ bits outFmt 63 48 ∧ bits outFmt 63 48 ≤ 7680 ∧ 64 ≤ bits outFmt 47 32 ∧ bits outFmt 47 32 ≤ 7680)
      && decide (1 ≤ bits outFmt 31 28 ∧ bits outFmt 31 28 ≤ 3 ∧ bits outFmt 27 24 = 10 ∧ (bits outFmt 23 20 = 1 ∨ bits outFmt 23 20 = 2))) = true := by
    simp [h.width, h.height, h.sampling, h.depth, h.color]
  have hcopy : (decide (1 < copy) || (copy == 1 && decide (config.length < 8))) = false := by
    obtain h | ⟨h, hlen⟩ := h.copy_ok
    · simp [h]
    · simp [h, Nat.not_lt.mpr hlen]
  have hnin : decide (tapBytes (if copy = 1 then leVal (config.take 8) else d.get .ipuCamCfg pipe) tap (bits (d.get .ipuPortCfg pipe) 7 6 + 1) = 0) = false :=
    decide_eq_false (Nat.ne_of_gt h.nin)
  have hin : d.allTagged inAddr (tapBytes (if copy = 1 then leVal (config.take 8) else d.get .ipuCamCfg pipe) tap (bits (d.get .ipuPortCfg pipe) 7 6 + 1))
    (d.ownerColour c.act) = true := h.inTag
  simp only [ipuReprocessOp, hfmt, hin, hnin]
  rw [checked_pass]
  obtain ⟨hc1, hc2⟩ := Bool.or_eq_false_iff.mp hcopy
  simp [h.pres, hown, h.outTag, hc1, hc2, Nat.not_lt.mpr h.tap_le, Nat.not_lt.mpr h.pipe_le]

/-- The output of a job whose input no tap wrote carries a stamp without proof. -/
theorem reprocessDoneOp_untapped {d : Dev} {c : Nat} {j : Reproc} {rest : List Reproc} (hjob : (d.pipe c).reproc = j :: rest)
    (htaps : ∀ i < 4, ((d.pipe i).taps.find? (·.1 == j.inAddr)) = none) :
    reprocessDoneOp c d =
      let e := (d.unprovenStamp.2.scribble j.outAddr j.outLen).modPipe c fun p =>
        { p with reproc := rest, outs := (j.outAddr, d.unprovenStamp.1) :: p.outs.filter (·.1 != j.outAddr) }
      (e.each (List.range 4) fun d i => d.modPipe i fun p => { p with taps := p.taps.filter (·.1 != j.outAddr) }).finishReply j.port j.session j.seq
        { st := stOk, ph := 3 } := by
  have hnone : ((List.range 4).filterMap fun i => (d.pipe i).taps.find? (·.1 == j.inAddr)) = [] := by
    rw [List.filterMap_eq_nil_iff]
    exact fun i hi => htaps i (List.mem_range.mp hi)
  unfold reprocessDoneOp
  simp only [hjob, hnone, List.head?_nil, Option.filter_none]

/-! ### A finished frame (06 R156, R157) -/

/-- The exposure sets of a pipe after a frame, and the events that tell of them. -/
def camExposures (c seq : Nat) (s : CamSet) (d : Dev) : Dev :=
  let (set, pend, unknown) := (d.pipe c).pick s.e s.emb
  let wasUnknown := (d.pipe c).unknownRun
  let d := d.modPipe c fun p => { p with inForce := set.or p.inForce, pend, unknownRun := unknown, applied := p.applied || set.isSome }
  let d := match set with
    | some x => d.ipuEvent c 2 (u32 s.e ++ u32 seq ++ u16 x.tag)
    | none => d
  d.when (unknown && !wasUnknown) fun d => d.ipuEvent c 5 (u32 s.e ++ u16 (((d.pipe c).inForce.map fun x => x.tag).getD 0))

/-- CAP_TIME of a frame: its FS less the longest exposure in force and the readout delay. -/
def camCap (c : Nat) (s : CamSet) (d : Dev) : Ns := s.fs - longestExp (d.pipe c).inForce - bits (d.pipe c).cam 15 0 * 1000

/-- The stamp of a finished frame. -/
def camStamp (c n seq : Nat) (carries : Bool) (f : CamFrame) (s : CamSet) (d : Dev) : Stamp :=
  { epoch := s.epoch, gen := s.gen, ing := s.ing.getD 0, cap := camCap c s d, capsrc := 2, slice := 0, src := n, seq,
    taint := taintIf s.holdover tHoldover + taintIf s.cropPad tCropPad + taintIf carries tFormat + taintIf f.poison tPoison }

/-- What follows the publication of a frame: its taps, the events, its statistics. -/
def camAfter (c n seq : Nat) (cap : Ns) (st : Stamp) (f : CamFrame) (s : CamSet) (d : Dev) : Dev :=
  let d := match (d.dec n).lastOut with
    | some p => d.tapFrame c f.tapsHeld p.stamp
    | none => d
  let was := (d.pipe c).sizeRun
  let d := d.modPipe c fun p => { p with sizeRun := s.cropPad }
  let d := d.when (was != s.cropPad) fun d => d.ipuEvent c 0 (u32 s.e)
  let i := (d.pipe c).statsIdx
  let d := d.ipuCount c 10 (decide (8 ≤ (d.pipe c).stats.length)).toNat
  let taint := (((d.dec n).lastOut.map fun p => p.stamp.taint).getD st.taint)
  let head : StatHead :=
    { seq, frame := s.e, gen := s.gen, cap, tag := ((d.pipe c).inForce.map fun x => x.tag).getD 0, taint }
  let d := d.modPipe c fun p => { p with statsIdx := (i + 1) % 8, stats := (i, head) :: p.stats.filter (·.1 != i) }
  d.ipuEvent c 6 (u32 s.e ++ u32 seq ++ u8 i)

/-- A finished frame of the source's generation is accepted, published and told of. -/
theorem frameDoneOp_eq {d : Dev} {c n : Nat} {s : CamSet} (f : CamFrame) (hfind : (d.pipe c).sets.find? (·.ing.isSome) = some s)
    (hon : d.srcOn 4 c = some n)
    (hgen : s.gen = (d.modPipe c fun p => { p with sets := p.sets.filter (·.e != s.e), overrunRun := false }).srcGen n) :
    frameDoneOp c f d =
      let d := d.modPipe c fun p => { p with sets := p.sets.filter (·.e != s.e), overrunRun := false }
      let a := d.formatOf n (d.pipeFormat c)
      let b := a.2.accepted n (s.ing.getD 0)
      let x := camExposures c b.1 s b.2
      let st := camStamp c n b.1 a.1 f s x
      camAfter c n b.1 (camCap c s x) st f s
        ((x.placement n).finishUncompressed n st s.e f.check f.sentinels f.grid (d.pipeFormat c) s.mark) := by
  rw [frameDoneOp, hfind, hon]
  exact if_neg (not_not.mpr hgen)

end Sys2Proof.Goals
end

section
/-!
PROOF. What becomes of a finished camera frame (06 R156, R157).
-/

namespace Sys2Proof.Goals

open Sys2Proof Sys2Proof.Machine

/-- The frames of pipe `c` and the chain's state are as before. -/
structure Aside (c : Nat) (d e : Dev) : Prop where
  sets : (e.pipe c).sets = (d.pipe c).sets
  chain : e.chain = d.chain

namespace Aside

variable {c : Nat} {d e f : Dev}

theorem of_eqs (hp : e.pipes = d.pipes) (hc : e.chain = d.chain) : Aside c d e :=
  ⟨by rw [Dev.pipe, Dev.pipe, hp], hc⟩

theorem refl (d : Dev) : Aside c d d := of_eqs rfl rfl

theorem trans (h1 : Aside c d e) (h2 : Aside c e f) : Aside c d f := ⟨h2.sets.trans h1.sets, h2.chain.trans h1.chain⟩

theorem after (h2 : Aside c e f) (h1 : Aside c d e) : Aside c d f := h1.trans h2

theorem raise (d : Dev) (rcpt : Session → Bool) (ev : Event) : Aside c d (d.raise rcpt ev) := of_eqs (raise_pipes ..) (raise_chain ..)

theorem when {b : Bool} {g : Dev → Dev} (h : ∀ d, Aside c d (g d)) : Aside c d (d.when b g) := by
  cases b
  · exact refl d
  · exact h d

theorem each {α : Type} {l : List α} {g : Dev → α → Dev} (h : ∀ d a, Aside c d (g d a)) : ∀ d : Dev, Aside c d (d.each l g) := by
  induction l with
  | nil => exact refl
  | cons a l ih => exact fun d => (h d a).trans (ih (g d a))

theorem modPipe {g : Pipe → Pipe} (h : ∀ p, (g p).sets = p.sets) : Aside c d (d.modPipe c g) := by
  refine ⟨?_, rfl⟩
  rw [pipe_modPipe, if_pos rfl, h]

theorem srcEvent (d : Dev) (n code : Nat) (data : Bytes) (on : Bool) (gen : Option Nat) : Aside c d (d.srcEvent n code data on gen) := raise ..

theorem ipuEvent (d : Dev) (p k : Nat) (data : Bytes) : Aside c d (d.ipuEvent p k data) := raise ..

theorem scribble (d : Dev) (a n : Nat) : Aside c d (d.scribble a n) := by
  show Aside c d (Dev.poke _ _ _)
  rw [Dev.poke_frame]
  exact of_eqs rfl rfl

theorem modEng (d : Dev) (e : Nat) (g : DecEng → DecEng) : Aside c d (d.modEng e g) := of_eqs rfl rfl

theorem modSrc (d : Dev) (n : Nat) (g : Src → Src) : Aside c d (d.modSrc n g) := of_eqs rfl rfl

theorem tapStamp (d : Dev) (st : Stamp) : Aside c d (d.tapStamp st).2 := of_eqs rfl rfl

theorem ipuCount (d : Dev) (p k n : Nat) : Aside c d (d.ipuCount p k n) := of_eqs rfl rfl

theorem overcommit (d : Dev) : Aside c d d.overcommit := by
  refine each (fun d e => ?_) d
  dsimp only
  split
  · exact refl d
  · exact (modEng ..).trans (raise ..)

theorem place (d : Dev) (n cause : Nat) : Aside c d (d.place n cause) := by
  refine trans ?_ (overcommit _)
  split
  · split
    · exact of_eqs rfl rfl
    · exact (of_eqs rfl rfl : Aside c d ((d.modDec n _).decCount n 16)).trans (srcEvent ..)
  · exact of_eqs rfl rfl

theorem placement (d : Dev) (n : Nat) : Aside c d (d.placement n) := by
  unfold Dev.placement
  dsimp only
  split
  · exact place ..
  split
  · exact place ..
  split
  · exact place ..
  split
  · split
    · exact of_eqs rfl rfl
    · exact place ..
  split
  · exact place ..
  · exact refl d

theorem prove (d : Dev) (n : Nat) (pc : Nat × Nat × Nat) (ing : Ns) (transport : Nat) (measured : Option (List (Option Nat) × List Nat)) (depth : Nat) :
    Aside c d (d.prove n pc ing transport measured depth).2.2 := by
  unfold Dev.prove
  exact (modSrc ..).trans (when fun d => srcEvent ..)

theorem finishUncompressed (d : Dev) (n : Nat) (st : Stamp) (transport check : Nat) (sentinels : List (Option Nat)) (grid : List Nat) (fmt : Format)
    (mark : Bool) : Aside c d (d.finishUncompressed n st transport check sentinels grid fmt mark) :=
  (prove d n (d.proofNow n) st.ing transport (some (sentinels, grid)) fmt.depth).trans (of_eqs rfl rfl)

end Aside

/-! ### The stages of a finished frame -/

/-- A frame in the format that its running source has. -/
theorem formatOf_running {d : Dev} {n : Nat} {fmt : Format} (hst : (d.src n).st = .running) (hfmt : (d.src n).fmt = some fmt) :
    d.formatOf n fmt = (false, d.modSrc n fun s => { s with fmt := some fmt }) := by
  simp [Dev.formatOf, hst, hfmt]

theorem publish_lastOut (d : Dev) (n : Nat) (p : Pic) : ((d.publish n p).dec n).lastOut = some p := by
  have hdec : (d.publish n p).dec n = (d.modDec n fun x => { x with pics := (p :: x.pics).take 4, lastOut := some p }).dec n := rfl
  rw [hdec, dec_modDec, if_pos rfl]

/-- What is published of a picture that needs no decode: its stamp with CHECK written, as a whole picture. -/
theorem finishUncompressed_lastOut (d : Dev) (n : Nat) (st : Stamp) (transport check : Nat) (sentinels : List (Option Nat)) (grid : List Nat) (fmt : Format)
    (mark : Bool) :
    ∃ (p : Pic) (proof evid : Nat), ((d.finishUncompressed n st transport check sentinels grid fmt mark).dec n).lastOut = some p ∧
      p.stamp = { st with check, proof, evid, hbCtr := 0, slice := 0xFF } := by
  unfold Dev.finishUncompressed
  generalize d.prove n (d.proofNow n) st.ing transport (some (sentinels, grid)) fmt.depth = x
  obtain ⟨proof, evid, e⟩ := x
  dsimp only
  exact ⟨_, proof, evid, publish_lastOut .., rfl⟩

theorem pick_nothing {p : Pipe} (e : Nat) (emb : List Nat) (hpend : p.pend = []) : ∃ unknown, p.pick e emb = (none, [], unknown) := by
  unfold Pipe.pick
  split
  · exact ⟨!(p.inForce.any fun s => s.matches_ emb), by simp [hpend]⟩
  · exact ⟨false, by simp [hpend]⟩

/-- With no set pending and none in force, a frame applies none. -/
theorem camExposures_none {d : Dev} {c : Nat} (seq : Nat) (s : CamSet) (hpend : (d.pipe c).pend = []) (hforce : (d.pipe c).inForce = none) :
    Aside c d (camExposures c seq s d) ∧ camCap c s (camExposures c seq s d) = s.fs - bits (d.pipe c).cam 15 0 * 1000 := by
  obtain ⟨unknown, hpick⟩ := pick_nothing s.e s.emb hpend
  unfold camExposures
  rw [hpick]
  dsimp only
  have hpipe (m : Dev) (b : Bool) (data : Dev → Bytes) : (m.when b fun d => d.ipuEvent c 5 (data d)).pipe c = m.pipe c := by
    cases b
    · rfl
    · exact congrArg (fun l => smGet {} l c) (raise_pipes ..)
  refine ⟨.after (.when fun d => .ipuEvent ..) (.modPipe fun _ => rfl), ?_⟩
  rw [camCap, hpipe, pipe_modPipe, if_pos rfl, hforce]
  rfl

/-! ### After the publication -/

/-- The taps leave the published pictures and the frames of the pipe. -/
theorem tapFrame_aside (d : Dev) (c : Nat) (held : List Nat) (st : Stamp) : Aside c d (d.tapFrame c held st) := by
  refine .each (fun d t => ?_) d
  split
  · exact .of_eqs rfl rfl
  · exact .after (.modPipe fun _ => rfl) (.after (.tapStamp _ st) (.scribble ..))

theorem each_decs {α : Type} {l : List α} {g : Dev → α → Dev} (h : ∀ d a, (g d a).decs = d.decs) : ∀ d : Dev, (d.each l g).decs = d.decs := by
  induction l with
  | nil => exact fun _ => rfl
  | cons a l ih => exact fun d => (ih (g d a)).trans (h d a)

theorem scribble_decs (d : Dev) (a n : Nat) : (d.scribble a n).decs = d.decs := by
  show (Dev.poke _ _ _).decs = _
  rw [Dev.poke_frame]

theorem tapFrame_decs (d : Dev) (c : Nat) (held : List Nat) (st : Stamp) : (d.tapFrame c held st).decs = d.decs := by
  refine each_decs (fun d t => ?_) d
  split
  · rfl
  · exact scribble_decs ..

theorem ipuEvent_decs (d : Dev) (c k : Nat) (data : Bytes) : (d.ipuEvent c k data).decs = d.decs := raise_decs ..

theorem camAfter_aside (d : Dev) (c n seq : Nat) (cap : Ns) (st : Stamp) (f : CamFrame) (s : CamSet) : Aside c d (camAfter c n seq cap st f s d) := by
  have htap : Aside c d (match (d.dec n).lastOut with | some p => d.tapFrame c f.tapsHeld p.stamp | none => d) := by
    split
    · exact tapFrame_aside ..
    · exact .refl d
  exact .after (.ipuEvent ..) (.after (.modPipe fun _ => rfl) (.after (.ipuCount ..) (.after (.when fun d => .ipuEvent ..)
    (.after (.modPipe fun _ => rfl) htap))))

theorem camAfter_decs (d : Dev) (c n seq : Nat) (cap : Ns) (st : Stamp) (f : CamFrame) (s : CamSet) : (camAfter c n seq cap st f s d).decs = d.decs := by
  have htap : (match (d.dec n).lastOut with | some p => d.tapFrame c f.tapsHeld p.stamp | none => d).decs = d.decs := by
    split
    · exact tapFrame_decs ..
    · rfl
  exact (ipuEvent_decs ..).trans ((when_decs fun d => ipuEvent_decs ..).trans htap)

/-- A finished frame of a running source is published with its stamp, and leaves its pipe. -/
theorem frameDoneOp_publishes {d : Dev} {c n : Nat} {f : CamFrame} {m : CamSet} {t : Ns} (hon : d.srcOn 4 c = some n) (hsets : (d.pipe c).sets = [m])
    (hing : m.ing = some t) (hgen : m.gen = d.srcGen n) (hst : (d.src n).st = .running) (hfmt : (d.src n).fmt = some (d.pipeFormat c))
    (hpend : (d.pipe c).pend = []) (hforce : (d.pipe c).inForce = none) :
    (frameDoneOp c f d).chain = d.chain ∧ ((frameDoneOp c f d).pipe c).sets = [] ∧
      ∃ p, ((frameDoneOp c f d).dec n).lastOut = some p ∧ p.stamp.cap = m.fs - bits (d.pipe c).cam 15 0 * 1000 ∧ p.stamp.capsrc = 2 ∧ p.stamp.ing = t ∧
        p.stamp.slice = 0xFF ∧ p.stamp.src = n ∧ p.stamp.seq = (d.src n).nextSeq ∧ p.stamp.check = f.check ∧ p.stamp.hbCtr = 0 := by
  have hfind : (d.pipe c).sets.find? (·.ing.isSome) = some m := by simp [hsets, hing]
  rw [frameDoneOp_eq f hfind hon hgen]
  dsimp only
  generalize hd1 : d.modPipe c (fun p => { p with sets := p.sets.filter (·.e != m.e), overrunRun := false }) = d1
  have hpipe1 : d1.pipe c = { d.pipe c with sets := [], overrunRun := false } := by
    rw [← hd1, pipe_modPipe, if_pos rfl, hsets]
    simp
  have hsrc1 : d1.src n = d.src n := by rw [← hd1]; rfl
  have hchain1 : d1.chain = d.chain := by rw [← hd1]; rfl
  have hpf1 : d1.pipeFormat c = d.pipeFormat c := by rw [← hd1]; rfl
  rw [formatOf_running (d := d1) (n := n) (fmt := d1.pipeFormat c) (by rw [hsrc1, hst]) (by rw [hsrc1, hfmt, hpf1])]
  dsimp only
  generalize hd2 : d1.modSrc n (fun s => { s with fmt := some (d1.pipeFormat c) }) = d2
  have hseq : (d2.accepted n (m.ing.getD 0)).1 = (d.src n).nextSeq := by
    show (d2.src n).nextSeq = _
    rw [← hd2, src_modSrc, if_pos rfl, hsrc1]
  generalize hd3 : (d2.accepted n (m.ing.getD 0)).2 = d3
  have hpipe3 : d3.pipe c = d1.pipe c := by rw [← hd3, ← hd2]; rfl
  have haside3 : Aside c d1 d3 := ⟨by rw [hpipe3], by rw [← hd3, ← hd2]; rfl⟩
  rw [hseq]
  obtain ⟨haside4, hcap⟩ := camExposures_none (d := d3) (c := c) (d.src n).nextSeq m (by rw [hpipe3, hpipe1, hpend]) (by rw [hpipe3, hpipe1, hforce])
  generalize camExposures c (d.src n).nextSeq m d3 = d4 at haside4 hcap
  rw [hpipe3, hpipe1] at hcap
  generalize hst' : camStamp c n (d.src n).nextSeq false f m d4 = st
  generalize d1.pipeFormat c = fmt
  have haside5 : Aside c d1 ((d4.placement n).finishUncompressed n st m.e f.check f.sentinels f.grid fmt m.mark) :=
    .after (.finishUncompressed ..) (.after (.placement ..) (haside3.trans haside4))
  obtain ⟨p, proof, evid, hlast, hstamp⟩ := finishUncompressed_lastOut (d4.placement n) n st m.e f.check f.sentinels f.grid fmt m.mark
  generalize (d4.placement n).finishUncompressed n st m.e f.check f.sentinels f.grid fmt m.mark = d5 at haside5 hlast
  have haside := haside5.trans (camAfter_aside d5 c n (d.src n).nextSeq (camCap c m d4) st f m)
  have hdec : (camAfter c n (d.src n).nextSeq (camCap c m d4) st f m d5).dec n = d5.dec n := by
    rw [Dev.dec, Dev.dec, camAfter_decs]
  refine ⟨haside.chain.trans hchain1, haside.sets.trans (by rw [hpipe1]), p, by rw [hdec, hlast], ?_⟩
  rw [hstamp, ← hst']
  exact ⟨hcap, rfl, by simp [camStamp, hing], rfl, rfl, rfl, rfl, rfl⟩

/-- Settles O16: each packet, frame and set in turn. -/
theorem imagePipelineCommandsComplete : Obligations.ImagePipelineCommandsComplete := by
  refine ⟨?_, ?_, ?_, ?_, ?_, ?_, ?_, ?_, ?_⟩
  · intro s c n vc fn hc hruns hon hexp hsets hearly hcam
    exact gives_of rfl (decide_eq_true hc) (csiFsOp_opens fn hc hruns hon hexp hsets hearly hcam)
  · intro s c x l f r hc hruns _ hsup hemb hcrc hover hexp hsets hexps hopen hlines hsamples
    exact gives_of rfl (decide_eq_true hc) (csiLineOp_fits hruns hsup hemb hcrc hover hexp hsets hexps hopen hlines hsamples)
  · intro s c vc fn f r hc hruns hexp hone hsets hexps hopen hing hkeep hlines
    exact gives_of rfl (decide_eq_true hc) (csiFeOp_whole hruns hexp hone hsets hexps hopen hing hkeep hlines)
  · intro s c f r hc hone hsets hexps hopen hing hkeep hlines
    refine gives_of (f := csiTimeoutOp c 0) rfl (decide_eq_true ⟨hc, by decide⟩) ?_
    rw [csiTimeoutOp, closeExposure_lone hone hsets hexps hopen hing hkeep]
    simp [hlines]
  · intro s c n f m t hc hroutes hon hsets hing hgen hst hfmt hpend hforce
    obtain ⟨hchain, hempty, p, hlast, hcap, hsrc, hing', hslice, hn, hseq, hcheck, hctr⟩ :=
      frameDoneOp_publishes (f := f) hon hsets hing hgen hst hfmt hpend hforce
    have hroutes' : (frameDoneOp c f s.dev).routes = [] := by rw [Dev.routes, hchain]; exact hroutes
    refine ⟨frameDoneOp c f s.dev, ?_, p, hlast, hcap, hsrc, hing', hslice, hn, hseq, hcheck, hctr, hempty⟩
    exact to_of (f := fun d => Dev.forwarding d (frameDoneOp c f d) ((d.srcOn 4 c).getD 192) (unitRows (d.pipeFormat c).height)) rfl
      (decide_eq_true hc) (forwarding_unrouted _ _ _ hroutes')
  · intro h pipe tag sets
    refine runs_of _ h (.ipuExpose pipe tag sets) _ _ _ (fun _ => rfl) nofun fun c d ⟨hpres, hown, hpipe, htag, hlen, hexp, hpend⟩ => ?_
    exact ipuExposeOp_pass hpres hown hpipe htag hlen hexp hpend
  · intro s c x hc hpend hemb hleft
    exact to_of (f := exposeTimeoutOp c x.tag) rfl (decide_eq_true hc) (exposeTimeoutOp_lapsed hpend hemb hleft)
  · intro h tap pipe copy inAddr outAddr outFmt config
    refine runs_of _ h (.ipuReprocess tap pipe copy inAddr outAddr outFmt config) _ _ _ (fun _ => rfl) nofun fun c d
      ⟨hpres, hown, hpipe, htap, hcopy, hw1, hw2, hh1, hh2, hs1, hs2, hdepth, hcolor, hnin, hin, hout⟩ => ?_
    exact ipuReprocessOp_pass ⟨hpres, hown, hpipe, htap, hcopy, ⟨hw1, hw2⟩, ⟨hh1, hh2⟩, ⟨hs1, hs2⟩, hdepth, hcolor, hnin, hin, hout⟩
  · intro s c j rest hc hjob htaps
    exact ⟨rfl, to_of (f := fun d => (reprocessDoneOp c d).settled) rfl (decide_eq_true hc) (congrArg Dev.settled (reprocessDoneOp_untapped hjob htaps))⟩

end Sys2Proof.Goals
end

section
/-!
PROOF. LAYER_COMMIT and the cartouche opcodes (07 R180, R187, R190).
-/

namespace Sys2Proof.Goals

open Sys2Proof Sys2Proof.Machine

/-- The checks of a cartouche opcode pass for the owner of a present output. -/
theorem cartGate_pass {c : Ctx} {d : Dev} {outs : List Nat} (hpres : ∀ o ∈ outs, d.present (4 + plateOf o) = true)
    (hown : ∀ o ∈ outs, c.ownsCart d o = true) : ∀ x ∈ cartGate c outs d, x.1 = false := by
  simp only [cartGate, List.forall_mem_cons, List.any_eq_false]
  exact ⟨fun o ho => by simp [hpres o ho], fun o ho => by simp [hown o ho], nofun⟩

theorem cartGate_one {c : Ctx} {d : Dev} {o : Nat} (hpres : d.present (4 + plateOf o) = true) (hown : c.ownsCart d o = true) :
    ∀ x ∈ cartGate c [o] d, x.1 = false :=
  cartGate_pass (by simpa using hpres) (by simpa using hown)

/-- The checks of an opcode that names one output's cartouche: those of every cartouche opcode, and its own. -/
theorem cartChecks_pass {c : Ctx} {d : Dev} {o : Nat} {own : List (Bool × Nat)} (ho : o < 8) (hpres : d.present (4 + plateOf o) = true)
    (hown : c.ownsCart d o = true) (h : ∀ x ∈ own, x.1 = false) :
    ∀ x ∈ [(decide (8 ≤ o), stBadParam)] ++ cartGate c [o] d ++ own, x.1 = false := by
  simp only [List.forall_mem_append, List.forall_mem_cons]
  exact ⟨⟨⟨decide_eq_false (Nat.not_le.mpr ho), nofun⟩, cartGate_one hpres hown⟩, h⟩

/-- Settles O18: each opcode's checks pass. -/
theorem commitCommandsComplete : Obligations.CommitCommandsComplete := by
  refine ⟨?_, ?_, ?_, ?_, ?_, ?_⟩
  · intro h mask
    refine runs_of _ h (.layerCommit mask) _ _ _ (fun _ => rfl) nofun fun c d hok => ?_
    show layerCommitOp c mask d = _
    simp only [layerCommitOp]
    rw [checked_pass hok]
  · intro h o off data
    refine runs_of _ h (.cartWrite o off data) _ _ _ (fun _ => rfl) nofun fun c d ⟨ho, hpres, hown, hlen, hfree⟩ => ?_
    show cartWriteOp c o off data d = _
    simp only [cartWriteOp]
    rw [checked_pass (cartChecks_pass ho hpres hown ?_)]
    simp only [List.forall_mem_cons, List.any_eq_false]
    refine ⟨decide_eq_false (Nat.not_lt.mpr hlen), fun b hb hany => ?_, nofun⟩
    obtain ⟨r, hr, hlt⟩ := List.any_eq_true.mp hany
    exact absurd (of_decide_eq_true hlt) (Nat.not_lt.mpr (hfree b hb r hr))
  · intro h o bank entries
    refine runs_of _ h (.cartLut o bank entries) _ _ _ (fun _ => rfl) nofun fun c d ⟨ho, hpres, hown, hbank, hlen, hfree⟩ => ?_
    show cartLutOp c o bank entries d = _
    simp only [cartLutOp]
    rw [checked_pass (cartChecks_pass ho hpres hown ?_)]
    simp only [List.forall_mem_cons, List.any_eq_false]
    exact ⟨by simp [hlen, Nat.not_lt.mpr hbank], fun b hb => by simpa using hfree b hb, nofun⟩
  · intro h o bank images
    refine runs_of _ h (.cartGlyph o bank images) _ _ _ (fun _ => rfl) nofun fun c d ⟨ho, hpres, hown, hbank, hlen, hfree⟩ => ?_
    show cartGlyphOp c o bank images d = _
    simp only [cartGlyphOp]
    rw [checked_pass (cartChecks_pass ho hpres hown ?_)]
    simp only [List.forall_mem_cons, List.any_eq_false]
    exact ⟨by simp [hlen, Nat.not_lt.mpr hbank], fun b hb => by simpa using hfree b hb, nofun⟩
  · intro h o bank ctl rects
    refine runs_of _ h (.cartDesc o bank ctl rects) _ _ _ (fun _ => rfl) nofun
      fun c d ⟨ho, hpres, hown, hbank, hfree, hn, hlen, hx, hy, hrects⟩ => ?_
    show cartDescOp c o bank ctl rects d = _
    simp only [cartDescOp]
    rw [checked_pass (cartChecks_pass ho hpres hown ?_)]
    simp only [List.forall_mem_cons, List.any_eq_false]
    exact ⟨by simp [hlen, hx, hy, Nat.not_lt.mpr hbank, Nat.not_lt.mpr hn], fun w hw => by rw [decide_eq_true (hrects w hw)]; decide, by simpa using hfree, nofun⟩
  · intro h mask bank
    refine runs_of _ h (.cartCommit mask bank) _ _ _ (fun _ => rfl) nofun fun c d ⟨hmask, hbank, houts⟩ => ?_
    show cartCommitOp c mask bank d = _
    simp only [cartCommitOp]
    rw [checked_pass]
    simp only [List.forall_mem_append, List.forall_mem_cons]
    refine ⟨cartGate_pass (fun o ho => (houts o ho).1) fun o ho => (houts o ho).2.1, ?_, nofun⟩
    have hfits : ((outsOf mask).any fun o => !d.cartFits o bank) = false := by
      rw [List.any_eq_false]
      exact fun o ho => by simp [(houts o ho).2.2]
    simp [hmask, Nat.not_lt.mpr hbank, hfits]

end Sys2Proof.Goals
end

section
/-!
PROOF. The boundary unit's verdict and its queue of reports (13 R362, R365): the first region that holds the page decides, and a report is
kept while fewer than 16 are held.
-/

namespace Sys2Proof.Goals

open Sys2Proof Sys2Proof.Machine

theorem regionHolds_iff {w page : Nat} : regionHolds w page = true ↔ bit w 55 = true ∧ bits w 91 56 ≤ page ∧ page ≤ bits w 127 92 := by
  simp [regionHolds]

/-- With no region the verdict is 63. -/
theorem checkPage_none {d : Dev} {m page : Nat} (kind : AccKind) (claim : Nat) (h : ∀ q < 32, ¬regionHolds (d.bndRegion m q) page = true) :
    d.checkPage m page kind claim = .deny 63 false := by
  have hf : (List.range 32).find? (fun r => regionHolds (d.bndRegion m r) page) = none :=
    List.find?_range_eq_none.2 fun q hq => by simpa using h q hq
  rw [Dev.checkPage, hf]

/-- The verdict of the first region that holds the page. -/
theorem checkPage_first {d : Dev} {m page r : Nat} (kind : AccKind) (claim : Nat) (hr : r < 32) (h : regionHolds (d.bndRegion m r) page = true)
    (hq : ∀ q < r, ¬regionHolds (d.bndRegion m q) page = true) :
    (d.checkPage m page kind claim = .allow ↔
      bit (d.bndRegion m r) (permBit kind) = true ∧
        (bits (d.bndRegion m r) 51 50 = 1 ∨ (bits (d.bndRegion m r) 51 50 = 0 ∧ d.tagOf page = bits (d.bndRegion m r) 49 44) ∨
          (bits (d.bndRegion m r) 51 50 = 2 ∧ d.tagOf page = claim))) ∧
    (d.checkPage m page kind claim ≠ .allow → ∃ t, d.checkPage m page kind claim = .deny r t) := by
  have hf : (List.range 32).find? (fun r => regionHolds (d.bndRegion m r) page) = some r :=
    List.find?_range_eq_some.2 ⟨h, List.mem_range.2 hr, fun q hlt => by simpa using hq q hlt⟩
  rw [Dev.checkPage, hf]
  dsimp only
  cases hp : bit (d.bndRegion m r) (permBit kind)
  · simp
  · match hk : bits (d.bndRegion m r) 51 50 with
    | 0 => by_cases ht : d.tagOf page = bits (d.bndRegion m r) 49 44 <;> simp [ht]
    | 1 => simp
    | 2 => by_cases ht : d.tagOf page = claim <;> simp [ht]
    | n + 3 => simp

/-- Settles O36: by the first region that holds the page. -/
theorem firstMatchingRegionDecides : Obligations.FirstMatchingRegionDecides := by
  unfold Obligations.FirstMatchingRegionDecides
  intro d m page claim r kind
  refine ⟨fun hr hit hq => ?_, fun hq => checkPage_none kind claim fun q hlt => mt regionHolds_iff.1 (hq q hlt)⟩
  have h := checkPage_first kind claim hr (regionHolds_iff.2 hit) fun q hlt => mt regionHolds_iff.1 (hq q hlt)
  cases kind <;> exact h

/-! ### The queue of reports (13 R365) -/

/-- What a report by the debug master adds keeps the queue. -/
theorem debugDenied_queue (d : Dev) (entry : Bytes) :
    (d.debugDenied entry).mem.viol = d.mem.viol ∧ (d.debugDenied entry).mem.ovfPending = d.mem.ovfPending := by
  unfold Dev.debugDenied
  obtain ⟨chain, c, h⟩ := Dev.audit_frame d 0x000C entry 0xFF 0xFF
  rw [h]
  dsimp only
  split
  · obtain ⟨chain', c', h'⟩ := Dev.audit_frame { (Dev.freshBytes _ 24).2 with mem := { (Dev.freshBytes _ 24).2.mem with debugDetached := true } }
      0x000C (Dev.freshBytes _ 24).1 0xFF 0xFF
    rw [h']
    exact ⟨rfl, rfl⟩
  · exact ⟨rfl, rfl⟩

/-- The queue after a report is what the unit kept. -/
theorem report_queue (d : Dev) (v : Viol) :
    let v := { v with time := d.now, epoch := d.epoch, ovf := d.mem.ovfPending }
    ((d.report v).mem.viol, (d.report v).mem.ovfPending) =
      if d.mem.viol.length < 16 then (d.mem.viol ++ [v], false) else (d.mem.viol, true) := by
  intro v
  have hq : ∀ (b : Bool) (e : Dev) (entry : Bytes), ((e.when b fun d => d.debugDenied entry).mem.viol, (e.when b fun d => d.debugDenied entry).mem.ovfPending)
      = (e.mem.viol, e.mem.ovfPending) := by
    intro b e entry
    cases b
    · rfl
    · exact Prod.ext (debugDenied_queue e entry).1 (debugDenied_queue e entry).2
  unfold Dev.report
  dsimp only
  rw [hq, raise_mem]
  split <;> rfl

/-- Settles O38: by what the queue holds after a report. -/
theorem violationQueue : Obligations.ViolationQueue := by
  unfold Obligations.ViolationQueue
  refine ⟨fun d v h => ?_, fun d v h => ?_, fun d => List.drop_one, fun d h => ?_⟩
  · exact Prod.mk.inj ((report_queue d v).trans (if_pos h))
  · exact Prod.mk.inj ((report_queue d v).trans (if_neg (Nat.not_lt.2 h)))
  · simp [Dev.view, h]

end Sys2Proof.Goals
end

section
/-!
PROOF. The records of the witness recorder (08 R213 to R222): what a record that is chained holds, how it leaves the recorder, and what the
engines and the recorder's timers make of it.
-/

namespace Sys2Proof.Goals

open Sys2Proof Sys2Proof.Machine

/-! ### A record and its chain (08 R215) -/

theorem witTx_tells (d : Dev) (o : Nat) (video : Bool) (x : Out) : Tells d (d.witTx o video x) := by
  unfold Dev.witTx Dev.when
  split
  · exact ipTx_tells ..
  · exact .refl d

theorem when_tells {f : Dev → Dev} (hf : ∀ d, Tells d (f d)) (d : Dev) (b : Bool) : Tells d (d.when b f) := by
  cases b
  · exact .refl d
  · exact hf d

/-- What sending on leaves of the recorders. -/
theorem Tells.wit {d d' : Dev} (h : Tells d d') (o : Nat) : d'.wit o = d.wit o := by
  rw [Dev.wit, Dev.wit, h.eq]

/-- The bytes before the hash of the record that an output makes next. -/
def nextHead (d : Dev) (o type wlevel frame : Nat) (ref : Ns) (flags epoch : Nat) (sections : List (Nat × Bytes)) (au : Bytes) : Bytes :=
  recordHead o type wlevel (d.wit o).segment ((d.wit o).rseq + 1) frame ref flags epoch sections (d.wit o).chain au

/-- The record that an output makes next. -/
def nextRecord (d : Dev) (o type wlevel frame : Nat) (ref : Ns) (flags epoch : Nat) (sections : List (Nat × Bytes)) (au : Bytes) : WRec :=
  let head := nextHead d o type wlevel frame ref flags epoch sections au
  let chain := padTo 48 (Config.sha384 head)
  { rseq := (d.wit o).rseq + 1, type, bytes := head ++ chain, chain, signed := bit flags 15, sent := !bit flags 15, au := bit flags 14,
    at_ := d.tim.elapsed }

/-- A record that is chained in a live segment stands last among those kept. -/
theorem chainRecord_wit {d : Dev} {o : Nat} (type wlevel frame : Nat) (ref : Ns) (flags epoch : Nat) (sections : List (Nat × Bytes)) (au : Bytes)
    (hs : (d.wit o).started = true) (hr : (d.wit o).rseq < 0xFFFFFFFF) :
    ∃ old log ck, (d.chainRecord o type wlevel frame ref flags epoch sections au).wit o =
      { d.wit o with
        rseq := (d.wit o).rseq + 1, chain := (nextRecord d o type wlevel frame ref flags epoch sections au).chain,
        recs := old ++ [nextRecord d o type wlevel frame ref flags epoch sections au], chainLog := log, ckptPending := ck } := by
  have hlive : ((d.wit o).started && decide ((d.wit o).rseq < 0xFFFFFFFF)) = true := by simp [hs, hr]
  unfold Dev.chainRecord
  rw [if_pos hlive]
  unfold Dev.putRecord
  dsimp only
  rw [Tells.wit (when_tells (fun e => witTx_tells e ..) _ _)]
  simp only [wit_modWit, if_true]
  exact ⟨_, _, _, rfl⟩

/-- PREV_HASH stands in 48 bytes from offset 40. -/
theorem recordHead_prev (o type wlevel seg rseq frame : Nat) (ref : Ns) (flags epoch : Nat) (sections : List (Nat × Bytes)) (prev au rest : Bytes) :
    ((recordHead o type wlevel seg rseq frame ref flags epoch sections prev au ++ rest).drop 40).take 48 = padTo 48 prev := by
  unfold recordHead
  dsimp only
  rw [List.append_assoc, List.append_assoc, List.append_assoc, List.drop_left' (by simp [u8, u16, u32, u64, tm, leBytes_length])]
  exact List.take_left' (padTo_length 48 prev)

/-- Settles O21: by the record that stands last. -/
theorem recordsFormAChain : Obligations.RecordsFormAChain := by
  unfold Obligations.RecordsFormAChain
  intro d o type wlevel frame ref flags epoch sections au hs hr e
  obtain ⟨old, log, ck, hw⟩ := chainRecord_wit type wlevel frame ref flags epoch sections au hs hr
  have hbytes : (nextRecord d o type wlevel frame ref flags epoch sections au).bytes.take
      ((nextRecord d o type wlevel frame ref flags epoch sections au).bytes.length - 48) = nextHead d o type wlevel frame ref flags epoch sections au := by
    refine List.take_left' ?_
    simp only [nextRecord, List.length_append, padTo_length]
    omega
  refine ⟨by rw [hw], by rw [hw], nextRecord d o type wlevel frame ref flags epoch sections au, by rw [hw]; exact List.getLast?_concat, rfl,
    recordHead_prev .., ?_, ?_, by rw [hw], rfl⟩
  · rw [hbytes]; rfl
  · rw [hbytes]; rfl

end Sys2Proof.Goals
end

section
/-!
PROOF. The engines, the recorder and the command pair (08 R210, R215, R216, R220, R222): a picture coded or given up chains the record that
waits for it, a lost recorder chains an event, and a checkpoint alternates between its two copies.
-/

namespace Sys2Proof.Goals

open Sys2Proof Sys2Proof.Machine

/-! ### A pending record is chained (08 R211, R222) -/

/-- A record of type `type` stands last in `w'`, made on `w`; of the rest of the recorder the pending records stay. -/
structure Chained (w w' : Wit) (type : Nat) (r : WRec) : Prop where
  rseq : w'.rseq = w.rseq + 1
  last : w'.recs.getLast? = some r
  recRseq : r.rseq = w.rseq + 1
  recType : r.type = type
  chain : r.chain = w'.chain
  sent : r.sent = !r.signed
  pend : w'.pend = w.pend
  lost : w'.lost = w.lost

theorem chainRecord_chained {d : Dev} {o : Nat} (type wlevel frame : Nat) (ref : Ns) (flags epoch : Nat) (sections : List (Nat × Bytes)) (au : Bytes)
    (hs : (d.wit o).started = true) (hr : (d.wit o).rseq < 0xFFFFFFFF) :
    ∃ r, Chained (d.wit o) ((d.chainRecord o type wlevel frame ref flags epoch sections au).wit o) type r ∧ r.signed = bit flags 15 := by
  obtain ⟨old, log, ck, hw⟩ := chainRecord_wit type wlevel frame ref flags epoch sections au hs hr
  refine ⟨nextRecord d o type wlevel frame ref flags epoch sections au, ?_, rfl⟩
  rw [hw]
  exact ⟨rfl, List.getLast?_concat, rfl, rfl, rfl, rfl, rfl, rfl⟩

/-- Noting whether the last record was a gap leaves the rest of the recorder. -/
theorem Chained.gapRun {w w' : Wit} {type : Nat} {r : WRec} (h : Chained w w' type r) (b : Bool) : Chained w { w' with gapRun := b } type r :=
  ⟨h.rseq, h.last, h.recRseq, h.recType, h.chain, h.sent, h.pend, h.lost⟩

theorem bit_or (a b k : Nat) : bit (a ||| b) k = (bit a k || bit b k) := by
  simp [bit_eq_testBit]

/-- A record that waited is chained, signed where it names a gap. -/
theorem chainPend_chained {d : Dev} {o : Nat} (p : WPend) (coded : Option (Bytes × Bool)) (hs : (d.wit o).started = true)
    (hr : (d.wit o).rseq < 0xFFFFFFFF) :
    ∃ r, Chained (d.wit o) ((d.chainPend o p coded).wit o) 1 r ∧ (p.gapCode ≠ 0 → r.signed = true) := by
  unfold Dev.chainPend
  dsimp only
  generalize hf : (p.flags ||| _ ||| _ ||| p.gapCode % 16 ||| _) = flags
  generalize he : d.chainRecord o 1 p.wlevel p.frame p.ref flags p.epoch p.sections _ = e
  obtain ⟨r, hc, hsig⟩ : ∃ r, Chained (d.wit o) (e.wit o) 1 r ∧ r.signed = bit flags 15 := he ▸ chainRecord_chained _ _ _ _ _ _ _ _ hs hr
  have hsigned : p.gapCode ≠ 0 → r.signed = true := by
    intro hg
    rw [hsig, ← hf]
    simp only [bit_or, bne_iff_ne.2 hg, Bool.or_true]
    simp [taintIf, bit]
  refine ⟨r, ?_, hsigned⟩
  have hcount : ∀ (k : Nat), (e.witCount o k).wit o = e.wit o := fun _ => rfl
  split
  · split
    · rw [wit_modWit, if_pos rfl, hcount]
      exact hc.gapRun false
    · rw [hcount]
      exact hc
  · rw [Tells.wit (when_tells (fun e => raise_tells e ..) _ _), wit_modWit, if_pos rfl]
    exact hc.gapRun true

/-- With nothing left that waits, the flush does nothing. -/
theorem flushPend_nil {d : Dev} {o : Nat} (fuel : Nat) (h : (d.wit o).pend = []) : Dev.flushPend fuel o d = d := by
  cases fuel <;> simp [Dev.flushPend, h]

/-- A record that waits alone and has a GAPCODE is chained by the flush. -/
theorem flush_gap {d : Dev} {o : Nat} {p : WPend} (h : (d.wit o).pend = [p]) (hg : p.gapCode ≠ 0) :
    d.flush o = Dev.flushPend 1 o ((d.modWit o fun w => { w with pend := [] }).chainPend o p none) := by
  simp [Dev.flush, Dev.flushPend, h, hg]

theorem witGivenUp {d : Dev} {o cause : Nat} {p : WPend} (hc : 1 ≤ cause) (hc' : cause ≤ 4) (hp : (d.wit o).pend = [p]) (hd : p.due = true)
    (hs : (d.wit o).started = true) (hr : (d.wit o).rseq < 0xFFFFFFFF) :
    let e := witNotCodedOp o cause d
    (e.wit o).pend = [] ∧ (e.wit o).rseq = (d.wit o).rseq + 1 ∧ ∃ r, (e.wit o).recs.getLast? = some r ∧ r.type = 1 ∧ r.signed = true ∧ r.sent = false := by
  intro e
  have hm : cause % 16 = cause := Nat.mod_eq_of_lt (by omega)
  have he : e = Dev.flush (d.modWit o fun w => { w with pend := [{ p with gapCode := cause }] }) o := by
    show witNotCodedOp o cause d = _
    rw [witNotCodedOp, hp]
    dsimp only
    rw [hd, hm, if_neg (by simp; omega)]
  have hg : cause ≠ 0 := by omega
  rw [he, flush_gap (p := { p with gapCode := cause }) (by rw [wit_modWit, if_pos rfl]) hg]
  obtain ⟨r, hch, hsig⟩ := chainPend_chained
    (d := (d.modWit o fun w => { w with pend := [{ p with gapCode := cause }] }).modWit o fun w => { w with pend := [] })
    (o := o) { p with gapCode := cause } none (by simpa using hs) (by simpa using hr)
  have hpend : (((((d.modWit o fun w => { w with pend := [{ p with gapCode := cause }] }).modWit o fun w => { w with pend := [] }).chainPend o
      { p with gapCode := cause } none).wit o).pend) = [] := by
    rw [hch.pend, wit_modWit, if_pos rfl]
  rw [flushPend_nil 1 hpend]
  refine ⟨hpend, ?_, r, hch.last, hch.recType, hsig hg, ?_⟩
  · simpa using hch.rseq
  · rw [hch.sent, hsig hg]
    rfl

/-! ### A picture is coded (08 R208 to R210) -/

/-- Coding changes the device's fresh values alone. -/
theorem codeStream_dev (d : Dev) (mon : Bool) (i : Nat) (rows : List CodedRow) : (d.codeStream mon i rows).2.2 = { d with free := d.free + 1 } := rfl

theorem rcStart_started (d : Dev) (mon : Bool) (i : Nat) (r : RcSt) : (d.rcStart mon i r).started = true := by
  unfold Dev.rcStart
  split
  · assumption
  · rfl

/-- After a picture the rate control has started, owes no IDR picture and keeps the picture's size. -/
theorem codeStream_rc (d : Dev) (mon : Bool) (i : Nat) (rows : List CodedRow) :
    (d.codeStream mon i rows).2.1.started = true ∧ (d.codeStream mon i rows).2.1.idrDue = false ∧ (d.codeStream mon i rows).2.1.sizes ≠ [] :=
  ⟨rcStart_started .., rfl, List.cons_ne_nil _ _⟩

theorem streamEvent_tells (d : Dev) (mon : Bool) (i code : Nat) (data : Bytes) : Tells d (d.streamEvent mon i code data) := by
  unfold Dev.streamEvent
  split <;> exact raise_tells ..

theorem witPictureCoded {d : Dev} {o : Nat} {p : WPend} (rows : List CodedRow) (au : Bytes) (hp : (d.wit o).pend = [p]) (hd : p.due = true)
    (hg : p.gapCode = 0) (hs : (d.wit o).started = true) (hr : (d.wit o).rseq < 0xFFFFFFFF) :
    let e := witPictureOp o rows au d
    (e.wit o).pend = [] ∧ (e.wit o).rseq = (d.wit o).rseq + 1 ∧
      ∃ r, (e.wit o).recs.getLast? = some r ∧ r.rseq = (d.wit o).rseq + 1 ∧ r.type = 1 ∧ r.chain = (e.wit o).chain := by
  intro e
  have he : e = witPictureOp o rows au d := rfl
  clear_value e
  rw [witPictureOp, hp] at he
  simp only at he
  rw [hd, hg, if_neg (by simp)] at he
  have hdev := codeStream_dev d false o rows
  generalize (d.codeStream false o rows).2.2 = e0 at he hdev
  generalize (d.codeStream false o rows).2.1 = rc at he
  generalize (d.codeStream false o rows).1 = c at he
  generalize he1 : Dev.when _ _ _ = e1 at he
  have hw : e1.wit o = { d.wit o with pend := [], rc } := by
    rw [← he1, Tells.wit (when_tells (fun e => streamEvent_tells e ..) _ _)]
    change (e0.modWit o fun w => { w with pend := [], rc }).wit o = _
    rw [wit_modWit, if_pos rfl, hdev]
    rfl
  obtain ⟨r, hch, -⟩ := chainPend_chained (d := e1) (o := o) p (some (au, c.coarse)) (by rw [hw]; exact hs) (by rw [hw]; exact hr)
  have ht := Tells.wit (witTx_tells (e1.chainPend o p (some (au, c.coarse))) o true (.picture o false c.used)) o
  have hpend : (((e1.chainPend o p (some (au, c.coarse))).witTx o true (.picture o false c.used)).wit o).pend = [] := by
    rw [ht, hch.pend, hw]
  rw [Dev.flush, flushPend_nil _ hpend] at he
  rw [hw] at hch
  rw [he, ht]
  exact ⟨hch.pend, hch.rseq, r, hch.last, hch.recRseq, hch.recType, hch.chain⟩

theorem monTx_mons (d : Dev) (m : Nat) (x : Out) : (d.monTx m x).mons = d.mons := by
  unfold Dev.monTx
  exact (congrArg Dev.mons (when_tells (fun e => ipTx_tells e ..) d _).eq :)

theorem monPictureCoded {d : Dev} {m : Nat} (rows : List CodedRow) (hen : d.monEn m = true) (hrun : (d.mon m).running = true) :
    let e := monPictureOp m rows d
    (e.mon m).started = true ∧ (e.mon m).idrDue = false ∧ (e.mon m).sizes ≠ [] := by
  intro e
  have he : e = monPictureOp m rows d := rfl
  clear_value e
  simp only [monPictureOp, hen, hrun, Bool.and_self, Bool.not_true, Bool.false_eq_true, if_false] at he
  have hrc := codeStream_rc d true m rows
  generalize (d.codeStream true m rows).2.2 = e0 at he
  generalize (d.codeStream true m rows).2.1 = rc at he hrc
  generalize (d.codeStream true m rows).1 = c at he
  rw [he, Dev.mon, monTx_mons, (congrArg Dev.mons (when_tells (fun e => streamEvent_tells e ..) _ _).eq :)]
  simp only [Dev.setMon, smGet_set_self]
  generalize (if e0.flag .encMonCfg m 62 = true then _ else none) = seq
  by_cases h : seq ≠ rc.lastSeq
  · simp only [if_pos h]
    exact hrc
  · simp only [if_neg h]
    exact hrc

/-! ### The recorder is lost (08 R220), and checkpoints alternate (08 R216) -/

theorem recorderLost_wit {d : Dev} {o : Nat} (hs : (d.wit o).started = true) (hl : (d.wit o).lost = false) (hr : (d.wit o).rseq < 0xFFFFFFFF) :
    let e := d.recorderLost o
    (e.wit o).lost = true ∧ (e.wit o).rseq = (d.wit o).rseq + 1 ∧ ∃ r, (e.wit o).recs.getLast? = some r ∧ r.type = 4 ∧ r.signed = true := by
  intro e
  have hw : (({ (d.modWit o fun w => { w with lost := true }) with free := d.free + 32 } : Dev).wit o) = { d.wit o with lost := true } :=
    smGet_set_self ..
  obtain ⟨r, hch, hsig⟩ := chainRecord_chained (d := { (d.modWit o fun w => { w with lost := true }) with free := d.free + 32 }) (o := o) 4 0 0 d.now 0x8000
    d.epoch [(8, u16 3 ++ zeros 2 ++ (Dev.freshBytes (d.modWit o fun w => { w with lost := true }) 32).1)] []
    (by rw [hw]; exact hs) (by rw [hw]; exact hr)
  rw [hw] at hch
  have he : e.wit o = (Dev.eventRecord (d.modWit o fun w => { w with lost := true }) o 3).wit o := by
    show (d.recorderLost o).wit o = _
    rw [Dev.recorderLost, hl, if_neg (by decide)]
    exact Tells.wit (raise_tells ..) o
  rw [he]
  exact ⟨hch.lost, hch.rseq, r, hch.last, hch.recType, by rw [hsig]; rfl⟩

/-- Settles O20: by the record that each happening chains. -/
theorem witnessCommandsComplete : Obligations.WitnessCommandsComplete := by
  unfold Obligations.WitnessCommandsComplete
  refine ⟨fun s o c ho hc => ?_, fun s o r ho hr hsig hsent => ?_, fun s o rows au p hwf hp hd hg hs hr => gives_of rfl hwf (witPictureCoded rows au hp hd hg hs hr),
    fun s o cause p hwf hc hc' hp hd hs hr => gives_of rfl hwf (witGivenUp hc hc' hp hd hs hr),
    fun s m rows hwf hen hrun => gives_of rfl hwf (monPictureCoded rows hen hrun), fun s o ho hs hl hr => ?_, fun h o => ?_⟩
  · refine gives_of (f := ckptWriteOp o) rfl (decide_eq_true ho) ?_
    have hw : (ckptWriteOp o s.dev).wit o = if (s.dev.wit o).writeB then { s.dev.wit o with slotB := some c, writeB := false, ckptPending := none }
        else { s.dev.wit o with slotA := some c, writeB := true, ckptPending := none } := by
      rw [ckptWriteOp, wit_modWit, if_pos rfl, hc]
    rw [hw]
    cases (s.dev.wit o).writeB <;> simp
  · refine gives_of (f := recSignedOp o r.rseq) rfl (decide_eq_true ho) ?_
    rw [recSignedOp, hr]
    simp only [List.find?_cons, beq_self_eq_true, hsig, hsent, Bool.and_self, Bool.not_false]
    rw [Tells.wit (witTx_tells ..), wit_modWit, if_pos rfl]
    simp [hr]
  · refine gives_of (f := ackTimeoutOp o) rfl (decide_eq_true ho) ?_
    rw [ackTimeoutOp, if_pos hs]
    exact recorderLost_wit hs hl hr
  · refine runs_of _ h (.witnessQuery o) _ _ _ (fun _ => rfl) nofun fun c d ⟨hc, ho⟩ => ?_
    show witnessQueryOp c o d = _
    simp only [witnessQueryOp]
    rw [checked_pass (by simp [hc, ho])]

end Sys2Proof.Goals
end

section
/-!
PROOF. The Bushel scheduler (09 R226 to R241): what a frame start sets, what an activity is charged to, and what the thermal sensors leave.
-/

namespace Sys2Proof.Goals

open Sys2Proof Sys2Proof.Machine

/-! ### The accounting frame (09 R226, R238, R240) -/

/-- Matching LEVEL changes of the scheduler the suspended sources alone. -/
def SuspendsAlone (d e : Dev) : Prop := ∃ l, e.bsh = { d.bsh with suspended := l }

theorem SuspendsAlone.trans {a b c : Dev} (h : SuspendsAlone a b) (h' : SuspendsAlone b c) : SuspendsAlone a c := by
  obtain ⟨l, hl⟩ := h
  obtain ⟨l', hl'⟩ := h'
  exact ⟨l', by rw [hl', hl]⟩

theorem suspendSrc_alone (d : Dev) (n : Nat) : SuspendsAlone d (d.suspendSrc n) :=
  ⟨n :: d.bsh.suspended, by rw [Dev.suspendSrc, raise_bsh]; rfl⟩

theorem taintReset_bsh (d : Dev) (n : Nat) : (d.taintReset n).bsh = d.bsh := by
  unfold Dev.taintReset
  split <;> rfl

theorem resumeSrc_alone (d : Dev) (n : Nat) : SuspendsAlone d (d.resumeSrc n) :=
  ⟨d.bsh.suspended.filter (· != n), by rw [Dev.resumeSrc, raise_bsh, taintReset_bsh]; rfl⟩

theorem matchLevel_alone (fuel : Nat) (l : List (Nat × Nat)) (d : Dev) : SuspendsAlone d (Dev.matchLevel fuel l d) := by
  induction fuel generalizing d with
  | zero => exact ⟨_, rfl⟩
  | succ fuel ih =>
    unfold Dev.matchLevel
    dsimp only
    split
    · split
      · exact (suspendSrc_alone ..).trans (ih _)
      · exact ⟨_, rfl⟩
    · split
      · split
        · exact (resumeSrc_alone ..).trans (ih _)
        · exact ⟨_, rfl⟩
      · exact ⟨_, rfl⟩

/-- A change of the limit tells the partners of it, and no more. -/
theorem withLimit_tells (d : Dev) (f : Bushel → Bushel) : Tells { d with bsh := f d.bsh } (d.withLimit f) := by
  unfold Dev.withLimit
  dsimp only
  split
  · exact .refl _
  · exact raise_tells ..

theorem Tells.bsh {d e : Dev} (h : Tells d e) : e.bsh = d.bsh := by rw [Tells.eq h]

theorem Tells.routesOf {d e : Dev} (h : Tells d e) (n : Nat) : e.routesOf n = d.routesOf n := by rw [Dev.routesOf, Dev.routesOf, Tells.eq h]

/-- The scheduler with BSH.CFG as written in force (09 R227, R231). -/
def atFrame (d : Dev) : Bushel := { d.bsh with cfg := d.get .bshCfg, bTherm := clampTherm (bits (d.get .bshCfg) 63 48) d.bsh.bTherm }

/-- What a frame start sets in a scheduler that ran no frame, with no source suspended. -/
theorem accountingOp_bsh {d : Dev} (f : Forecast) (hrun : d.bsh.running = false) (hsus : d.bsh.suspended = []) :
    let x := atFrame d
    let b := budget (min x.host x.bTherm) f.frameNs
    let allow := b - ((f.base : Nat) : Rat) / 1000 - max (b / 20) (((f.c : Nat) : Rat) / 1000) - x.debt
    let next := nextLevel f (12 + (f.sources.filter fun s => (d.routesOf s.1).isEmpty).length) x.level x.fits allow
    SuspendsAlone { d with bsh := { x with running := true, bThermFrame := x.bTherm, bFrame := b, allow, level := next.1, fits := next.2,
                                           base := 0, c := 0, l := 0, a := 0 } } (accountingOp f d) := by
  intro x b allow next
  unfold accountingOp
  have hend : d.endAccount f.endedNs = d := by rw [Dev.endAccount, hrun]; rfl
  rw [hend]
  dsimp only
  generalize he : d.withLimit _ = e
  have ht : Tells { d with bsh := x } e := he ▸ withLimit_tells d fun b => { b with cfg := d.get .bshCfg, bTherm := clampTherm (bits (d.get .bshCfg) 63 48) b.bTherm }
  have hb : e.bsh = x := Tells.bsh ht
  have hres : e.resumeForwarding = e := by
    rw [Dev.resumeForwarding, hb]
    show e.each d.bsh.suspended _ = e
    rw [hsus]
    rfl
  rw [hres]
  simp only [hb, Tells.routesOf ht]
  refine SuspendsAlone.trans ?_ (matchLevel_alone ..)
  split
  · exact ⟨d.bsh.suspended, rfl⟩
  · exact ⟨d.bsh.suspended, by rw [Dev.bshEvent, raise_bsh]; rfl⟩

/-! ### Energy (09 R228, R229) -/

/-- One activity is charged to base energy or to the class of its job. -/
def charged (d : Dev) (a : Activity) : Dev :=
  let e := d.energyOf a
  let b := d.bsh
  { d with bsh := match a.cls with
    | 1 => { b with c := b.c + e }
    | 2 => { b with l := b.l + e }
    | 3 => { b with a := b.a + e }
    | _ => { b with base := b.base + e } }

/-- The energy of the frame in progress. -/
def spent (d : Dev) : Rat := d.bsh.base + d.bsh.c + d.bsh.l + d.bsh.a

theorem spent_charged (d : Dev) (a : Activity) : spent (charged d a) = spent d + d.energyOf a := by
  unfold spent charged
  dsimp only
  split
  · ring
  · ring
  · ring
  · ring

/-- Activities charged in turn: the account grows by the sum of their energies, and the rest of the device stays. -/
theorem charges (acts : List Activity) (d : Dev) :
    spent (d.each acts charged) = spent d + (acts.map fun a => d.energyOf a).sum ∧
      d.each acts charged = { d with bsh := (d.each acts charged).bsh } := by
  induction acts generalizing d with
  | nil => exact ⟨(add_zero _).symm, rfl⟩
  | cons a acts ih =>
    have hcons : d.each (a :: acts) charged = (charged d a).each acts charged := rfl
    obtain ⟨hsum, hrest⟩ := ih (charged d a)
    rw [hcons]
    refine ⟨?_, hrest.trans rfl⟩
    rw [hsum, spent_charged, List.map_cons, List.sum_cons, add_assoc]
    rfl

/-! ### The sensors (09 R230, R232) -/

/-- What every change of a row leaves, all of them leave. -/
theorem each_keeps {α β : Type} (g : Dev → β) {f : Dev → α → Dev} (hf : ∀ d a, g (f d a) = g d) (l : List α) (d : Dev) : g (d.each l f) = g d := by
  unfold Dev.each
  induction l generalizing d with
  | nil => rfl
  | cons a l ih => exact (ih _).trans (hf d a)

/-- Parameters other than SES.PORT_CFG start nothing, in a small slot. -/
theorem put_undisturbed_small {S : Nat → Prop} (d : Dev) {q : Par} {t : Nat} (v : Nat) (hq : Par.sesPortCfg.ctorIdx ≠ q.ctorIdx) (ht : t < 2 ^ 24) :
    Undisturbed S d (d.put q t v) :=
  ⟨rfl, rfl, rfl, rfl, fun _ hp => smGet_set_ne _ _ _ _ (key_ne hq (by omega) ht), fun _ _ => rfl⟩

/-- Changes of the rows of a list start nothing where none does. -/
theorem each_undisturbed_mem {S : Nat → Prop} {α : Type} {f : Dev → α → Dev} {l : List α} (hf : ∀ d, ∀ a ∈ l, Undisturbed S d (f d a)) (d : Dev) :
    Undisturbed S d (d.each l f) := by
  unfold Dev.each
  induction l generalizing d with
  | nil => exact .refl d
  | cons a l ih =>
    exact (hf d a List.mem_cons_self).trans (ih (fun d b hb => hf d b (List.mem_cons_of_mem a hb)) _)

theorem bsh_calm (d : Dev) (b : Bushel) : Calm d { d with bsh := b } := .of_eqs rfl rfl rfl rfl rfl rfl

theorem bshEvent_bsh (d : Dev) (k object : Nat) (data : Bytes) (on : Bool) : (d.bshEvent k object data on).bsh = d.bsh := raise_bsh ..

theorem bshEvent_rst (d : Dev) (k object : Nat) (data : Bytes) (on : Bool) : (d.bshEvent k object data on).rst = d.rst := raise_rst ..

theorem bshEvent_calm (d : Dev) (k object : Nat) (data : Bytes) (on : Bool) : Calm d (d.bshEvent k object data on) := raise_undisturbed ..

/-- The greatest element stands in the list, and none has a greater key. -/
theorem argMax_spec {α : Type} (key : α → Nat) {l : List α} (hl : l ≠ []) : ∃ b ∈ l, argMax key l = some b ∧ ∀ a ∈ l, key a ≤ key b := by
  induction l with
  | nil => exact absurd rfl hl
  | cons x xs ih =>
    rw [argMax]
    by_cases hxs : xs = []
    · subst hxs
      exact ⟨x, List.mem_singleton_self x, rfl, by simp⟩
    · obtain ⟨b, hb, he, hmax⟩ := ih hxs
      rw [he]
      by_cases hx : key b ≤ key x
      · exact ⟨x, List.mem_cons_self, if_pos hx, fun a ha => (List.mem_cons.1 ha).elim (fun h => h ▸ Nat.le_refl _) fun h => (hmax a h).trans hx⟩
      · exact ⟨b, List.mem_cons_of_mem x hb, if_neg hx, fun a ha => (List.mem_cons.1 ha).elim (fun h => h ▸ (Nat.lt_of_not_le hx).le) (hmax a)⟩

/-- The readings of twelve sensors that all answer. -/
def allRead (v : Nat → Int) : Temps := (List.range 12).map fun k => some (v k)

theorem allRead_getD {v : Nat → Int} {k : Nat} (h : k < 12) : (allRead v).getD k none = some (v k) := by
  simp [allRead, h]

theorem allRead_good (v : Nat → Int) :
    (List.range 12).filterMap (fun k => ((allRead v).getD k none).map fun x => (k, x)) = (List.range 12).map fun k => (k, v k) := by
  rw [← List.filterMap_eq_map]
  exact List.filterMap_congr fun k hk => by rw [allRead_getD (List.mem_range.1 hk)]; rfl

theorem allRead_bad (v : Nat → Int) : (List.range 12).filter (fun k => ((allRead v).getD k none).isNone) = [] :=
  List.filter_eq_nil_iff.2 fun k hk => by rw [allRead_getD (List.mem_range.1 hk)]; exact Bool.false_ne_true

/-- The hottest of twelve readings within a 16-bit value. -/
theorem allRead_top {v : Nat → Int} (hv : ∀ k < 12, -2 ^ 15 ≤ v k) :
    ∃ k < 12, argMax (fun (e : Nat × Int) => (e.2 + 2 ^ 20).toNat) ((List.range 12).map fun k => (k, v k)) = some (k, v k) ∧ ∀ j < 12, v j ≤ v k := by
  obtain ⟨b, hb, he, hmax⟩ := argMax_spec (fun (e : Nat × Int) => (e.2 + 2 ^ 20).toNat) (l := (List.range 12).map fun k => (k, v k)) (by simp)
  obtain ⟨k, hk, rfl⟩ := List.mem_map.1 hb
  refine ⟨k, List.mem_range.1 hk, he, fun j hj => ?_⟩
  have h := hmax (j, v j) (List.mem_map.2 ⟨j, List.mem_range.2 hj, rfl⟩)
  have := hv j hj
  have := hv k (List.mem_range.1 hk)
  dsimp only at h
  omega

/-- The readings are put down. -/
def readings (v : Nat → Int) (d : Dev) : Dev := d.each ((List.range 12).map fun k => (k, v k)) fun d e => d.put .bshTemp e.1 (ofSigned 16 e.2)

theorem readings_rest (v : Nat → Int) (d : Dev) : (readings v d).bsh = d.bsh ∧ (readings v d).rst = d.rst ∧ Calm d (readings v d) := by
  refine ⟨each_keeps Dev.bsh (fun d _ => put_bsh d ..) _ _, each_keeps Dev.rst (fun d _ => put_rst d ..) _ _, ?_⟩
  refine each_undisturbed_mem (fun d e he => ?_) d
  obtain ⟨k, hk, rfl⟩ := List.mem_map.1 he
  have := List.mem_range.1 hk
  exact put_undisturbed_small d _ (by decide) (by dsimp only; omega)

/-- The readings are put down, and sensors that answer again are told of. -/
def sampled (v : Nat → Int) (d : Dev) : Dev :=
  Dev.each { readings v d with bsh := { (readings v d).bsh with excluded := [] } }
    ((List.range 12).filter fun k => ([] : List Nat).contains k != (readings v d).bsh.excluded.contains k)
    fun d k => d.bshEvent 6 k [] (([] : List Nat).contains k)

theorem sampled_rest (v : Nat → Int) (d : Dev) : (sampled v d).bsh = { d.bsh with excluded := [] } ∧ (sampled v d).rst = d.rst ∧ Calm d (sampled v d) := by
  obtain ⟨hbsh, hrst, hcalm⟩ := readings_rest v d
  unfold sampled
  generalize readings v d = d1 at *
  refine ⟨?_, ?_, hcalm.trans ((bsh_calm ..).trans (each_undisturbed (fun d k => bshEvent_calm d ..) _ _))⟩
  · rw [each_keeps Dev.bsh (fun d k => bshEvent_bsh d ..), hbsh]
  · rw [each_keeps Dev.rst (fun d k => bshEvent_rst d ..), hrst]

/-- THERMAL_HIGH is told when a bound is passed. -/
def toldHigh (tMax : Int) (at_ : Nat) (d : Dev) : Dev :=
  if !d.bsh.highRaised && decide (((16 * d.bsh.high : Nat) : Int) ≤ tMax) then
    Dev.bshEvent { d with bsh := { d.bsh with highRaised := true } } 5 at_ (u16 (ofSigned 16 tMax)) true
  else if d.bsh.highRaised && decide (tMax < ((16 * d.bsh.high : Nat) : Int) - 48) then
    Dev.bshEvent { d with bsh := { d.bsh with highRaised := false } } 5 at_ (u16 (ofSigned 16 tMax)) false
  else d

theorem toldHigh_rest (tMax : Int) (at_ : Nat) (d : Dev) :
    (∃ b, (toldHigh tMax at_ d).bsh = { d.bsh with highRaised := b }) ∧ (toldHigh tMax at_ d).rst = d.rst ∧ Calm d (toldHigh tMax at_ d) := by
  unfold toldHigh
  split
  · exact ⟨⟨true, raise_bsh ..⟩, raise_rst .., (bsh_calm ..).trans (bshEvent_calm ..)⟩
  · split
    · exact ⟨⟨false, raise_bsh ..⟩, raise_rst .., (bsh_calm ..).trans (bshEvent_calm ..)⟩
    · exact ⟨⟨d.bsh.highRaised, rfl⟩, rfl, .refl d⟩

/-- With every reading below the trip, the hottest stands and nothing else. -/
theorem thermalOp_below {v : Nat → Int} {k : Nat} (d : Dev) (hk : argMax (fun (e : Nat × Int) => (e.2 + 2 ^ 20).toNat) ((List.range 12).map fun k => (k, v k)) = some (k, v k))
    (hv : v k < 115 * 16) :
    thermalOp (allRead v) d = toldHigh (v k) k { sampled v d with bsh := { (sampled v d).bsh with tMax := v k, tMaxSensor := k, tripRun := 0 } } := by
  have hsampled : ∀ e, e = sampled v d → toldHigh (v k) k { e with bsh := { e.bsh with tMax := v k, tMaxSensor := k, tripRun := 0 } } =
      toldHigh (v k) k { sampled v d with bsh := { (sampled v d).bsh with tMax := v k, tMaxSensor := k, tripRun := 0 } } := fun e he => by rw [he]
  generalize toldHigh (v k) k { sampled v d with bsh := _ } = R at hsampled ⊢
  unfold thermalOp
  extract_lets idx good bad d1 was src d2 d3 top b high
  have hgood : good = (List.range 12).map fun k => (k, v k) := allRead_good v
  have hbad : bad = [] := allRead_bad v
  clear_value good bad
  subst hgood hbad
  have h3 := hsampled d3 rfl
  clear_value d3
  have htop : top = some (k, v k) := hk
  clear_value top
  subst htop
  have htrip : ¬(115 * 16 : Int) ≤ v k := by omega
  simp only [List.isEmpty_nil, if_true, add_zero, Option.isSome_some, Bool.true_and, decide_eq_false htrip, Bool.false_eq_true, if_false]
  rw [if_neg (by simp), ← h3]
  rfl

theorem thermalSample_gives {s : State} {v : Nat → Int} (hq : Quiet s.dev) (hv : ∀ k < 12, -2 ^ 15 ≤ v k ∧ v k < 115 * 16)
    (hwf : Instr.wellFormed (.thermalSample (allRead v)) = true) :
    Gives (.thermalSample (allRead v)) s fun d =>
      (∀ k < 12, v k ≤ d.bsh.tMax) ∧ (∃ k < 12, v k = d.bsh.tMax ∧ d.bsh.tMaxSensor = k) ∧ d.bsh.excluded = [] ∧ d.bsh.tripRun = 0 ∧ d.rst = s.dev.rst := by
  obtain ⟨k, hk, htop, hmax⟩ := allRead_top fun k hk => (hv k hk).1
  obtain ⟨hbsh, hrst, hcalm⟩ := sampled_rest v s.dev
  have heq := thermalOp_below s.dev htop (hv k hk).2
  obtain ⟨⟨b, hb⟩, hr, hc⟩ := toldHigh_rest (v k) k { sampled v s.dev with bsh := { (sampled v s.dev).bsh with tMax := v k, tMaxSensor := k, tripRun := 0 } }
  rw [← heq] at hb hr hc
  refine ⟨thermalOp (allRead v) s.dev, onDev_settled hwf hq (hcalm.trans ((bsh_calm ..).trans hc)), ?_⟩
  beta_reduce
  rw [hb, hr]
  exact ⟨hmax, ⟨k, hk, rfl, rfl⟩, by rw [hbsh], rfl, hrst⟩

/-! ### The statement -/

/-- Settles O23: by what each row sets in the scheduler. -/
theorem schedulerCommandsComplete : Obligations.SchedulerCommandsComplete := by
  unfold Obligations.SchedulerCommandsComplete
  refine ⟨fun s f hwf hrun hsus => ?_, fun s acts hwf => ?_, fun s src cost cls hwf => ?_, fun s unit sub hwf => to_of (f := fun d => (d.reportFault unit sub 3).settled) rfl hwf rfl,
    fun s i hwf hnight => ?_, fun s p hwf => onDev_pos hwf, fun s v hq hv hwf => thermalSample_gives hq hv hwf, fun s => ?_⟩
  · refine gives_of (f := accountingOp f) rfl hwf ?_
    obtain ⟨l, hl⟩ := accountingOp_bsh f hrun hsus
    rw [hl]
    exact ⟨rfl, rfl, rfl, rfl, rfl, rfl, rfl, rfl, rfl⟩
  · exact gives_of (f := energyTickOp acts) rfl hwf (charges acts s.dev)
  · have hto : ∀ d, latestStartOp src cost cls s.dev = d → To (.jobLatestStart src cost cls) s d := fun d => to_of rfl hwf
    refine ⟨fun hc => hto _ ?_, fun hc h => hto _ ?_, fun hc h h' => hto _ ?_, fun hc h => hto _ ?_, fun hc h => hto _ ?_⟩ <;> subst hc
    · rfl
    · simp [latestStartOp, h]
    · simp [latestStartOp, Rat.not_lt.2 h, Rat.not_lt.2 h', Dev.bshCount]
    · simp [latestStartOp, h]
    · simp [latestStartOp, Rat.not_le.2 h, Dev.bshCount]
  · refine gives_of (f := islandWakeOp i) rfl hwf ?_
    rw [islandWakeOp, hnight, if_neg (by decide)]
    by_cases hi : i ∈ s.dev.bsh.islandsOn
    · simp [hi, Dev.bshCount, Dev.send]
    · simp +contextual [hi, Dev.bshCount, Dev.send]
  · refine gives_of (f := bthermOp) rfl rfl ?_
    rw [bthermOp, Tells.bsh (withLimit_tells ..)]
    simp only [Nat.cast_mul, Nat.cast_ofNat]

end Sys2Proof.Goals
end

section
/-!
PROOF. The device states (09 R243 to R252) and the core voltage (18 R486): POWER_STATE, the phases of NIGHT and of the way back.
-/

namespace Sys2Proof.Goals

open Sys2Proof Sys2Proof.Machine

/-! ### The last phase of the way into NIGHT (09 Table 9.9) -/

theorem linkEvent_bsh (d : Dev) (p speed reason : Nat) (on : Bool) : (d.linkEvent p speed reason on).bsh = d.bsh := raise_bsh ..

theorem linkEvent_calm (d : Dev) (p speed reason : Nat) (on : Bool) : Calm d (d.linkEvent p speed reason on) := raise_undisturbed ..

theorem modEth_calm (d : Dev) (p : Nat) (f : EthPort → EthPort) : Calm d (d.modEth p f) := .of_eqs rfl rfl rfl rfl rfl rfl

theorem tim_calm (d : Dev) (t : TimeU) : Calm d { d with tim := t } := .of_eqs rfl rfl rfl rfl rfl rfl

theorem sup_calm (d : Dev) (x : Sup) : Calm d { d with sup := x } := .of_eqs rfl rfl rfl rfl rfl rfl

theorem ethLinkDown_bsh (p : Nat) (d : Dev) : (ethLinkDownOp p d).bsh = d.bsh := by
  unfold ethLinkDownOp
  split
  · rfl
  · dsimp only
    rw [linkEvent_bsh]
    unfold Dev.when
    split <;> rfl

theorem ethLinkDown_calm {p : Nat} (hp : p < 8) (d : Dev) : Calm d (ethLinkDownOp p d) := by
  unfold ethLinkDownOp
  split
  · exact .refl d
  · refine .trans ?_ (linkEvent_calm ..)
    refine .trans ?_ (when_undisturbed _ fun _ => tim_calm ..)
    exact (modEth_calm d p _).trans (ethStat_undisturbed _ hp (by decide))

theorem setVcore_rest (d : Dev) (mv : Nat) (raising : Bool) : (d.setVcore mv raising).bsh = d.bsh ∧ Calm d (d.setVcore mv raising) := by
  unfold Dev.setVcore
  split
  · exact ⟨rfl, .of_eqs rfl rfl rfl rfl rfl rfl⟩
  · exact ⟨rfl, .refl d⟩

/-- A change of state that no command asked for is told, and no more. -/
theorem powerDone_quietly {d : Dev} (st : PowSt) (failed : Nat) (h : d.bsh.cmd = none) :
    (d.powerDone st failed).bsh = { d.bsh with st, phase := 4 } ∧ Calm d (d.powerDone st failed) := by
  unfold Dev.powerDone
  dsimp only
  rw [bshEvent_bsh]
  dsimp only
  rw [h]
  exact ⟨bshEvent_bsh .., (bsh_calm ..).trans (bshEvent_calm ..)⟩

/-- The phase of a transition that no command asked for. -/
theorem powerPhase_quietly {d : Dev} (ph : Nat) (h : d.bsh.cmd = none) : d.powerPhase ph = { d with bsh := { d.bsh with phase := ph } } := by
  unfold Dev.powerPhase
  dsimp only
  rw [h]

theorem nightPhase4_quietly {d : Dev} (h : d.bsh.cmd = none) :
    d.nightPhase4.bsh = { d.bsh with st := .night, phase := 4 } ∧ Calm d d.nightPhase4 := by
  unfold Dev.nightPhase4
  dsimp only
  generalize hf : (fun (d : Dev) (p : Nat) => if d.flag .bshNightCfg 0 (24 + p) then d else ethLinkDownOp p d) = f
  have hbsh : (d.each (List.range 8) f).bsh = d.bsh := by
    refine each_keeps Dev.bsh (fun e p => ?_) _ _
    rw [← hf]
    dsimp only
    split
    · rfl
    · exact ethLinkDown_bsh p e
  have hcalm : Calm d (d.each (List.range 8) f) := by
    refine each_undisturbed_mem (fun e p hp => ?_) d
    rw [← hf]
    dsimp only
    split
    · exact .refl e
    · exact ethLinkDown_calm (List.mem_range.1 hp) e
  generalize d.each (List.range 8) f = e at hbsh hcalm ⊢
  obtain ⟨hv, hvc⟩ := setVcore_rest e 600 false
  generalize e.setVcore 600 false = x at hv hvc ⊢
  have hx : (x.bshCount 8).bsh = d.bsh := hv.trans hbsh
  obtain ⟨hp, hpc⟩ := powerDone_quietly (d := x.bshCount 8) .night 0 (by rw [hx, h])
  exact ⟨by rw [hp, hx], (hcalm.trans hvc).trans (.trans (count_undisturbed x 1 (by decide) (by decide)) hpc)⟩

/-- With no wake source and no command waiting, nothing follows a transition. -/
theorem afterTransition_idle {d : Dev} (hw : d.bsh.wakeQueued = false) (hq : d.bsh.queued = []) : d.afterTransition = d := by
  simp [Dev.afterTransition, hw, hq]

/-! ### The statement -/

/-- Settles O24: by the branch that each row takes. -/
theorem powerCommandsComplete : Obligations.PowerCommandsComplete := by
  unfold Obligations.PowerCommandsComplete
  refine ⟨fun h target => ?_, fun h => ?_, fun s hq hst hcmd hph => ?_, fun s hq hst hcmd hph hw hqu => ?_, fun s failed hq hst hcmd hph ht => ?_,
    fun s hq hst hw => ?_, fun s t mv hq ht hlo hhi => ?_⟩
  · refine runs_of _ h (.powerState target) _ _ _ (fun _ => rfl) nofun fun c d ⟨hm, ht, hten, hsec, hact, hst⟩ => ?_
    show powerStateOp c target d = _
    simp only [powerStateOp]
    have hany : (target == 2 && tenNumbers.any d.tenExists) = false := by
      rw [Bool.and_eq_false_iff, beq_eq_false_iff_ne]
      refine or_iff_not_imp_left.2 fun h2 => List.any_eq_false.2 fun n hn => ?_
      rw [hten (by simpa using h2) n hn]
      exact Bool.false_ne_true
    rw [checked_pass (by simp [hm, hsec, hact, hany]; omega)]
    rcases ht with rfl | rfl <;> simp [hst]
  · refine runs_of _ h (.powerState 0) _ _ _ (fun _ => rfl) nofun fun c d ⟨hm, hsec, hst⟩ => ?_
    show powerStateOp c 0 d = _
    simp only [powerStateOp]
    rw [checked_pass (by simp [hm, hsec])]
    rcases hst with hst | hst <;> simp [hst]
  · have he : nightEntryOp s.dev = { s.dev with bsh := { s.dev.bsh with islandsOn := [], pllStopped := [0, 1], phase := 3 } } := by
      have hent : (decide (s.dev.bsh.st = .enterNight) || decide (s.dev.bsh.st = .enterStandby)) = true := by simpa using hst
      simp only [nightEntryOp, hent, hph]
      exact powerPhase_quietly (d := { s.dev with bsh := { s.dev.bsh with islandsOn := [], pllStopped := [0, 1] } }) 3 hcmd
    rw [To, ← he]
    exact onDev_settled rfl hq (he ▸ bsh_calm ..)
  · obtain ⟨hb, hc⟩ := nightPhase4_quietly hcmd
    have he : nightEntryOp s.dev = s.dev.nightPhase4 := by
      simp only [nightEntryOp, hst, hph]
      exact afterTransition_idle (by rw [hb]; exact hw) (by rw [hb]; exact hqu)
    refine ⟨nightEntryOp s.dev, onDev_settled rfl hq (he ▸ hc), ?_⟩
    beta_reduce
    rw [he, hb]
    exact ⟨rfl, rfl⟩
  · have he : nightExitOp failed s.dev = { s.dev with bsh := { s.dev.bsh with pllStopped := [], phase := 2 } } := by
      have hwaking : (s.dev.bsh.st != .waking) = false := by rw [hst]; rfl
      simp only [nightExitOp, hwaking, hph, ht, Option.isSome_none, Bool.and_false, Bool.false_eq_true, if_false, if_true]
      exact powerPhase_quietly (d := { s.dev with bsh := { s.dev.bsh with pllStopped := [] } }) 2 hcmd
    rw [To, ← he]
    exact onDev_settled rfl hq (he ▸ bsh_calm ..)
  · have he : wakeTimerOp s.dev = s.dev.startWake none := by
      simp [wakeTimerOp, hw, hst, Dev.wake]
    rw [To, ← he]
    exact onDev_settled rfl hq (he ▸ (bsh_calm ..).trans (setVcore_rest ..).2)
  · have he : vcoreSettleOp mv true s.dev = { s.dev with sup := { s.dev.sup with vcore := t, target := none, raising := false } } := by
      simp [vcoreSettleOp, ht, hlo, hhi]
    rw [To, ← he]
    exact onDev_settled rfl hq (he ▸ sup_calm ..)

end Sys2Proof.Goals
end

section
/-!
PROOF. The tenancy commands and the ends of their waits (11 R294 to R306).
-/

namespace Sys2Proof.Goals

open Sys2Proof Sys2Proof.Machine

/-! ### Grants -/

/-- A field of one byte of a grant block is that byte. -/
theorem gf_one (g : Bytes) (k : Nat) : gf g k 1 = gb g k := by
  unfold gf gb
  cases h : g.drop k with
  | nil =>
    have hlen : g.length ≤ k := List.drop_eq_nil_iff.1 h
    rw [List.getD_eq_default g 0 hlen]
    rfl
  | cons b l =>
    have hb : g[k]? = some b := by
      have := congrArg List.head? h
      simpa using this
    simp [List.getD, hb, leVal]

theorem maskBits_zero (n : Nat) : maskBits n 0 = [] :=
  List.filter_eq_nil_iff.2 fun k _ => by simp [bit]

theorem each_nil {α : Type} (d : Dev) (f : Dev → α → Dev) : d.each [] f = d := rfl

theorem when_bit_zero (d : Dev) (f : Dev → Dev) : d.when (bit 0 0) f = d := rfl

/-- A grant that gives up nothing withdraws nothing. -/
theorem gone_none {g old : Bytes} {k len : Nat} (h : gf g k len = gf old k len) : gf old k len - (gf old k len &&& gf g k len) = 0 := by
  rw [h, Nat.and_self, Nat.sub_self]

theorem tenGate_pass {c : Ctx} {n : Nat} (hm : c.ses.mediator = true) (h1 : 1 ≤ n) (h8 : n ≤ 8) : ∀ x ∈ tenGate c n, x.1 = false := by
  simp [tenGate, hm]
  omega

theorem run_nil {t : Ten} (h : t.runs = []) (j : TenJob) : t.run j = none := by
  rw [Ten.run, h]
  rfl

/-! ### The opcodes -/

theorem tenCreate_pass {c : Ctx} {n cls : Nat} {grant : Bytes} {d : Dev} (hm : c.ses.mediator = true) (h1 : 1 ≤ n) (h8 : n ≤ 8)
    (hfree : d.tenTaken n = false) (hcls : cls ≤ 2) (hlen : grant.length = 208)
    (hone : cls = 0 → ∀ m ∈ tenNumbers, d.tenTaken m = true → (d.ten m).cls ≠ 0) (hg : ∀ x ∈ d.grantChecks n cls (grant.take 176), x.1 = false) :
    tenCreateOp c n cls grant d = (some (rAccepted 1), d.setTen n
      { cls, grant := grant.take 176, closed := true, runs := [{ job := .create, cmds := [c.cmd], given := grant.drop 176 }] }) := by
  have hzero : (cls == 0 && tenNumbers.any fun m => d.tenTaken m && (d.ten m).cls == 0) = false := by
    rw [Bool.and_eq_false_iff, beq_eq_false_iff_ne]
    refine or_iff_not_imp_left.2 fun h0 => List.any_eq_false.2 fun k hk => ?_
    have := hone (by simpa using h0) k hk
    simpa using this
  unfold tenCreateOp
  dsimp only
  rw [checked_pass]
  refine List.forall_mem_append.2 ⟨List.forall_mem_append.2 ⟨tenGate_pass hm h1 h8, ?_⟩, hg⟩
  simp only [List.forall_mem_cons, List.not_mem_nil, IsEmpty.forall_iff, implies_true, and_true]
  exact ⟨hfree, by simp [hlen]; omega, hzero⟩

theorem tenConfigure_pass {c : Ctx} {n : Nat} {g : Bytes} {d : Dev} (hm : c.ses.mediator = true) (h1 : 1 ≤ n) (h8 : n ≤ 8)
    (hst : (d.ten n).st = .active ∨ (d.ten n).st = .frozen) (hsame : ∀ x ∈ [(0, 1), (2, 1), (8, 8), (16, 4), (20, 4), (3, 1), (25, 1), (26, 1), (27, 1), (28, 4)],
      gf g x.1 x.2 = gf (d.ten n).grant x.1 x.2)
    (hg : ∀ x ∈ d.grantChecks n (d.ten n).cls g, x.1 = false) (huse : d.grantInUse n g = false) :
    tenConfigureOp c n g d = (some { st := stOk, ph := 3 },
      ((d.withdrawTouches n (d.keepsTouch (d.ten n).grant g)).modTen n fun t => { t with grant := g }).tenEvent n 1 (u32 c.seq)) := by
  simp only [List.forall_mem_cons, List.not_mem_nil, IsEmpty.forall_iff, implies_true, and_true] at hsame
  obtain ⟨s0, s2, s8, s16, s20, s3, s25, s26, s27, s28⟩ := hsame
  unfold tenConfigureOp
  dsimp only
  rw [checked_pass]
  · have hown : gb (d.ten n).grant 25 ^^^ gb g 25 = 0 := by rw [← gf_one, ← gf_one, s25, Nat.xor_self]
    have hcart : gb (d.ten n).grant 26 ^^^ gb g 26 = 0 := by rw [← gf_one, ← gf_one, s26, Nat.xor_self]
    rw [if_pos (.inl (by rw [hown, hcart]; rfl)), gone_none s27, gone_none s28, gone_none s3, maskBits_zero, maskBits_zero, each_nil, each_nil,
      when_bit_zero]
  · have hstate : ((d.ten n).st != .active && (d.ten n).st != .frozen) = false := by rcases hst with h | h <;> rw [h] <;> rfl
    refine List.forall_mem_append.2 ⟨List.forall_mem_append.2 ⟨List.forall_mem_append.2 ⟨List.forall_mem_append.2 ⟨List.forall_mem_append.2
      ⟨tenGate_pass hm h1 h8, ?_⟩, fun x hx => hg x (List.mem_of_mem_take hx)⟩, ?_⟩, fun x hx => hg x (List.mem_of_mem_drop hx)⟩, ?_⟩
    · simpa using hstate
    · simp [s0, s2, s8, s16, s20]
    · simpa using huse

theorem tenTear_pass {c : Ctx} {n mode : Nat} {remove : Bool} {d : Dev} (hm : c.ses.mediator = true) (h1 : 1 ≤ n) (h8 : n ≤ 8) (hmode : mode ≤ 1)
    (hst : (d.ten n).st = .active ∨ (d.ten n).st = .frozen ∨ (d.ten n).st = .incomplete ∧ remove = true) (hruns : (d.ten n).runs = []) :
    tenTearOp c n mode remove d = (some (rAccepted 2), d.tearDown n mode remove c.cmd) := by
  unfold tenTearOp
  dsimp only
  simp only [run_nil hruns]
  rw [checked_pass]
  · cases remove <;> rfl
  · refine List.forall_mem_append.2 ⟨tenGate_pass hm h1 h8, ?_⟩
    rcases hst with h | h | ⟨h, rfl⟩ <;> simp [h] <;> omega

theorem tenSave_pass {c : Ctx} {n dest len : Nat} {d : Dev} (hm : c.ses.mediator = true) (h1 : 1 ≤ n) (h8 : n ≤ 8) (hst : (d.ten n).st = .frozen)
    (hwin : d.inWindowOf c.ses.port dest (d.tenImage n).length = true) (hfit : (d.tenImage n).length ≤ len) (hmax : (d.tenImage n).length ≤ 2097152) :
    tenSaveOp c n dest len d = (some { st := stOk, ph := 3 }, d.busWrite dest (d.tenImage n)) := by
  unfold tenSaveOp
  dsimp only
  rw [checked_pass, if_neg (by omega)]
  exact List.forall_mem_append.2 ⟨tenGate_pass hm h1 h8, by simp [hst, hwin]⟩

theorem tenRestore_pass {c : Ctx} {n src len cls needs : Nat} {image g : Bytes} {secs : List (Nat × Bytes)} {d : Dev} (hm : c.ses.mediator = true) (h1 : 1 ≤ n)
    (h8 : n ≤ 8) (hfree : d.tenTaken n = false) (hwin : d.inWindowOf c.ses.port src len = true) (hgen : imageGenuine (padTo len image) = true)
    (hp : parseImage (padTo len image) = some (cls, needs, g, secs)) (hcls : 1 ≤ cls) (hcls' : cls ≤ 2) (hneeds : d.needsAbsent needs = false)
    (hg : ∀ x ∈ d.grantChecks n cls (replant g d.freeColour (d.freeBase (grantSpan g).2)), x.1 = false)
    (h1s : (secs.filter (·.1 == 1)).length ≤ d.freeSources.length) (h2s : (secs.filter (·.1 == 2)).length ≤ d.freeLayers.length)
    (h4s : (secs.filter (·.1 == 4)).length ≤ d.freeMonitors.length) :
    tenRestoreOp c n src len image d = (none, (d.phaseDone c.ses.port c.ses.sid c.seq 1).setTen n
      { cls, grant := replant g d.freeColour (d.freeBase (grantSpan g).2), closed := true,
        runs := [{ job := .restore, cmds := [c.cmd], given := padTo len image }] }) := by
  unfold tenRestoreOp
  dsimp only
  rw [hp]
  dsimp only [Option.getD_some]
  rw [checked_pass]
  have hcls0 : (cls == 0) = false := beq_eq_false_iff_ne.2 (by omega)
  refine List.forall_mem_append.2 ⟨List.forall_mem_append.2 ⟨List.forall_mem_append.2 ⟨tenGate_pass hm h1 h8, ?_⟩, hg⟩, ?_⟩
  · simp [hfree, hwin, hgen, hneeds, hcls']
  · simp [hcls0]
    omega

theorem tenThaw_pass {c : Ctx} {n : Nat} {d : Dev} (hm : c.ses.mediator = true) (h1 : 1 ≤ n) (h8 : n ≤ 8) (hst : (d.ten n).st = .frozen)
    (hrest : (d.ten n).restored = false) (hses : d.ses (0x10 + n) = none) :
    tenThawOp c n d = (some { st := stOk, ph := 3 }, (d.setTenSt n .active false).raise (toOwnerMed n) { code := 0xE705, object := n, tenancy := n }) := by
  have hses' : (d.setTenSt n .active false).ses (0x10 + n) = none := hses
  have hrest' : ((d.setTenSt n .active false).ten n).restored = false := by
    rw [Dev.setTenSt, ten_modTen, if_pos rfl]
    exact hrest
  unfold tenThawOp
  rw [checked_pass]
  · dsimp only
    simp only [hses', hrest', Bool.not_false, if_true]
  · exact List.forall_mem_append.2 ⟨tenGate_pass hm h1 h8, by simp [hst]⟩

/-- Settles O26: every opcode passes its checks and runs its body. -/
theorem tenancyCommandsComplete : Obligations.TenancyCommandsComplete := by
  unfold Obligations.TenancyCommandsComplete
  refine ⟨fun h n cls grant => ?_, fun h n g => ?_, fun h n mode => ?_, fun h n mode => ?_, fun h n => ?_, fun h n dest len => ?_,
    fun h n src len image => ?_, fun h n => ?_⟩
  · refine runs_of _ h (.tenancyCreate n cls grant) _ _ _ (fun _ => rfl) nofun fun c d ⟨hm, h1, h8, hfree, hcls, hlen, hone, hg⟩ => ?_
    exact (tenCreate_pass hm h1 h8 hfree hcls hlen hone hg :)
  · refine runs_of _ h (.tenancyConfigure n g) _ _ _ (fun _ => rfl) nofun
      fun c d ⟨hm, h1, h8, hst, s0, s2, s8, s16, s20, s3, s25, s26, s27, s28, hg, huse⟩ => ?_
    refine (tenConfigure_pass hm h1 h8 hst ?_ hg huse :)
    simp only [List.forall_mem_cons, List.not_mem_nil, IsEmpty.forall_iff, implies_true, and_true]
    exact ⟨s0, s2, s8, s16, s20, s3, s25, s26, s27, s28⟩
  · refine runs_of _ h (.tenancyReset n mode) _ _ _ (fun _ => rfl) nofun fun c d ⟨hm, h1, h8, hmode, hst, hruns⟩ => ?_
    exact (tenTear_pass hm h1 h8 hmode (hst.imp_right .inl) hruns :)
  · refine runs_of _ h (.tenancyRemove n mode) _ _ _ (fun _ => rfl) nofun fun c d ⟨hm, h1, h8, hmode, hst, hruns⟩ => ?_
    exact (tenTear_pass hm h1 h8 hmode (hst.imp_right fun h => h.imp_right fun h => ⟨h, rfl⟩) hruns :)
  · refine runs_of _ h (.tenancyFreeze n) _ _ _ (fun _ => rfl) nofun fun c d ⟨hm, h1, h8, hst, hruns⟩ => ?_
    show tenFreezeOp c n d = _
    simp only [tenFreezeOp, run_nil hruns]
    rw [checked_pass (List.forall_mem_append.2 ⟨tenGate_pass hm h1 h8, by simp [hst]⟩)]
    rfl
  · refine runs_of _ h (.tenancySave n dest len) _ _ _ (fun _ => rfl) nofun fun c d ⟨hm, h1, h8, hst, hwin, hfit, hmax⟩ => ?_
    exact (tenSave_pass hm h1 h8 hst hwin hfit hmax :)
  · refine runs_of _ h (.tenancyRestore n src len image) _ _ _ (fun _ => rfl) nofun
      fun c d ⟨hm, h1, h8, hfree, hwin, hgen, cls, needs, g, secs, hp, hcls, hcls', hneeds, hg, h1s, h2s, h4s⟩ => ?_
    rw [hp]
    exact (tenRestore_pass hm h1 h8 hfree hwin hgen hp hcls hcls' hneeds hg h1s h2s h4s :)
  · refine runs_of _ h (.tenancyThaw n) _ _ _ (fun _ => rfl) nofun fun c d ⟨hm, h1, h8, hst, hrest, hses⟩ => ?_
    exact (tenThaw_pass hm h1 h8 hst hrest hses :)

/-! ### The ends of the waits (11 R299, R303, R305) -/

/-- Settles O27: by the run that each wait belongs to. -/
theorem tenancyWaitsComplete : Obligations.TenancyWaitsComplete := by
  unfold Obligations.TenancyWaitsComplete
  refine ⟨fun s n r hwf hr => ?_, fun s n r hwf hr hph hmode hfly => ?_, fun s n r hwf hr hjob hph hrem => ?_, fun s n r hwf hr hjob hph => ?_⟩
  · refine to_of (f := fun d => (freezeTimeoutOp n d).settled) rfl hwf (congrArg Dev.settled ?_)
    rw [freezeTimeoutOp, hr]
  · refine to_of (f := fun d => (drainExpiredOp n d).settled) rfl hwf (congrArg Dev.settled ?_)
    rw [drainExpiredOp, hr]
    simp [hph, hmode, hfly]
  · refine to_of (f := fun d => (quiescedOp n d).settled) rfl hwf (congrArg Dev.settled ?_)
    rw [quiescedOp]
    dsimp only
    rw [hr]
    dsimp only [Option.some_or]
    rw [if_neg (not_not.2 hph), if_pos hjob, hrem]
    rfl
  · refine to_of (f := fun d => (zeroFillOp n d).settled) rfl hwf (congrArg Dev.settled ?_)
    simp [zeroFillOp, hr, hjob, hph]

end Sys2Proof.Goals
end

section
/-!
PROOF. The console (12 R313 to R332): recalibration, haptic plays, contacts that rest, a self-capacitance frame in which nothing stands out, and the
mixer's block.
-/

namespace Sys2Proof.Goals

open Sys2Proof Sys2Proof.Machine

/-! ### A self-capacitance frame without values (12 R318, R319) -/

theorem deltaAt_nil (k : Nat) : deltaAt [] k = 0 := rfl

/-- A group of one channel that does not stand out starts no touch. -/
theorem groupFrame_quiet {d : Dev} {noisy : Bool} {g : Nat} (hk : bits (d.get .grtSelfGroup g) 14 13 = 0) (hth : 0 < touchTh (d.get .grtSelfCfg))
    (hc : (d.fe 4).contacts = []) : d.groupFrame [] noisy g = d := by
  have hcfg : d.feCfg 4 = d.get .grtSelfCfg := rfl
  have hz : ¬touchTh (d.get .grtSelfCfg) ≤ 0 := by omega
  unfold Dev.groupFrame
  simp [groupChannels, groupPos, hk, hc, hcfg, deltaAt_nil, hz]

theorem each_groupFrame_quiet {d : Dev} {noisy : Bool} (l : List Nat) (hk : ∀ g ∈ l, bits (d.get .grtSelfGroup g) 14 13 = 0)
    (hth : 0 < touchTh (d.get .grtSelfCfg)) (hc : (d.fe 4).contacts = []) : (d.each l fun d g => d.groupFrame [] noisy g) = d :=
  each_same l d _ fun g hg => groupFrame_quiet (hk g hg) hth hc

/-- The frame is counted and its noise measured. -/
def listened (f : SelfFrame) (d : Dev) : Dev :=
  (d.count2 .grtStat 4 0).modFe 4 fun fe =>
    { fe with frames := fe.frames + 1, noise := (List.range 16).map fun k =>
        if k / 8 = (d.fe 4).frames % 2 then smooth (if fe.frames < 2 then none else fe.noise[k]?) (f.noise.getD (k % 8) 0) else fe.noise.getD k 0 }

/-- Without values a frame leaves the contacts, and the groups that start are none. -/
theorem selfScan_quiet {d : Dev} {f : SelfFrame} (hs : d.feScans 4 = true) (hsus : (d.fe 4).suspect = false) (hc : (d.fe 4).contacts = [])
    (hr : (d.fe 4).recal = 0) (hfirst : (d.fe 4).firstScan = false) (heven : (d.fe 4).frames % 2 = 0) (hv : f.values = [])
    (hk : ∀ g < 16, bits (d.get .grtSelfGroup g) 14 13 = 0) (hth : 0 < touchTh (d.get .grtSelfCfg)) :
    selfScanOp f d = ((listened f d).modFe 4 fun fe => { fe with starting := [] }).modFe 4 fun fe => { fe with hopped := false } := by
  have hfe : ∃ n, (listened f d).fe 4 = { d.fe 4 with frames := (d.fe 4).frames + 1, noise := n } := by
    rw [listened, fe_modFe, if_pos rfl]
    exact ⟨_, rfl⟩
  have hgroup : ∀ g < 16, bits ((listened f d).get .grtSelfGroup g) 14 13 = 0 := fun g hg => by
    rw [← hk g hg]
    exact congrArg (fun x => bits x 14 13) (get_count_ne (by decide) (by omega) (by decide))
  have hcfg : (listened f d).get .grtSelfCfg = d.get .grtSelfCfg := get_count_ne (by decide) (by decide) (by decide)
  unfold selfScanOp
  rw [hs, hv]
  simp only [Bool.not_true, Bool.false_eq_true, if_false, List.filter_nil, List.map_nil]
  generalize hL : (d.count2 .grtStat 4 0).modFe 4 _ = e
  have he : listened f d = e := hL
  rw [he] at hfe hgroup hcfg ⊢
  obtain ⟨n, hfe⟩ := hfe
  have h1 : e.firstScan 4 [] = e := by simp [Dev.firstScan, hfe, hfirst]
  have h2 : e.suspectTest 4 16 [] = e := by simp [Dev.suspectTest]
  have h3 : ∀ noisy, (e.each (List.range 16) fun d g => d.groupFrame [] noisy g) = e := fun noisy =>
    each_groupFrame_quiet _ (fun g hg => hgroup g (List.mem_range.1 hg)) (by rw [hcfg]; exact hth) (by rw [hfe]; exact hc)
  have h4 : Dev.recalFrame (e.modFe 4 fun fe => { fe with starting := [] }) 4 [] = e.modFe 4 fun fe => { fe with starting := [] } := by
    rw [Dev.recalFrame, fe_modFe, if_pos rfl, hfe]
    exact if_pos hr
  have hsus' : (e.fe 4).suspect = false := by rw [hfe]; exact hsus
  have hhot : ∀ c : Dev, ((List.range 16).filter fun g => bit (c.get .grtSelfGroup g) 15 &&
      (groupChannels (c.get .grtSelfGroup g)).any fun k => decide (touchTh (d.feCfg 4) ≤ deltaAt [] k)) = [] := fun c =>
    List.filter_eq_nil_iff.2 fun g _ => by
      have hz : ¬touchTh (d.feCfg 4) ≤ 0 := by
        have : d.feCfg 4 = d.get .grtSelfCfg := rfl
        rw [this]
        omega
      simp [deltaAt_nil, hz]
  rw [h1]
  rw [h2]
  simp only [hsus', heven, h3, hhot, Bool.false_eq_true, if_false, each_nil, h4, zero_ne_one]

/-! ### The mixer's block (12 R328 to R331) -/

/-- Reading the rings leaves what is sent, the ports and the tenancies. -/
structure RingsAlone (d e : Dev) : Prop where
  sent : e.sent = d.sent
  ports : ∀ p < 2, e.get .audPortCfg p = d.get .audPortCfg p
  tens : e.tens = d.tens

theorem RingsAlone.refl (d : Dev) : RingsAlone d d := ⟨rfl, fun _ _ => rfl, rfl⟩

theorem RingsAlone.trans {a b c : Dev} (h : RingsAlone a b) (h' : RingsAlone b c) : RingsAlone a c :=
  ⟨h'.sent.trans h.sent, fun p hp => (h'.ports p hp).trans (h.ports p hp), h'.tens.trans h.tens⟩

theorem put_ringsAlone (d : Dev) {q : Par} {t : Nat} (v : Nat) (hq : Par.audPortCfg.ctorIdx ≠ q.ctorIdx) (ht : t < 2 ^ 24) : RingsAlone d (d.put q t v) :=
  ⟨rfl, fun _ hp => smGet_set_ne _ _ _ _ (key_ne hq (by omega) ht), rfl⟩

theorem audStat_ringsAlone (d : Dev) {i k : Nat} (hi : i < 33) (hk : k < 2) : RingsAlone d (d.count2 .audStat i k) :=
  put_ringsAlone d _ (by decide) (show i * 2 + k < 2 ^ 24 by omega)

theorem inputBlock_ringsAlone (d : Dev) {i : Nat} (hi : i < 32) : RingsAlone d (d.inputBlock i).2 := by
  unfold Dev.inputBlock
  dsimp only
  split
  · exact .refl d
  · generalize (if bit (d.get .audInCfg i) 30 = true then 64 else 32) = n
    split
    · exact audStat_ringsAlone d (i := i) (k := 1) (by omega) (by decide)
    · exact (put_ringsAlone d (q := .audInRd) (t := i) _ (by decide) (by omega)).trans (audStat_ringsAlone _ (i := i) (k := 0) (by omega) (by decide))

theorem RingsAlone.alertHolder {d e : Dev} (h : RingsAlone d e) : e.alertHolder = d.alertHolder := by
  simp only [Dev.alertHolder, Dev.holder, Dev.tenExists, Dev.gByte, Dev.ten, h.tens]

/-- With no tenancy that holds ALERT the alert is silent. -/
theorem alertBlock_silent {d : Dev} (h : d.alertHolder = 0) : d.alertBlock = (List.replicate 16 0, d) := by
  simp [Dev.alertBlock, Dev.alertEn, h]

/-- The enabled inputs are read in turn. -/
def readInputs (d : Dev) (is : List Nat) : List (Nat × List Int) × Dev :=
  is.foldl (fun (l, d) i => if d.flag .audInCfg i 31 then (let (b, d) := d.inputBlock i; (l ++ [(i, b)], d)) else (l, d)) ([], d)

theorem readInputs_ringsAlone (d : Dev) {is : List Nat} (his : ∀ i ∈ is, i < 32) : RingsAlone d (readInputs d is).2 := by
  unfold readInputs
  have h : ∀ (l : List (Nat × List Int)) (d : Dev), RingsAlone d (is.foldl (fun (l, d) i =>
      if d.flag .audInCfg i 31 then (let (b, d) := d.inputBlock i; (l ++ [(i, b)], d)) else (l, d)) (l, d)).2 := by
    induction is with
    | nil => exact fun l d => .refl d
    | cons i is ih =>
      intro l d
      have hrest := ih fun j hj => his j (List.mem_cons_of_mem i hj)
      rw [List.foldl_cons]
      by_cases hen : d.flag .audInCfg i 31 = true
      · simp only [hen, if_true]
        exact (inputBlock_ringsAlone d (his i List.mem_cons_self)).trans (hrest (l ++ [(i, (d.inputBlock i).1)]) (d.inputBlock i).2)
      · simp only [hen]
        exact hrest l d
  exact h [] d

/-- The sample periods are mixed in turn. -/
def mixAll (d : Dev) (ins : List (Nat × List Int)) (alert : List Int) (js : List Nat) : List (List Int) × Dev :=
  js.foldl (fun (l, d) j => let (s, d) := d.mixSample ins alert j; (l ++ [s], d)) ([], d)

theorem mixSample_ringsAlone (d : Dev) (ins : List (Nat × List Int)) (alert : List Int) (j : Nat) : RingsAlone d (d.mixSample ins alert j).2 :=
  ⟨rfl, fun _ _ => rfl, rfl⟩

theorem mixAll_spec (d : Dev) (ins : List (Nat × List Int)) (alert : List Int) (js : List Nat) :
    (mixAll d ins alert js).1.length = js.length ∧ RingsAlone d (mixAll d ins alert js).2 := by
  unfold mixAll
  have h : ∀ (l : List (List Int)) (d : Dev), (js.foldl (fun (l, d) j => let (s, d) := d.mixSample ins alert j; (l ++ [s], d)) (l, d)).1.length = l.length + js.length ∧
      RingsAlone d (js.foldl (fun (l, d) j => let (s, d) := d.mixSample ins alert j; (l ++ [s], d)) (l, d)).2 := by
    induction js with
    | nil => exact fun l d => ⟨rfl, .refl d⟩
    | cons j js ih =>
      intro l d
      obtain ⟨hlen, hr⟩ := ih (l ++ [(d.mixSample ins alert j).1]) (d.mixSample ins alert j).2
      rw [List.foldl_cons]
      refine ⟨hlen.trans ?_, (mixSample_ringsAlone d ins alert j).trans hr⟩
      simp only [List.length_append, List.length_cons, List.length_nil]
      omega
  simpa using h [] d

/-- The mixed samples of a port's slots. -/
def portBlock (d : Dev) (out : List (List Int)) (p : Nat) : List Int :=
  out.flatMap fun s => (portSlots p (d.get .audPortCfg p)).map fun k => s.getD k 0

theorem portBlock_length (d : Dev) (out : List (List Int)) (p : Nat) :
    (portBlock d out p).length = out.length * (portSlots p (d.get .audPortCfg p)).length := by
  simp [portBlock, List.length_flatMap]

/-- A port's block leaves where it has slots. -/
def sendPort (out : List (List Int)) (e : Dev) (p : Nat) : Dev :=
  if (portSlots p (e.get .audPortCfg p)).isEmpty then e else e.send (.audio p (portBlock e out p))

theorem sendPort_slots {out : List (List Int)} {e : Dev} {p : Nat} (h : portSlots p (e.get .audPortCfg p) ≠ []) :
    sendPort out e p = e.send (.audio p (portBlock e out p)) :=
  if_neg (by simpa using h)

theorem send_get (d : Dev) (x : Out) (q : Par) (t : Nat) : (d.send x).get q t = d.get q t := rfl

theorem sendPorts_sent {out : List (List Int)} {e : Dev} (h0 : portSlots 0 (e.get .audPortCfg 0) ≠ []) (h1 : portSlots 1 (e.get .audPortCfg 1) ≠ []) :
    (e.each [0, 1] (sendPort out)).sent = .audio 1 (portBlock e out 1) :: .audio 0 (portBlock e out 0) :: e.sent := by
  have h : e.each [0, 1] (sendPort out) = sendPort out (sendPort out e 0) 1 := rfl
  rw [h, sendPort_slots h0, sendPort_slots (by rw [send_get]; exact h1)]
  rfl

/-- The block of a mixer in service. -/
theorem audioBlockOp_eq {d : Dev} (hn : d.inNight = false) (hs : d.inService 0x0F = true) :
    audioBlockOp d =
      Dev.each (mixAll (readInputs d (List.range 32)).2.alertBlock.2 (readInputs d (List.range 32)).1 (readInputs d (List.range 32)).2.alertBlock.1
        (List.range 16)).2 [0, 1] (sendPort (mixAll (readInputs d (List.range 32)).2.alertBlock.2 (readInputs d (List.range 32)).1
          (readInputs d (List.range 32)).2.alertBlock.1 (List.range 16)).1) := by
  unfold audioBlockOp readInputs mixAll
  rw [hn, hs, if_neg Bool.false_ne_true, Bool.not_true, if_neg Bool.false_ne_true]
  generalize List.foldl _ _ (List.range 32) = i
  obtain ⟨ins, e⟩ := i
  dsimp only
  generalize e.alertBlock = a
  obtain ⟨alert, e⟩ := a
  dsimp only
  generalize List.foldl _ _ (List.range 16) = m
  obtain ⟨out, e⟩ := m
  rfl

/-- With no alert the block of each enabled port leaves, 16 samples of each of its slots. -/
theorem audioBlock_sends {d : Dev} (hn : d.inNight = false) (hs : d.inService 0x0F = true) (ha : d.alertHolder = 0)
    (h0 : portSlots 0 (d.get .audPortCfg 0) ≠ []) (h1 : portSlots 1 (d.get .audPortCfg 1) ≠ []) :
    ∃ a b : List Int, (audioBlockOp d).sent = .audio 1 b :: .audio 0 a :: d.sent ∧ a.length = 16 * (portSlots 0 (d.get .audPortCfg 0)).length ∧
      b.length = 16 * (portSlots 1 (d.get .audPortCfg 1)).length := by
  have hin := readInputs_ringsAlone d (is := List.range 32) fun i hi => List.mem_range.1 hi
  have heq := audioBlockOp_eq hn hs
  rw [alertBlock_silent (hin.alertHolder.trans ha)] at heq
  obtain ⟨hlen, hmix⟩ := mixAll_spec (readInputs d (List.range 32)).2 (readInputs d (List.range 32)).1 (List.replicate 16 0) (List.range 16)
  dsimp only at heq
  generalize mixAll _ _ _ _ = m at heq hlen hmix
  generalize (readInputs d (List.range 32)).2 = e at hin hmix
  have hp := (hin.trans hmix).ports
  refine ⟨portBlock m.2 m.1 0, portBlock m.2 m.1 1, ?_, ?_, ?_⟩
  · rw [heq, sendPorts_sent (by rw [hp 0 (by decide)]; exact h0) (by rw [hp 1 (by decide)]; exact h1), (hin.trans hmix).sent]
  · rw [portBlock_length, hlen, hp 0 (by decide), List.length_range]
  · rw [portBlock_length, hlen, hp 1 (by decide), List.length_range]

/-! ### The statement -/

/-- A mask of front-ends that is not zero names one. -/
theorem fes_ne_nil {m : Nat} (h0 : 0 < m) (h16 : m < 16) : [0, 1, 2, 3].filter (bit m) ≠ [] := by
  interval_cases m <;> decide

/-- Settles O30: by the branch that each row takes. -/
theorem consoleCommandsComplete : Obligations.ConsoleCommandsComplete := by
  unfold Obligations.ConsoleCommandsComplete
  refine ⟨fun h feMask => ?_, fun h v w m rep => ?_, fun s v p q hv hq => ?_, fun s v freq hv hq ho h29 h30 => ?_,
    fun s v peak hv => to_of (f := fun d => (overcurrentOp v peak d).settled) rfl (decide_eq_true hv) rfl, fun s t id r c ht hid hc hr => ?_,
    fun s f hq hs hsus hc hr hfirst heven hv hk hth => ?_, fun s hn => ?_, fun s hn hs ha h0 h1 => ?_, fun s ha he => ?_⟩
  · refine runs_of _ h (.touchRecalibrate feMask 0) _ _ _ (fun _ => rfl) nofun fun c d ⟨hp, hm, hact, h0, h16⟩ => ?_
    have hch : (List.range 16).filter (bit 0) = [] := by decide
    have hfes : ([0, 1, 2, 3].filter (bit feMask)).isEmpty = false := by simpa using fes_ne_nil h0 h16
    show recalibrateOp c feMask 0 d = _
    simp only [recalibrateOp, hch]
    rw [checked_pass (by simp [hp, hm, hact]; omega), hfes]
    rfl
  · refine runs_of _ h (.hapticPlay v w m rep) _ _ _ (fun _ => rfl) nofun fun c d ⟨hp, hv, hown, hw, hen, hlen, hquar⟩ => ?_
    show hapticPlayOp c v w m rep d = _
    simp only [hapticPlayOp]
    rw [checked_pass (by simp [hp, hv, hown, hw, hen]; omega), hquar]
    simp
  · refine to_of (f := hapticEndOp v) rfl (decide_eq_true hv) ?_
    rw [hapticEndOp, hq]
  · refine to_of (f := trackLostOp v freq) rfl (decide_eq_true hv) ?_
    simp only [trackLostOp, ho, h29, h30, List.isEmpty_eq_false_iff.2 hq, Bool.or_self, Bool.not_true, Bool.false_eq_true, if_false]
    rfl
  · refine to_of (f := touchStuckOp t id) rfl (decide_eq_true ht) ?_
    simp only [touchStuckOp, hc, hr, if_neg (Nat.not_le.2 hid)]
    rfl
  · have heq := selfScan_quiet hs hsus hc hr hfirst heven hv hk hth
    have hcalm : Calm s.dev (selfScanOp f s.dev) := by
      rw [heq]
      refine .trans (.trans (.trans ?_ (modFe_undisturbed ..)) (modFe_undisturbed ..)) (modFe_undisturbed ..)
      exact grtStat_calm s.dev 4 0
    refine ⟨selfScanOp f s.dev, onDev_settled rfl hq hcalm, ?_⟩
    beta_reduce
    rw [heq, fe_modFe, if_pos rfl, fe_modFe, if_pos rfl, listened, fe_modFe, if_pos rfl]
    exact ⟨rfl, hc, rfl, rfl⟩
  · refine to_of (f := audioBlockOp) rfl rfl ?_
    rw [audioBlockOp, if_pos hn]
  · exact gives_of (f := audioBlockOp) rfl rfl (audioBlock_sends hn hs ha h0 h1)
  · refine to_of (f := alertIdleOp) rfl rfl ?_
    rw [alertIdleOp, if_pos (by rw [ha, he]; rfl)]

end Sys2Proof.Goals
end

section
/-!
PROOF. Reads and writes of memory within one part (13 R340, R346, R356, R362): what an allowed access reaches, and what a denied one leaves.
-/

namespace Sys2Proof.Goals

open Sys2Proof Sys2Proof.Machine

/-! ### Accesses of one part (01 R20) -/

theorem partsOf_one {a n : Nat} (hn : 0 < n) (h : a % 2048 + n ≤ 2048) : partsOf a n = [(a, n)] := by
  have hmin : min n (2048 - a % 2048) = n := Nat.min_eq_left (by omega)
  simp only [partsOf, parts, if_neg (Nat.ne_of_gt hn), hmin, Nat.sub_self, if_true]

/-- A read of one part that no target takes. -/
theorem memReadOp_none {fab : Fabric} {m a n qos claim : Nat} {d : Dev} (hn : 0 < n) (h : a % 2048 + n ≤ 2048) (hdet : d.detached m = false)
    (hr : (d.routePart m a qos .read claim).1 = none) :
    memReadOp fab m a n qos claim false .clean d = (d.routePart m a qos .read claim).2.send (.memData m a (zeros n) true false) := by
  unfold memReadOp
  rw [hdet, partsOf_one hn h]
  simp only [Bool.false_eq_true, if_false, Dev.readParts, hr]
  rfl

/-- A read of one part that a target takes. -/
theorem memReadOp_some {fab : Fabric} {m a n qos claim t : Nat} {d : Dev} (hn : 0 < n) (h : a % 2048 + n ≤ 2048) (hdet : d.detached m = false)
    (hr : (d.routePart m a qos .read claim).1 = some t) :
    let x := ((d.routePart m a qos .read claim).2.grantAt t m qos).readAt fab m t a n .clean
    memReadOp fab m a n qos claim false .clean d = x.2.send (.memData m a (if x.1.2.1 then zeros n else x.1.1) x.1.2.1 x.1.2.2) := by
  intro x
  unfold memReadOp
  rw [hdet, partsOf_one hn h]
  simp only [Bool.false_eq_true, if_false, Dev.readParts, hr]
  rfl

/-- A write of one part that no target takes. -/
theorem memWriteOp_none {fab : Fabric} {m a claim : Nat} {data : Bytes} {bad : Bool} {d : Dev} (hn : data ≠ []) (h : a % 2048 + data.length ≤ 2048)
    (hdet : d.detached m = false) (hr : (d.routePart m a (d.qosOf m) .write claim).1 = none) :
    memWriteOp fab m a claim data bad d = (d.routePart m a (d.qosOf m) .write claim).2.send (.memAck m a (!d.ackedFirst m a claim)) := by
  unfold memWriteOp
  rw [hdet, partsOf_one (List.length_pos_iff.2 hn) h]
  simp only [Bool.false_eq_true, if_false, Dev.writeParts, hr]
  rfl

/-- A write of one part that a target takes. -/
theorem memWriteOp_some {fab : Fabric} {m a claim t : Nat} {data : Bytes} {bad : Bool} {d : Dev} (hn : data ≠ []) (h : a % 2048 + data.length ≤ 2048)
    (hdet : d.detached m = false) (hr : (d.routePart m a (d.qosOf m) .write claim).1 = some t) :
    let e := (d.routePart m a (d.qosOf m) .write claim).2
    let x := (e.grantAt t m (e.qosOf m)).writeAt fab m t a data bad
    memWriteOp fab m a claim data bad d = x.2.send (.memAck m a (x.1 && !d.ackedFirst m a claim)) := by
  intro e x
  unfold memWriteOp
  rw [hdet, partsOf_one (List.length_pos_iff.2 hn) h]
  simp only [Bool.false_eq_true, if_false, Dev.writeParts, hr, List.take_length]
  rfl

/-! ### The target of a part (01 R15) -/

theorem routePart_dram {d : Dev} {m a claim : Nat} {kind : AccKind} (qos : Nat) (hc : d.checkPage m (a / 4096) kind (claimOf m claim) = .allow)
    (h5 : 5 ≤ d.targetOf a) (h8 : d.targetOf a ≤ 8) : d.routePart m a qos kind claim = (some (d.targetOf a), d) := by
  unfold Dev.routePart
  rw [hc]
  dsimp only
  generalize d.targetOf a = t at h5 h8 ⊢
  interval_cases t <;> rfl

theorem routePart_deny {d : Dev} {m a claim r : Nat} {kind : AccKind} {t : Bool} (qos : Nat)
    (hc : d.checkPage m (a / 4096) kind (claimOf m claim) = .deny r t) :
    d.routePart m a qos kind claim = (none, d.denied m a r kind (claimOf m claim) t) := by
  unfold Dev.routePart
  rw [hc]

theorem routePart_default {d : Dev} {m a claim : Nat} {kind : AccKind} (qos : Nat) (hc : d.checkPage m (a / 4096) kind (claimOf m claim) = .allow)
    (ht : d.targetOf a = 11) : d.routePart m a qos kind claim = (none, (d.grantAt 11 m qos).decodeError m a kind) := by
  unfold Dev.routePart
  rw [hc]
  dsimp only
  rw [ht]
  rfl

theorem when_regs {f : Dev → Dev} (hf : ∀ d, ∃ r, f d = { d with regs := r }) (d : Dev) (b : Bool) : ∃ r, d.when b f = { d with regs := r } := by
  cases b
  · exact ⟨d.regs, rfl⟩
  · exact hf d

/-- A grant counts, and remembers the master. -/
theorem grantAt_frame (d : Dev) (t m qos : Nat) : ∃ r g, d.grantAt t m qos = { d with regs := r, mem := { d.mem with lastGrant := g } } := by
  have hcount : ∀ (k : Nat) (d : Dev), ∃ r, d.count2 .xbrStat t k = { d with regs := r } := fun _ _ => ⟨_, rfl⟩
  unfold Dev.grantAt
  dsimp only
  obtain ⟨r1, h1⟩ := when_regs (hcount 1) (d.count2 .xbrStat t 0) (smGet 24 (d.count2 .xbrStat t 0).mem.lastGrant t == m)
  obtain ⟨r2, h2⟩ := when_regs (hcount 2) ((d.count2 .xbrStat t 0).when (smGet 24 (d.count2 .xbrStat t 0).mem.lastGrant t == m) fun d => d.count2 .xbrStat t 1)
    (qos == 15)
  rw [h2, h1]
  exact ⟨_, _, rfl⟩

/-! ### What a report leaves -/

theorem debugDenied_never (d : Dev) (entry : Bytes) {m : Nat} (h : m ≠ 23) : (d.when (m == 23) fun d => d.debugDenied entry) = d := by
  rw [beq_eq_false_iff_ne.2 h]
  rfl

/-- A report by another master than the debug master leaves the bytes of memory. -/
theorem report_cells (d : Dev) {v : Viol} (h : v.master ≠ 23) : (d.report v).mem.cells = d.mem.cells := by
  unfold Dev.report
  dsimp only
  rw [debugDenied_never _ _ h, raise_mem]
  split <;> rfl

theorem notice_cells (d : Dev) {v : Viol} (h : v.master ≠ 23) : (d.notice v).mem.cells = d.mem.cells := by
  unfold Dev.notice
  dsimp only
  split
  · rfl
  · exact report_cells d h

theorem denied_cells (d : Dev) {m : Nat} (a region : Nat) (kind : AccKind) (claim : Nat) (byTag : Bool) (h : m ≠ 23) :
    (d.denied m a region kind claim byTag).mem.cells = d.mem.cells := by
  unfold Dev.denied
  dsimp only
  split
  · split
    · exact notice_cells _ h
    · exact report_cells _ h
  · exact report_cells _ h

/-! ### DRAM (13 R346) -/

/-- A clean read of DRAM without poison answers its bytes. -/
theorem readAt_dram {fab : Fabric} {d : Dev} {t a n : Nat} (m : Nat) (h5 : 5 ≤ t) (h8 : t ≤ 8) (hf : (d.chan (t - 5)).faulted = false)
    (hp : ∀ b ∈ beatsOf a n, d.poisoned b = false) :
    d.readAt fab m t a n .clean = ((d.peekN a n, false, false), d.count2 .memStat (t - 5) 3 0) := by
  have hecc : d.eccDram (t - 5) a .clean = d := by
    unfold Dev.eccDram
    dsimp only
    split <;> rfl
  have hbad : (beatsOf a n).filter d.poisoned = [] := List.filter_eq_nil_iff.2 fun b hb => by simp [hp b hb]
  unfold Dev.readAt
  rw [if_pos ⟨h5, h8⟩, hf]
  simp only [Bool.false_eq_true, if_false, hecc, hbad, List.length_nil, lt_irrefl, decide_false]

/-- The marks of the beats that a write covers are cleared. -/
theorem marked_frame (d : Dev) (a n : Nat) (l : List Nat) :
    ∃ p, (d.each l fun d b => if a ≤ b ∧ b + 4 ≤ a + n then d.markBeat b false else d) = { d with mem := { d.mem with poison := p } } := by
  unfold Dev.each
  induction l generalizing d with
  | nil => exact ⟨_, rfl⟩
  | cons b l ih =>
    rw [List.foldl_cons]
    split
    · obtain ⟨p, hp⟩ := ih (d.markBeat b false)
      exact ⟨p, hp⟩
    · exact ih d

theorem poison_calm (d : Dev) (p : List (Nat × Bool)) : Calm d { d with mem := { d.mem with poison := p } } := .of_eqs rfl rfl rfl rfl rfl rfl

/-- A write of DRAM that is not poisoned reaches its bytes and no others. -/
theorem writeAt_dram {fab : Fabric} {d : Dev} {t a : Nat} (m : Nat) (data : Bytes) (h5 : 5 ≤ t) (h8 : t ≤ 8) (hf : (d.chan (t - 5)).faulted = false) :
    ∃ p, d.writeAt fab m t a data false = (false, Dev.poke { d with mem := { d.mem with poison := p } } a data) := by
  obtain ⟨p, hp⟩ := marked_frame d a data.length (beatsOf a data.length)
  refine ⟨p, ?_⟩
  unfold Dev.writeAt
  simp only [h5, h8, and_self, if_true, hf, Bool.false_eq_true, if_false]
  rw [← hp]

/-! ### The statement -/

theorem detached_of_ne {d : Dev} {m : Nat} (h : m ≠ 23) : d.detached m = false := by simp [Dev.detached, h]

/-- An allowed read of DRAM. -/
theorem memRead_allowed {s : State} {m a n qos claim : Nat} (hwf : Instr.wellFormed (.memRead m a n qos claim false .clean) = true) (hn : 0 < n)
    (h : a % 2048 + n ≤ 2048) (hdet : s.dev.detached m = false) (hc : s.dev.checkPage m (a / 4096) .read (claimOf m claim) = .allow)
    (h5 : 5 ≤ s.dev.targetOf a) (h8 : s.dev.targetOf a ≤ 8) (hf : (s.dev.chan (s.dev.targetOf a - 5)).faulted = false)
    (hp : ∀ b ∈ beatsOf a n, s.dev.poisoned b = false) :
    Gives (.memRead m a n qos claim false .clean) s fun d =>
      d.sent = .memData m a (s.dev.peekN a n) false false :: s.dev.sent ∧ d.mem.cells = s.dev.mem.cells ∧ d.mem.viol = s.dev.mem.viol := by
  refine gives_of (f := memReadOp fabric m a n qos claim false .clean) rfl hwf ?_
  have hr := routePart_dram qos hc h5 h8
  obtain ⟨r, g, hg⟩ := grantAt_frame s.dev (s.dev.targetOf a) m qos
  rw [memReadOp_some hn h hdet (congrArg Prod.fst hr), congrArg Prod.snd hr, hg]
  generalize hd : ({ s.dev with regs := r, mem := { s.dev.mem with lastGrant := g } } : Dev) = d
  have hfd : (d.chan (s.dev.targetOf a - 5)).faulted = false := by rw [← hd]; exact hf
  have hpd : ∀ b ∈ beatsOf a n, d.poisoned b = false := by rw [← hd]; exact hp
  rw [readAt_dram m h5 h8 hfd hpd, ← hd]
  exact ⟨rfl, rfl, rfl⟩

/-- A denied read. -/
theorem memRead_denied {s : State} {m a n qos claim r : Nat} {t : Bool} (hwf : Instr.wellFormed (.memRead m a n qos claim false .clean) = true) (hn : 0 < n)
    (h : a % 2048 + n ≤ 2048) (hm : m ≠ 23) (hc : s.dev.checkPage m (a / 4096) .read (claimOf m claim) = .deny r t) :
    Gives (.memRead m a n qos claim false .clean) s fun d =>
      d.sent.head? = some (.memData m a (zeros n) true false) ∧ d.mem.cells = s.dev.mem.cells := by
  refine gives_of (f := memReadOp fabric m a n qos claim false .clean) rfl hwf ?_
  have hr := routePart_deny qos hc
  rw [memReadOp_none hn h (detached_of_ne hm) (congrArg Prod.fst hr), congrArg Prod.snd hr]
  exact ⟨rfl, denied_cells _ _ _ _ _ _ hm⟩

/-- A read that no target answers. -/
theorem memRead_undecoded {s : State} {m a n qos claim : Nat} (hwf : Instr.wellFormed (.memRead m a n qos claim false .clean) = true) (hn : 0 < n)
    (h : a % 2048 + n ≤ 2048) (hm : m ≠ 23) (hc : s.dev.checkPage m (a / 4096) .read (claimOf m claim) = .allow) (ht : s.dev.targetOf a = 11)
    (hq : s.dev.mem.viol.length < 16) :
    Gives (.memRead m a n qos claim false .clean) s fun d =>
      d.sent.head? = some (.memData m a (zeros n) true false) ∧ d.mem.cells = s.dev.mem.cells ∧
      ∃ v, d.mem.viol = s.dev.mem.viol ++ [v] ∧ v.decode = true ∧ v.addr = a ∧ v.master = m ∧ v.region = 0 ∧ v.claim = 0 ∧ v.tag = 0 := by
  refine gives_of (f := memReadOp fabric m a n qos claim false .clean) rfl hwf ?_
  have hr := routePart_default qos hc ht
  obtain ⟨r, g, hg⟩ := grantAt_frame s.dev 11 m qos
  rw [memReadOp_none hn h (detached_of_ne hm) (congrArg Prod.fst hr), congrArg Prod.snd hr, hg]
  generalize hd : ({ s.dev with regs := r, mem := { s.dev.mem with lastGrant := g } } : Dev) = d
  have hcells : d.mem.cells = s.dev.mem.cells := by rw [← hd]
  have hviol : d.mem.viol = s.dev.mem.viol := by rw [← hd]
  let v : Viol := { time := 0, addr := a, master := m, region := 0, kind := kindCode .read, claim := 0, tag := 0, decode := true, epoch := 0 }
  have hrep := (Prod.mk.inj ((report_queue d v).trans (if_pos (by rw [hviol]; exact hq)))).1
  exact ⟨rfl, (report_cells d (v := v) hm).trans hcells, { v with time := d.now, epoch := d.epoch, ovf := d.mem.ovfPending },
    hrep.trans (congrArg (· ++ _) hviol), rfl, rfl, rfl, rfl, rfl, rfl⟩

/-- An allowed write of DRAM. -/
theorem memWrite_allowed {s : State} {m a claim : Nat} {data : Bytes} (hq : Quiet s.dev) (hwf : Instr.wellFormed (.memWrite m a claim data false) = true)
    (hmem : s.dev.mem.wf = true) (hn : data ≠ []) (h : a % 2048 + data.length ≤ 2048) (hdet : s.dev.detached m = false)
    (hc : s.dev.checkPage m (a / 4096) .write (claimOf m claim) = .allow) (h5 : 5 ≤ s.dev.targetOf a) (h8 : s.dev.targetOf a ≤ 8)
    (hf : (s.dev.chan (s.dev.targetOf a - 5)).faulted = false) :
    Gives (.memWrite m a claim data false) s fun d =>
      (∀ x, d.peek x = if a ≤ x ∧ x < a + data.length then data.getD (x - a) 0 else s.dev.peek x) ∧ d.mem.wf = true ∧
      d.sent = .memAck m a false :: s.dev.sent := by
  have hr := routePart_dram (s.dev.qosOf m) hc h5 h8
  obtain ⟨r, g, hg⟩ := grantAt_frame s.dev (s.dev.targetOf a) m (s.dev.qosOf m)
  have hcalm : Calm s.dev (s.dev.grantAt (s.dev.targetOf a) m (s.dev.qosOf m)) := grantAt_undisturbed s.dev (by omega) ..
  have hop := memWriteOp_some (fab := fabric) (bad := false) hn h hdet (congrArg Prod.fst hr)
  dsimp only at hop
  rw [congrArg Prod.snd hr] at hop
  dsimp only at hop
  rw [hg] at hop hcalm
  generalize hd : ({ s.dev with regs := r, mem := { s.dev.mem with lastGrant := g } } : Dev) = d at hop hcalm
  have hsent : d.sent = s.dev.sent := by rw [← hd]
  have hpeek : ∀ x, d.peek x = s.dev.peek x := fun x => by rw [← hd]; rfl
  have hwfd : d.mem.wf = true := by rw [← hd]; exact hmem
  have hfd : (d.chan (s.dev.targetOf a - 5)).faulted = false := by rw [← hd]; exact hf
  obtain ⟨p, hp⟩ := writeAt_dram (fab := fabric) (a := a) m data h5 h8 hfd
  rw [hp] at hop
  have hpoke : Calm d (Dev.poke { d with mem := { d.mem with poison := p } } a data) :=
    (poison_calm d p).trans (poke_calm _ a data)
  dsimp only at hop
  have hcalm' : Calm s.dev (memWriteOp fabric m a claim data false s.dev) := by
    rw [hop]
    exact (hcalm.trans hpoke).trans (send_undisturbed _ _)
  refine ⟨_, exec_memWrite_of_quiet hwf (hcalm'.quiet hq), ?_⟩
  rw [hop]
  refine ⟨fun x => ?_, Dev.poke_wf data { d with mem := { d.mem with poison := p } } a hwfd, ?_⟩
  · rw [← hpeek x]
    exact Dev.poke_get data { d with mem := { d.mem with poison := p } } a x
  · rw [← hsent, Dev.poke_frame]
    rfl

/-- A denied write. -/
theorem memWrite_denied {s : State} {m a claim r : Nat} {data : Bytes} {bad t : Bool} (hq : Quiet s.dev)
    (hwf : Instr.wellFormed (.memWrite m a claim data bad) = true) (hn : data ≠ []) (h : a % 2048 + data.length ≤ 2048) (hm : m ≠ 23)
    (hc : s.dev.checkPage m (a / 4096) .write (claimOf m claim) = .deny r t) :
    Gives (.memWrite m a claim data bad) s fun d => d.mem.cells = s.dev.mem.cells ∧
      ∃ e, d.sent.head? = some (.memAck m a e) ∧ (t = false ∨ posts m = false → e = true) := by
  have hr := routePart_deny (s.dev.qosOf m) hc
  have hop := memWriteOp_none (fab := fabric) (bad := bad) hn h (detached_of_ne hm) (congrArg Prod.fst hr)
  rw [congrArg Prod.snd hr] at hop
  have hcalm : Calm s.dev (memWriteOp fabric m a claim data bad s.dev) := by
    rw [hop]
    exact .trans (denied_undisturbed (fun h => absurd h hm) ..) (send_undisturbed _ _)
  refine ⟨_, exec_memWrite_of_quiet hwf (hcalm.quiet hq), ?_⟩
  rw [hop]
  refine ⟨denied_cells _ _ _ _ _ _ hm, _, rfl, fun h => ?_⟩
  rw [Dev.ackedFirst, hc]
  rcases h with rfl | h
  · simp
  · simp [h]

/-- Settles O33: by the part's verdict and its target. -/
theorem memoryAccessesComplete : Obligations.MemoryAccessesComplete := by
  unfold Obligations.MemoryAccessesComplete
  exact ⟨fun _ _ _ _ _ _ hwf hn h hdet hc h5 h8 hf hp => memRead_allowed hwf hn h hdet hc h5 h8 hf hp,
    fun _ _ _ _ _ _ _ _ hwf hn h hm hc => memRead_denied hwf hn h hm hc,
    fun _ _ _ _ _ _ hwf hn h hm hc ht hq => memRead_undecoded hwf hn h hm hc ht hq,
    fun _ _ _ _ _ hq hwf hmem hn h hdet hc h5 h8 hf => memWrite_allowed hq hwf hmem hn h hdet hc h5 h8 hf,
    fun _ _ _ _ _ _ _ _ hq hwf hn h hm hc => memWrite_denied hq hwf hn h hm hc⟩

end Sys2Proof.Goals
end

section
/-!
PROOF. The upkeep of the memories (13 R337 to R350): the DRAM controller's own work, the scrubbers and the repair of cartouche memory.
-/

namespace Sys2Proof.Goals

open Sys2Proof Sys2Proof.Machine

/-! ### Channels and panics (13 R342) -/

theorem chan_modChan (d : Dev) (n k : Nat) (f : DramCh → DramCh) : (d.modChan n f).chan k = if k = n then f (d.chan n) else d.chan k := smGet_set ..

/-- The counters of the channels leave the memories. -/
theorem each_memStat_mem (d : Dev) (k : Nat) (l : List Nat) : (d.each l fun d c => d.count2 .memStat c k).mem = d.mem :=
  each_keeps (f := fun d c => d.count2 .memStat c k) Dev.mem (fun _ _ => rfl) l d

/-- What was deferred runs on every channel. -/
theorem each_undefer (d : Dev) {c : Nat} (hc : c < 4) :
    ((d.each [0, 1, 2, 3] fun d c => d.modChan c fun x => { x with postponed := 0, zqDeferred := [] }).chan c).postponed = 0 ∧
      ((d.each [0, 1, 2, 3] fun d c => d.modChan c fun x => { x with postponed := 0, zqDeferred := [] }).chan c).zqDeferred = [] := by
  simp only [Dev.each, List.foldl_cons, List.foldl_nil, chan_modChan]
  interval_cases c <;> exact ⟨rfl, rfl⟩

theorem each_undefer_panics (d : Dev) (l : List Nat) :
    (d.each l fun d c => d.modChan c fun x => { x with postponed := 0, zqDeferred := [] }).mem.panics = d.mem.panics :=
  each_keeps (f := fun d c => d.modChan c _) (fun d => d.mem.panics) (fun _ _ => rfl) l d

/-! ### Scrubbing (13 R346, R347) -/

theorem memStat_get {d : Dev} {q : Par} {s c k : Nat} (hq : q.ctorIdx ≠ Par.memStat.ctorIdx) (hs : s < 2 ^ 24) (hc : c < 4) (hk : k < 9) :
    (d.count2 .memStat c k).get q s = d.get q s :=
  get_count_ne hq hs (show c * 9 + k < 2 ^ 24 by omega)

theorem memStat_dramBytes {d : Dev} {c k : Nat} (hc : c < 4) (hk : k < 9) : (d.count2 .memStat c k).dramBytes = d.dramBytes := by
  have h := memStat_get (d := d) (q := .memDramCfg) (s := 0) (by decide) (by decide) hc hk
  rw [Dev.dramBytes, h]
  rfl

theorem markBeat_poisoned (d : Dev) (b : Nat) (p : Bool) : (d.markBeat b p).poisoned b = p := smGet_set_self false d.mem.poison b p

/-- A correctable error in a beat without poison is counted. -/
theorem eccDram_corrected {d : Dev} {c a : Nat} (h : d.poisoned (a / 4 * 4) = false) : d.eccDram c a .corrected = d.count2 .memStat c 0 := by
  unfold Dev.eccDram
  simp [h]

/-- A lasting error marks its beat, and leaves the bytes. -/
theorem eccDram_lasting {d : Dev} {c a : Nat} (h : d.poisoned (a / 4 * 4) = false) :
    (d.eccDram c a .lasting).poisoned (a / 4 * 4) = true ∧ (d.eccDram c a .lasting).mem.cells = d.mem.cells := by
  have hmem : (d.eccDram c a .lasting).mem = (d.markBeat (a / 4 * 4) true).mem := by
    simp only [Dev.eccDram, h, Bool.false_eq_true, if_false]
    exact raise_mem ..
  refine ⟨?_, by rw [hmem]; rfl⟩
  rw [Dev.poisoned, hmem]
  exact markBeat_poisoned ..

/-- The line read is counted as a pass where it is the last one; the memories stay. -/
theorem patrolOp_mem {d : Dev} {a : Nat} {e : EccResult} (h5 : 5 ≤ d.targetOf a) (h8 : d.targetOf a ≤ 8) (hf : (d.chan (d.targetOf a - 5)).faulted = false) :
    (patrolOp a e d).mem = (d.eccDram (d.targetOf a - 5) a e).mem := by
  unfold patrolOp
  dsimp only
  rw [if_neg (by omega), hf]
  simp only [Bool.false_eq_true, if_false]
  split <;> rfl

/-- A line that is not the last one of its channel completes no pass. -/
theorem patrolOp_corrected {d : Dev} {a : Nat} (h5 : 5 ≤ d.targetOf a) (h8 : d.targetOf a ≤ 8) (hf : (d.chan (d.targetOf a - 5)).faulted = false)
    (hp : d.poisoned (a / 4 * 4) = false) (hlast : a / 64 * 64 ≠ dramBase + d.dramBytes - (4 - (d.targetOf a - 5)) * 2048 + 1984) :
    patrolOp a .corrected d = d.count2 .memStat (d.targetOf a - 5) 0 := by
  unfold patrolOp
  dsimp only
  rw [if_neg (by omega), hf]
  simp only [Bool.false_eq_true, if_false]
  rw [eccDram_corrected hp, memStat_dramBytes (by omega) (by decide), if_neg hlast]

/-! ### The statement -/

/-- Settles O34: by the branch that each row takes. -/
theorem memoryUpkeepCompletes : Obligations.MemoryUpkeepCompletes := by
  unfold Obligations.MemoryUpkeepCompletes
  refine ⟨fun s c hot hc ht => ⟨fun hp => ?_, fun hp h4 => ?_⟩, fun s c rank hwf ht => ?_, fun s o ho hp => ?_, fun s o ho hp => ?_,
    fun s c hc ht hb => ⟨?_, ?_⟩, fun s c hc ht hb => ⟨?_, ?_⟩, fun s a hwf h5 h8 hf hp hlast => ?_, fun s a hwf h5 h8 hf hp => ?_,
    fun s a hwf ht hb => ?_, fun s a b hwf ht hb => ?_, fun s a hwf ht => ?_, fun s a hwf hbad => ?_, fun s t hwf ht hst hm hgib hpll => ?_⟩
  · refine to_of (f := refreshOp c) rfl (decide_eq_true hc) ?_
    simp [refreshOp, ht, hp]
  · refine to_of (f := refreshOp c) rfl (decide_eq_true hc) ?_
    simp [refreshOp, ht, hp, h4]
  · refine to_of (f := zqOp c rank) rfl hwf ?_
    simp [zqOp, ht]
  · refine gives_of (f := panicOp o true) rfl (decide_eq_true ho) ?_
    have hmem := each_memStat_mem s.dev 6 [0, 1, 2, 3]
    simp only [panicOp, List.contains_eq_mem, hp, decide_false, Bool.false_eq_true, if_false, if_true, hmem, and_self]
  · refine gives_of (f := panicOp o false) rfl (decide_eq_true ho) ?_
    have hnone : s.dev.mem.panics.filter (· != o) = [] := List.filter_eq_nil_iff.2 fun p h => by simp [hp p h]
    simp only [panicOp, hnone, Bool.false_eq_true, if_false, List.isEmpty_nil, if_true]
    exact ⟨each_undefer_panics .., fun c hc => each_undefer _ hc⟩
  · refine to_of (f := caParityOp c false) rfl (decide_eq_true hc) ?_
    simp [caParityOp, ht, hb]
  · refine to_of (f := caParityOp c true) rfl (decide_eq_true hc) ?_
    simp [caParityOp, ht, hb, Dev.channelFault]
  · refine to_of (f := writeCrcOp c false) rfl (decide_eq_true hc) ?_
    simp [writeCrcOp, ht, hb]
  · refine gives_of (f := writeCrcOp c true) rfl (decide_eq_true hc) ?_
    simp only [writeCrcOp, ht, hb, Dev.channelFault]
    exact ⟨_, Nat.mod_lt _ (by decide), rfl⟩
  · exact to_of (f := patrolOp a .corrected) rfl hwf (patrolOp_corrected h5 h8 hf hp hlast)
  · refine gives_of (f := patrolOp a .lasting) rfl hwf ?_
    rw [Dev.poisoned, patrolOp_mem h5 h8 hf]
    exact eccDram_lasting hp
  · refine gives_of (f := chartScrubOp a .lasting) rfl hwf ?_
    simp only [chartScrubOp, ht, if_true, Dev.eccChart, hb]
    exact ⟨markBeat_poisoned .., rfl⟩
  · refine to_of (f := chartScrubOp a .lasting) rfl hwf ?_
    simp only [chartScrubOp, ht, if_true, Dev.eccChart, hb]
  · refine gives_of (f := cartScrubOp a .lasting) rfl hwf ?_
    simp only [cartScrubOp, ht, if_true, Dev.eccCart, or_true]
    split
    · next h => exact ⟨List.contains_iff_mem.1 h, trivial⟩
    · exact ⟨List.mem_cons_self, trivial⟩
  · refine gives_of (f := cartRepairOp a) rfl hwf ?_
    simp only [cartRepairOp, List.contains_eq_mem, hbad, decide_true, if_true]
    exact ⟨by simp, trivial, trivial⟩
  · refine to_of (f := trainingOp true t) rfl hwf ?_
    have hsome : (dramGibOf (s.dev.get .memDramCfg)).isNone = false := Option.isNone_eq_false_iff.2 (Option.isSome_iff_ne_none.2 hgib)
    simp [trainingOp, ht, hst, hm, hsome, hpll]

end Sys2Proof.Goals
end

section
/-!
PROOF. What telling the sessions leaves, key by key: of the parameter file every copy of every parameter but the counters of sessions and Ethernet
ports, and of an Ethernet port its link and its groups.
-/

namespace Sys2Proof.Goals

open Sys2Proof Sys2Proof.Machine

/-! ### Parameters by their keys -/

/-- Both copies of every parameter that is not in the list read as before. -/
def KeysKept (cs : List Nat) (d e : Dev) : Prop := ∀ (x k : Nat), k / 2 ^ 25 ∉ cs → smGet x e.regs k = smGet x d.regs k

theorem key_div {p : Par} {s : Nat} (b : Bool) (hs : s < 2 ^ 24) : p.key s b / 2 ^ 25 = p.ctorIdx := by
  cases b <;> simp only [Par.key, Bool.toNat_false, Bool.toNat_true] <;> omega

namespace KeysKept

variable {cs : List Nat}

theorem of_regs {d e : Dev} (h : e.regs = d.regs) : KeysKept cs d e := fun _ _ _ => by rw [h]

theorem refl (d : Dev) : KeysKept cs d d := of_regs rfl

theorem trans {a b c : Dev} (h : KeysKept cs a b) (h' : KeysKept cs b c) : KeysKept cs a c := fun x k hk => (h' x k hk).trans (h x k hk)

theorem get {d e : Dev} (h : KeysKept cs d e) {p : Par} {s : Nat} (hp : p.ctorIdx ∉ cs) (hs : s < 2 ^ 24) : e.get p s = d.get p s :=
  h _ _ (by rw [key_div false hs]; exact hp)

theorem getF {d e : Dev} (h : KeysKept cs d e) {p : Par} {s : Nat} (hp : p.ctorIdx ∉ cs) (hs : s < 2 ^ 24) : e.getF p s = d.getF p s :=
  h _ _ (by rw [key_div _ hs]; exact hp)

theorem put (d : Dev) {q : Par} {t : Nat} (v : Nat) (hq : q.ctorIdx ∈ cs) (ht : t < 2 ^ 24) : KeysKept cs d (d.put q t v) := fun x k hk => by
  have hne : k ≠ q.key t false := fun heq => hk (by rw [heq, key_div false ht]; exact hq)
  exact smGet_set_ne x _ _ _ hne

theorem putF (d : Dev) {q : Par} {t : Nat} (v : Nat) (hq : q.ctorIdx ∈ cs) (ht : t < 2 ^ 24) : KeysKept cs d (d.putF q t v) := fun x k hk => by
  have hne : k ≠ q.key t q.info.shadow := fun heq => hk (by rw [heq, key_div _ ht]; exact hq)
  exact smGet_set_ne x _ _ _ hne

theorem when {d : Dev} {b : Bool} {f : Dev → Dev} (h : KeysKept cs d (f d)) : KeysKept cs d (d.when b f) := by
  cases b
  · exact refl d
  · exact h

theorem each {α : Type} {f : Dev → α → Dev} {l : List α} (h : ∀ d, ∀ a ∈ l, KeysKept cs d (f d a)) (d : Dev) : KeysKept cs d (d.each l f) := by
  unfold Dev.each
  induction l generalizing d with
  | nil => exact refl d
  | cons a l ih => exact (h d a List.mem_cons_self).trans (ih (fun d b hb => h d b (List.mem_cons_of_mem a hb)) _)

end KeysKept

/-! ### Telling (10 R257, R286; 14 R371 to R373) -/

/-- The counters by which telling counts. -/
def tellCounters : List Nat := [Par.sesStat.ctorIdx, Par.lnkEthStat.ctorIdx]

/-- Telling leaves every parameter but its counters, and of every port the link and the groups. -/
structure Told (d e : Dev) : Prop where
  keys : KeysKept tellCounters d e
  up : ∀ q, (e.eth q).up = (d.eth q).up
  groups : ∀ q, (e.eth q).groups = (d.eth q).groups
  repeats : ∀ q, (e.eth q).groupRepeat = (d.eth q).groupRepeat

namespace Told

theorem of_same {d e : Dev} (hr : e.regs = d.regs) (he : e.eths = d.eths) : Told d e :=
  ⟨.of_regs hr, fun q => by rw [Dev.eth, Dev.eth, he], fun q => by rw [Dev.eth, Dev.eth, he], fun q => by rw [Dev.eth, Dev.eth, he]⟩

theorem refl (d : Dev) : Told d d := of_same rfl rfl

theorem trans {a b c : Dev} (h : Told a b) (h' : Told b c) : Told a c :=
  ⟨h.keys.trans h'.keys, fun q => (h'.up q).trans (h.up q), fun q => (h'.groups q).trans (h.groups q), fun q => (h'.repeats q).trans (h.repeats q)⟩

/-- What comes before and leaves parameters and ports may be left out. -/
theorem after {a b c : Dev} (h : Told b c) (hr : b.regs = a.regs) (he : b.eths = a.eths) : Told a c := (of_same hr he).trans h

theorem modEth (d : Dev) (p : Nat) {f : EthPort → EthPort} (hf : ∀ e, (f e).up = e.up ∧ (f e).groups = e.groups ∧ (f e).groupRepeat = e.groupRepeat) :
    Told d (d.modEth p f) := by
  have h : ∀ q, (d.modEth p f).eth q = d.eth q ∨ (d.modEth p f).eth q = f (d.eth q) := fun q => by
    rw [eth_modEth]
    split
    · next heq => exact .inr (by rw [heq])
    · exact .inl rfl
  refine ⟨.of_regs rfl, fun q => ?_, fun q => ?_, fun q => ?_⟩ <;> rcases h q with h | h <;> rw [h]
  · exact (hf _).1
  · exact (hf _).2.1
  · exact (hf _).2.2

theorem sesCount (d : Dev) (port : Nat) {k : Nat} (hk : k < 10) : Told d (d.sesCount port k) := by
  unfold Dev.sesCount Dev.when
  split
  · next hport =>
    have := of_decide_eq_true hport
    exact ⟨.put d _ (by decide) (show port * 10 + k < 2 ^ 24 by omega), fun _ => rfl, fun _ => rfl, fun _ => rfl⟩
  · exact refl d

theorem ethStat (d : Dev) {port k : Nat} (n : Nat) (hport : port < 8) (hk : k < 7) : Told d (d.count2 .lnkEthStat port k n) :=
  ⟨.put d _ (by decide) (show port * 7 + k < 2 ^ 24 by omega), fun _ => rfl, fun _ => rfl, fun _ => rfl⟩

theorem ethTx (d : Dev) {port : Nat} (hport : port < 8) (prio : Nat) (o : Out) : Told d (d.ethTx port prio o) := by
  unfold Dev.ethTx
  split
  · exact (ethStat _ 1 hport (show 1 < 7 by omega)).after rfl rfl
  · exact modEth d port fun _ => ⟨rfl, rfl, rfl⟩

theorem roomForOne_same (e : EthPort) : e.roomForOne.up = e.up ∧ e.roomForOne.groups = e.groups ∧ e.roomForOne.groupRepeat = e.groupRepeat := by
  unfold EthPort.roomForOne
  split
  · exact ⟨rfl, rfl, rfl⟩
  · split <;> exact ⟨rfl, rfl, rfl⟩

theorem ipTx (d : Dev) {port : Nat} (hport : port < 8) (v6 : Bool) (dst prio : Nat) (o : Out) : Told d (d.ipTx port v6 dst prio o) := by
  unfold Dev.ipTx
  generalize (if v6 then bits dst 127 120 == 0xFF else bits dst 31 28 == 0xE) = toGroup
  dsimp only
  split
  · exact ethTx d hport prio o
  split
  · exact ethStat d 1 hport (by omega)
  split
  · exact ethTx d hport prio o
  split
  · exact modEth d port fun _ => ⟨rfl, rfl, rfl⟩
  · refine .trans ?_ (ethTx _ hport 0 _)
    exact modEth d port roomForOne_same

theorem signal (d : Dev) (ep v : Nat) : Told d (d.signal ep v) := by
  unfold Dev.signal
  split <;> exact of_same rfl rfl

theorem sendEvent (d : Dev) (s : Session) (no : Nat) (e : Event) : Told d (d.sendEvent s no e) := by
  unfold Dev.sendEvent
  refine (sesCount d s.port (show 8 < 10 by omega)).trans ?_
  dsimp only
  split
  · split
    · exact ipTx _ (Nat.mod_lt _ (by decide)) ..
    · exact of_same rfl rfl
  · exact (signal ..).after rfl rfl

theorem postEvent (d : Dev) (port : Nat) (e : Event) : Told d (d.postEvent port e) := by
  unfold Dev.postEvent
  split
  · exact refl d
  split
  · exact refl d
  dsimp only
  split
  · exact (sendEvent ..).after rfl rfl
  split
  · exact of_same rfl rfl
  · exact (sesCount _ port (show 9 < 10 by omega)).after rfl rfl

theorem raise (d : Dev) (rcpt : Session → Bool) (e : Event) : Told d (d.raise rcpt e) := by
  unfold Dev.raise Dev.each
  dsimp only
  generalize List.map _ _ = l
  generalize (Event.mk ..) = e
  induction l generalizing d with
  | nil => exact refl d
  | cons p l ih => exact (postEvent d p e).trans (ih _)

end Told

end Sys2Proof.Goals
end

section
/-!
PROOF. The external links: Ethernet ports and the DisplayPort links of the outputs (14 R371 to R374, R393, R394, R397; 04 R106).
-/

namespace Sys2Proof.Goals

open Sys2Proof Sys2Proof.Machine

/-! ### Ethernet ports (14 R371 to R374) -/

theorem eth_of_eths {d e : Dev} (h : e.eths = d.eths) (q : Nat) : e.eth q = d.eth q := by rw [Dev.eth, h, Dev.eth]

theorem dp_of_dps {d e : Dev} (h : e.dps = d.dps) (o : Nat) : e.dp o = d.dp o := by rw [Dev.dp, h, Dev.dp]

theorem linkEvent_told (d : Dev) (link rate lanes : Nat) (on : Bool) : Told d (d.linkEvent link rate lanes on) := Told.raise d _ _

theorem linkEvent_tim (d : Dev) (link rate lanes : Nat) (on : Bool) : (d.linkEvent link rate lanes on).tim = d.tim := by
  unfold Dev.linkEvent
  simp

theorem Told.when {d : Dev} {b : Bool} {f : Dev → Dev} (h : Told d (f d)) : Told d (d.when b f) := by
  cases b
  · exact .refl d
  · exact h

/-- Beyond marking the port, a link that goes down is counted and told. -/
theorem ethLinkDown_told {d : Dev} {p : Nat} (hp : p < 8) (hup : (d.eth p).up = true) :
    Told (d.modEth p fun e => { e with up := false }) (ethLinkDownOp p d) := by
  simp only [ethLinkDownOp, hup, Bool.not_true, Bool.false_eq_true, if_false]
  refine (Told.ethStat _ 1 hp (show 6 < 7 by omega)).trans (.trans ?_ (linkEvent_told _ _ _ _ _))
  exact Told.when (Told.of_same rfl rfl)

theorem ethLinkDown_eth {d : Dev} {p : Nat} (hp : p < 8) (hup : (d.eth p).up = true) :
    ((ethLinkDownOp p d).eth p).up = false ∧ ∀ q, q ≠ p → ((ethLinkDownOp p d).eth q).up = (d.eth q).up :=
  ⟨by rw [(ethLinkDown_told hp hup).up, eth_modEth, if_pos rfl], fun q hq => by rw [(ethLinkDown_told hp hup).up, eth_modEth, if_neg hq]⟩

theorem ethLinkDown_slavePort {d : Dev} {p : Nat} (hup : (d.eth p).up = true) (hs : d.tim.slavePort = p) :
    (ethLinkDownOp p d).tim.slavePort = 0xF := by
  have hc : ((d.modEth p fun e => { e with up := false }).count2 .lnkEthStat p 6).tim.slavePort = p := hs
  simp only [ethLinkDownOp, hup, Bool.not_true, Bool.false_eq_true, if_false, linkEvent_tim, hc, beq_self_eq_true]
  rfl

/-- On a port whose link is up a frame leaves at once: nothing of the ports changes. -/
theorem ethTx_up {d : Dev} {p : Nat} (hup : (d.eth p).up = true) (prio : Nat) (o : Out) :
    d.ethTx p prio o = (d.send (d.onEth p o)).count2 .lnkEthStat p 1 := if_pos hup

/-- A device as it is while frames leave by a port whose link is up: the ports stand, and what was sent stays sent. -/
structure Leaving (d e : Dev) : Prop where
  eths : e.eths = d.eths
  sent : ∀ o ∈ d.sent, o ∈ e.sent

theorem Leaving.each {α : Type} {f : Dev → α → Dev} {ok : Dev → Prop} (hok : ∀ d e, Leaving d e → ok d → ok e)
    (hf : ∀ d a, ok d → Leaving d (f d a)) (l : List α) {d : Dev} (hd : ok d) : Leaving d (d.each l f) ∧ ok (d.each l f) := by
  unfold Dev.each
  induction l generalizing d with
  | nil => exact ⟨⟨rfl, fun _ h => h⟩, hd⟩
  | cons a l ih =>
    have h := hf d a hd
    obtain ⟨h', hd'⟩ := ih (hok _ _ h hd)
    exact ⟨⟨h'.eths.trans h.eths, fun o ho => h'.sent o (h.sent o ho)⟩, hd'⟩

/-- The link of a port is up. -/
def PortUp (p : Nat) (d : Dev) : Prop := (d.eth p).up = true

theorem PortUp.leaving {p : Nat} (d e : Dev) (h : Leaving d e) (hd : PortUp p d) : PortUp p e := by
  rwa [PortUp, Dev.eth, h.eths]

theorem ethTx_leaving {p : Nat} (d : Dev) (prio : Nat) (o : Out) (hup : PortUp p d) : Leaving d (d.ethTx p prio o) := by
  rw [ethTx_up hup]
  exact ⟨rfl, fun _ h => List.mem_cons_of_mem _ h⟩

theorem groupTx_leaving {p : Nat} (d : Dev) (g : Nat) (hup : PortUp p d) : Leaving d (d.groupTx p g true) := by
  have h : d.groupTx p g true = d.ethTx p 0 (.membership p g true) := if_pos hup
  rw [h]
  exact ethTx_leaving d 0 _ hup

/-- A report for each group that a port has joined leaves by it. -/
theorem groupsTx_sent {p : Nat} (l : List Nat) {d : Dev} (hup : PortUp p d) :
    ∀ g ∈ l, ∃ tag dscp, Out.onEth p tag dscp (.membership p g true) ∈ (d.each l fun d g => d.groupTx p g true).sent := by
  induction l generalizing d with
  | nil => nofun
  | cons a l ih =>
    have h := groupTx_leaving d a hup
    intro g hg
    rcases List.mem_cons.mp hg with rfl | hg
    · have hs : d.groupTx p g true = (d.send (d.onEth p (.membership p g true))).count2 .lnkEthStat p 1 := (if_pos hup).trans (ethTx_up hup _ _)
      refine ⟨_, _, (Leaving.each PortUp.leaving (fun d g => groupTx_leaving d g) l (PortUp.leaving _ _ h hup)).1.sent
        (d.onEth p (.membership p g true)) ?_⟩
      rw [hs]
      exact List.mem_cons_self
    · exact ih (PortUp.leaving _ _ h hup) g hg

theorem ethDrain_eth {p : Nat} {d : Dev} (hup : PortUp p d) : (d.ethDrain p).eth p = { d.eth p with tx := [] } := by
  have hup' : PortUp p (d.modEth p fun e => { e with tx := [] }) := by rw [PortUp, eth_modEth, if_pos rfl]; exact hup
  have h := (Leaving.each PortUp.leaving (fun d (f : Nat × Out) => ethTx_leaving d f.1 f.2) (sortOn (·.1) (d.eth p).tx) hup').1.eths
  calc (d.ethDrain p).eth p = (d.modEth p fun e => { e with tx := [] }).eth p := eth_of_eths h p
    _ = _ := by rw [eth_modEth, if_pos rfl]

/-- A link that comes up sends what waited, and a report for each of the port's groups. -/
theorem ethLinkUp_eth {d : Dev} {p : Nat} (hen : d.flag .lnkEthCfg p 63 = true) (hdown : (d.eth p).up = false) (hin : d.inService (0x10 + p) = true) :
    ((ethLinkUpOp p d).eth p).up = true ∧ ((ethLinkUpOp p d).eth p).tx = [] ∧ ((ethLinkUpOp p d).eth p).groupRepeat = (d.eth p).groups ∧
      ∀ g ∈ (d.eth p).groups, ∃ tag dscp, Out.onEth p tag dscp (.membership p g true) ∈ (ethLinkUpOp p d).sent := by
  simp only [ethLinkUpOp, hen, hdown, hin, Bool.not_true, Bool.or_self, Bool.false_eq_true, if_false]
  have ht := linkEvent_told (d.modEth p fun e => { e with up := true, groupRepeat := e.groups }) p
    ((d.modEth p fun e => { e with up := true, groupRepeat := e.groups }).fld .lnkEthCfg p 62 62) 1 true
  generalize Dev.linkEvent _ _ _ _ _ = u at ht ⊢
  have hup : PortUp p u := by rw [PortUp, ht.up, eth_modEth, if_pos rfl]
  have hg : (u.eth p).groups = (d.eth p).groups := by rw [ht.groups, eth_modEth, if_pos rfl]
  have hr : (u.eth p).groupRepeat = (d.eth p).groups := by rw [ht.repeats, eth_modEth, if_pos rfl]
  have hd := ethDrain_eth hup
  have hup' : PortUp p (u.ethDrain p) := by rw [PortUp, hd]; exact hup
  have he : ((u.ethDrain p).each (u.eth p).groups fun d g => d.groupTx p g true).eth p = { u.eth p with tx := [] } := by
    rw [← hd]
    exact eth_of_eths (Leaving.each PortUp.leaving (fun d g => groupTx_leaving d g) (u.eth p).groups hup').1.eths p
  rw [he]
  refine ⟨hup, rfl, hr, fun g hmem => ?_⟩
  rw [← hg] at hmem
  exact groupsTx_sent _ hup' g hmem

/-- A neighbour's request that is not the last is sent again (14 R372). -/
theorem arpRetry_again {d : Dev} {p ip : Nat} (hup : (d.eth p).up = true) (hmac : ((d.eth p).entry ip).mac = none)
    (h0 : 0 < ((d.eth p).entry ip).attempts) (h3 : ((d.eth p).entry ip).attempts < 3) :
    arpRetryOp p ip d = ((d.modEth p fun e => { e with neigh := smSet {} e.neigh ip { (d.eth p).entry ip with
      attempts := ((d.eth p).entry ip).attempts + 1 } }).send (d.onEth p (.neighbourRequest p ip))).count2 .lnkEthStat p 1 := by
  have h : ¬ (((d.eth p).entry ip).attempts = 0 ∨ ((d.eth p).entry ip).mac.isSome) := by rw [hmac]; simp; omega
  simp only [arpRetryOp, if_neg h, if_pos h3]
  refine ethTx_up (by rw [eth_modEth, if_pos rfl]; exact hup) 0 _

theorem arpRetry_last {d : Dev} {p ip : Nat} (hmac : ((d.eth p).entry ip).mac = none) (h3 : 3 ≤ ((d.eth p).entry ip).attempts) :
    arpRetryOp p ip d = (d.modEth p fun e => { e with neigh := smErase e.neigh ip }).count2 .lnkEthStat p 3 ((d.eth p).entry ip).waiting.length := by
  have h : ¬ (((d.eth p).entry ip).attempts = 0 ∨ ((d.eth p).entry ip).mac.isSome) := by rw [hmac]; simp; omega
  simp only [arpRetryOp, if_neg h, if_neg (show ¬ ((d.eth p).entry ip).attempts < 3 by omega)]

/-! ### DisplayPort outputs (14 R392 to R394) -/

theorem linkEvent_dps (d : Dev) (link rate lanes : Nat) (on : Bool) : (d.linkEvent link rate lanes on).dps = d.dps := by
  unfold Dev.linkEvent
  simp

theorem dpDown_told (d : Dev) (o : Nat) : Told d (d.dpDown o) := by
  refine Told.after ?_ (b := d.setDp o { d.dp o with up := false, training := false }) rfl rfl
  unfold Dev.dpDown
  dsimp only
  cases (d.dp o).up
  · exact Told.refl _
  · exact linkEvent_told _ _ _ _ _

theorem dpDown_dp (d : Dev) (o : Nat) : (d.dpDown o).dp o = { d.dp o with up := false, training := false } := by
  have h : (d.dpDown o).dps = (d.setDp o { d.dp o with up := false, training := false }).dps := by
    unfold Dev.dpDown
    dsimp only
    cases (d.dp o).up
    · rfl
    · exact linkEvent_dps _ _ _ _ _
  calc (d.dpDown o).dp o = (d.setDp o { d.dp o with up := false, training := false }).dp o := dp_of_dps h o
    _ = _ := by rw [dp_setDp, if_pos rfl]

/-- An output whose HPD is asserted trains where its link is enabled. -/
theorem dpTrain_dp {d : Dev} {o : Nat} (ho : o < 8) (hhpd : (d.dp o).hpd = true) :
    (d.dpTrain o).dp o = { d.dp o with up := false, training := d.flagF .lnkDpCfg o 63 } := by
  have hf : (d.dpDown o).flagF .lnkDpCfg o 63 = d.flagF .lnkDpCfg o 63 :=
    congrArg (bit · 63) ((dpDown_told d o).keys.getF (p := .lnkDpCfg) (by decide) (by omega))
  have hh : ((d.dpDown o).dp o).hpd = true := by rw [dpDown_dp]; exact hhpd
  simp only [Dev.dpTrain, hf, hh, Bool.and_true]
  cases d.flagF .lnkDpCfg o 63
  · exact dpDown_dp d o
  · simp only [if_true, dp_modDp, dpDown_dp]

/-- The device once the sink's EDID stands in its parameter. -/
def edidRead (d : Dev) (o : Nat) (edid : Bytes) : Dev :=
  d.each (List.range 1024) fun d i => d.put .lnkDpEdid (1024 * o + i) (edid.getD i 0).toNat

theorem edidRead_keys (d : Dev) {o : Nat} (ho : o < 8) (edid : Bytes) : KeysKept [Par.lnkDpEdid.ctorIdx] d (edidRead d o edid) := by
  unfold edidRead
  refine .each (fun d i hi => .put d _ (by decide) ?_) d
  have := List.mem_range.mp hi
  omega

/-- An output whose HPD asserts trains where its link is enabled. -/
theorem dpAsserted_dp {d e : Dev} (hk : KeysKept [Par.lnkDpEdid.ctorIdx] d e) {o : Nat} (ho : o < 8) :
    (((e.modDp o fun l => { l with hpd := true }).dpTrain o).dp o).hpd = true ∧ (((e.modDp o fun l => { l with hpd := true }).dpTrain o).dp o).up = false ∧
      (((e.modDp o fun l => { l with hpd := true }).dpTrain o).dp o).training = d.flagF .lnkDpCfg o 63 := by
  have hf : (e.modDp o fun l => { l with hpd := true }).flagF .lnkDpCfg o 63 = d.flagF .lnkDpCfg o 63 :=
    congrArg (bit · 63) (hk.getF (p := .lnkDpCfg) (by decide) (by omega))
  have hh : ((e.modDp o fun l => { l with hpd := true }).dp o).hpd = true := by rw [dp_modDp, if_pos rfl]
  rw [dpTrain_dp ho hh]
  exact ⟨hh, rfl, hf⟩

theorem dpHpdAssertOp_eq (d : Dev) (o : Nat) (edid : Bytes) :
    dpHpdAssertOp o edid d = ((edidRead d o edid).modDp o fun l => { l with hpd := true }).dpTrain o := rfl

theorem dpHpdAssert_dp (d : Dev) {o : Nat} (ho : o < 8) (edid : Bytes) :
    ((dpHpdAssertOp o edid d).dp o).hpd = true ∧ ((dpHpdAssertOp o edid d).dp o).up = false ∧
      ((dpHpdAssertOp o edid d).dp o).training = d.flagF .lnkDpCfg o 63 := by
  rw [dpHpdAssertOp_eq]
  exact dpAsserted_dp (edidRead_keys d ho edid) ho

/-- Settles O41. -/
theorem portLinksComplete : Obligations.PortLinksComplete := by
  unfold Obligations.PortLinksComplete
  refine ⟨fun s p hp hup => gives_of (f := ethLinkDownOp p) rfl (decide_eq_true hp) ?_,
    fun s p hp hen hdown hin => gives_of (f := ethLinkUpOp p) rfl (decide_eq_true hp) (ethLinkUp_eth hen hdown hin),
    fun s p ip hp hup hmac => ⟨fun h0 h3 => to_of (f := arpRetryOp p ip) rfl (decide_eq_true hp) (arpRetry_again hup hmac h0 h3),
      fun h3 => to_of (f := arpRetryOp p ip) rfl (decide_eq_true hp) (arpRetry_last hmac h3)⟩,
    fun s p ip m hwf hmac => to_of (f := neighborAgeOp p ip) rfl hwf (if_pos (by rw [hmac]; rfl)),
    fun s p f q hp htx => to_of (f := ethTxTimeoutOp p) rfl (decide_eq_true hp) (by rw [ethTxTimeoutOp, htx]),
    fun s o edid ho => gives_of (f := dpHpdAssertOp o edid) rfl (decide_eq_true ho) (dpHpdAssert_dp _ ho edid),
    fun s o ho hhpd => ⟨to_of (f := dpHpdIrqOp o true) rfl (decide_eq_true ho) (if_pos (by rw [hhpd]; rfl)),
      to_of (f := dpHpdIrqOp o false) rfl (decide_eq_true ho) rfl,
      fun hup htr => to_of (f := dpRetryOp o) rfl (decide_eq_true ho) (if_neg (by rw [hup, htr]; decide))⟩,
    fun s o ho => to_of (f := dpHpdDeassertOp o) rfl (decide_eq_true ho) rfl,
    fun s o r l ho htr => ⟨fun hmay => to_of (f := dpTrainingDoneOp o (some r) (some l)) rfl (decide_eq_true ho) ?_,
      to_of (f := dpTrainingDoneOp o none none) rfl (decide_eq_true ho) ?_⟩,
    fun s i hwf => to_of (f := fun d => d) rfl hwf rfl⟩
  · exact ⟨(ethLinkDown_eth hp hup).1, (ethLinkDown_eth hp hup).2, ethLinkDown_slavePort hup⟩
  · simp only [dpTrainingDoneOp, htr, hmay, Bool.not_true, Bool.false_eq_true, if_false, if_true]
  · simp only [dpTrainingDoneOp, htr, Bool.not_true, Bool.false_eq_true, if_false]

end Sys2Proof.Goals
end

section
/-!
PROOF. The Mindanko link layer, where each happening takes effect (14 R383, R385 to R388).
-/

namespace Sys2Proof.Goals

open Sys2Proof Sys2Proof.Machine

/-! ### A change of the ports (15 R400) -/

/-- The two ports are linked. -/
def BothLinked (d : Dev) : Prop := ∀ q < 2, (d.mdk q).linked = true

/-- The ports stand in the same states. -/
def SameStates (d e : Dev) : Prop := ∀ q, (e.mdk q).st = (d.mdk q).st

theorem SameStates.linked {d e : Dev} (h : SameStates d e) (hd : BothLinked d) : BothLinked e := fun q hq => by
  have := hd q hq
  rwa [Mdk.linked, ← h q] at this

theorem withPorts_linked {d e : Dev} {f : Dev → Dev} (hf : f d = e) (he : BothLinked e) :
    d.withPorts f = e.when (([0, 1].map fun p => (e.mdk p).st) != [0, 1].map fun p => (d.mdk p).st) discoverSendOp := by
  have hcut : e.each [0, 1] (fun d p => if (d.mdk p).linked then d else d.cutLink p) = e := by
    simp only [Dev.each, List.foldl_cons, List.foldl_nil, he 0 (by decide), he 1 (by decide), if_true]
  simp only [Dev.withPorts, hf, hcut]

/-- Where two linked ports stay in their states, a happening has its own effect alone. -/
theorem withPorts_same {d e : Dev} {f : Dev → Dev} (hd : BothLinked d) (hf : f d = e) (hs : SameStates d e) : d.withPorts f = e := by
  rw [withPorts_linked hf (hs.linked hd), List.map_cons, List.map_cons, List.map_nil, hs 0, hs 1]
  simp [Dev.when]

/-- A device in no chain sends no DISCOVER. -/
theorem withPorts_alone {d e : Dev} {f : Dev → Dev} (hf : f d = e) (he : BothLinked e) (hr : e.chain.role = 0) : d.withPorts f = e := by
  have h : discoverSendOp e = e := if_pos hr
  rw [withPorts_linked hf he, Dev.when, h, ite_self]

theorem SameStates.setMdk (d : Dev) (p : Nat) {m : Mdk} (h : m.st = (d.mdk p).st) : SameStates d (d.setMdk p m) := fun q => by
  rw [mdk_setMdk]
  split
  · next hq => rw [h, hq]
  · rfl

theorem SameStates.of_mdks {d e : Dev} (h : e.mdks = d.mdks) : SameStates d e := fun q => by rw [Dev.mdk, h, Dev.mdk]

theorem SameStates.trans {a b c : Dev} (h : SameStates a b) (h' : SameStates b c) : SameStates a c := fun q => (h' q).trans (h q)

/-! ### The transfers of a port (14 R385) -/

/-- The port that has counted what arrived. -/
def heard (d : Dev) (p k : Nat) : Dev := (d.modMdk p fun m => { m with eidleSent := false, eidleRcvd := false }).mdkCount p k

theorem mdkFrameOp_taken {d : Dev} {p : Nat} {f : MdkFrame} (hl : (d.mdk p).linked = true) (hok : f.ok = true) (hroom : f.room = true)
    (hseq : f.seq % 65536 = (d.mdk p).expect) (hack : (d.mdk p).sinceAck < 7) :
    mdkFrameOp p f d = (heard d p 1).modMdk p fun m => { m with expect := (m.expect + 1) % 65536, sinceAck := m.sinceAck + 1, ackDue := true, nakOut := false } := by
  simp only [mdkFrameOp, if_neg (not_test_of_linked hl), hl, hok, hroom, hseq, Bool.not_true, Bool.false_eq_true, if_false, if_true,
    show ¬ 7 ≤ (d.mdk p).sinceAck by omega, decide_false]
  rfl

theorem mdkFrameOp_bad {d : Dev} {p : Nat} {f : MdkFrame} (hl : (d.mdk p).linked = true) (hok : f.ok = false) (hnak : (d.mdk p).nakOut = false) :
    mdkFrameOp p f d = (heard d p 2).mdkNak p := by
  simp only [mdkFrameOp, if_neg (not_test_of_linked hl), hl, hok, hnak, Bool.not_true, Bool.not_false, Bool.false_and, Bool.false_eq_true, if_false, if_true]
  rfl

theorem heard_same (d : Dev) (p k : Nat) : SameStates d (heard d p k) := .setMdk d p rfl

theorem mdkNak_same (d : Dev) (p : Nat) : SameStates d (d.mdkNak p) := .setMdk d p rfl

/-- An ACK that finds nothing waiting releases the frames it covers. -/
theorem mdkLinkctlOp_ack {d : Dev} {p : Nat} (seq : Nat) (hl : (d.mdk p).linked = true) (hw : (d.mdk p).waiting = []) :
    mdkLinkctlOp p true seq d = d.setMdk p { d.mdk p with
      replay := (d.mdk p).replay.filter fun f => serialGt 16 f.1 seq
      resends := if ((d.mdk p).replay.filter fun f => serialGt 16 f.1 seq).length < (d.mdk p).replay.length then 0 else (d.mdk p).resends } := by
  simp only [mdkLinkctlOp, hl, Bool.not_true, Bool.false_and, Bool.false_eq_true, if_false, if_true]
  refine if_pos ?_
  simp [hw]

theorem each_send_sent {α : Type} (g : α → Out) (l : List α) (d : Dev) : (d.each l fun d a => d.send (g a)).sent = (l.map g).reverse ++ d.sent := by
  unfold Dev.each
  induction l generalizing d with
  | nil => rfl
  | cons a l ih =>
    rw [List.foldl_cons, ih, List.map_cons, List.reverse_cons, List.append_assoc]
    rfl

/-- A resend sends every frame from the one named on, in their order. -/
theorem mdkResend_sends {d : Dev} {p seq : Nat} (hmem : ((d.mdk p).replay.any (·.1 == seq)) = true) (hr : (d.mdk p).resends < 4) :
    d.mdkResend p seq = (((d.setMdk p { d.mdk p with resends := (d.mdk p).resends + 1, eidleSent := false, eidleRcvd := false }).each
      ((d.mdk p).from_ seq) fun d f => d.send (.mdk p mkFrame f.1 (u8 f.2.1 ++ f.2.2))).mdkCount p 4 ((d.mdk p).from_ seq).length) := by
  simp only [Dev.mdkResend, hmem, Bool.not_true, Bool.false_eq_true, if_false, if_neg (show ¬ 4 ≤ (d.mdk p).resends by omega)]

theorem mdkReplayTimeoutOp_sends {d : Dev} {p : Nat} {f : Nat × Nat × Bytes} {l : List (Nat × Nat × Bytes)} (hrep : (d.mdk p).replay = f :: l)
    (hst : (d.mdk p).st = .active) (hr : (d.mdk p).resends < 4) :
    SameStates d (mdkReplayTimeoutOp p d) ∧ ((mdkReplayTimeoutOp p d).mdk p).replay = (d.mdk p).replay ∧
      ((mdkReplayTimeoutOp p d).mdk p).resends = (d.mdk p).resends + 1 ∧
      (mdkReplayTimeoutOp p d).sent = (((d.mdk p).from_ f.1).map fun x => Out.mdk p 0 x.1 (u8 x.2.1 ++ x.2.2)).reverse ++ d.sent := by
  have h : mdkReplayTimeoutOp p d = d.mdkResend p f.1 := by simp only [mdkReplayTimeoutOp, hrep, hst, if_true]
  rw [h, mdkResend_sends (by simp [hrep]) hr]
  refine ⟨fun q => ?_, by simp, by simp, each_send_sent _ _ _⟩
  by_cases hq : q = p <;> simp [hq]

/-! ### IDLE (14 R387) -/

/-- A port that passes between ACTIVE and IDLE stays linked: its state changes, and at most a counter. -/
theorem mdkEnter_linked {d : Dev} {p : Nat} {st : MdkSt} (hl : (d.mdk p).linked = true) (hst : st = .active ∨ st = .idle) :
    (d.mdkEnter p st).sent = d.sent ∧ (d.mdkEnter p st).chain = d.chain ∧
      ∀ q, (d.mdkEnter p st).mdk q = if q = p then { d.mdk p with st, eidleSent := false, eidleRcvd := false, commas := false } else d.mdk q := by
  have hcount : ∀ (e : Dev) (b : Bool) (k : Nat), (e.when b fun d => d.mdkCount p k).sent = e.sent ∧
      (e.when b fun d => d.mdkCount p k).chain = e.chain ∧ (e.when b fun d => d.mdkCount p k).mdks = e.mdks := fun e b k => by
    cases b <;> exact ⟨rfl, rfl, rfl⟩
  have hl' : ({ d.mdk p with st, eidleSent := false, eidleRcvd := false, commas := false } : Mdk).linked = true := by
    rcases hst with rfl | rfl <;> rfl
  have hkeep : (st = .active || st = .idle || st = .recovery) = true := by rcases hst with rfl | rfl <;> rfl
  simp only [Dev.mdkEnter, hkeep, if_true, hl, hl', beq_self_eq_true]
  refine ⟨((hcount _ _ 6).1).trans (hcount _ _ 5).1, ((hcount _ _ 6).2.1).trans (hcount _ _ 5).2.1, fun q => ?_⟩
  rw [Dev.mdk, ((hcount _ _ 6).2.2), (hcount _ _ 5).2.2]
  exact mdk_setMdk d p q _

theorem mdkEnter_bothLinked {d : Dev} {p : Nat} {st : MdkSt} (hd : BothLinked d) (hp : p < 2) (hst : st = .active ∨ st = .idle) :
    BothLinked (d.mdkEnter p st) := fun q hq => by
  rw [(mdkEnter_linked (hd p hp) hst).2.2 q]
  split
  · rcases hst with rfl | rfl <;> rfl
  · exact hd q hq

theorem mdkBurst_idle {d : Dev} {p : Nat} (hst : (d.mdk p).st = .idle) (hw : (d.mdk p).waiting = []) :
    d.mdkBurst p = (d.mdkEnter p .active).send (.mdk p mkBurst 0 []) := by
  have hl : (d.mdk p).linked = true := by simp [Mdk.linked, hst]
  have hwait : (((d.mdkEnter p .active).send (.mdk p mkBurst 0 [])).mdk p).waiting = [] := by
    rw [mdk_send, (mdkEnter_linked hl (.inl rfl)).2.2 p, if_pos rfl]
    exact hw
  rw [Dev.mdkBurst, if_pos hst]
  refine if_pos ?_
  rw [hwait]
  rfl

/-- Two devices on which a change of the ports begins alike answer alike. -/
theorem withPorts_congr {d : Dev} {f g : Dev → Dev} (h : f d = g d) : d.withPorts f = d.withPorts g := by
  simp only [Dev.withPorts, h]

section LinkedPorts

variable {s : State} {p : Nat} (hp : p < 2) (hd : BothLinked s.dev)

include hp hd

theorem mdkFrameRx_taken {f : MdkFrame} (hok : f.ok = true) (hroom : f.room = true) (hseq : f.seq % 65536 = (s.dev.mdk p).expect)
    (hack : (s.dev.mdk p).sinceAck < 7) :
    Gives (.mdkFrameRx p f) s fun d => (d.mdk p).expect = ((s.dev.mdk p).expect + 1) % 65536 ∧ (d.mdk p).ackDue = true ∧ (d.mdk p).nakOut = false ∧
      (d.mdk p).sinceAck = (s.dev.mdk p).sinceAck + 1 ∧ d.sent = s.dev.sent := by
  refine gives_of (f := fun d => d.withPorts (mdkFrameOp p f)) rfl (decide_eq_true hp) ?_
  rw [withPorts_same hd (mdkFrameOp_taken (hd p hp) hok hroom hseq hack) ((heard_same _ p 1).trans (.setMdk _ p rfl))]
  refine ⟨?_, ?_, ?_, ?_, rfl⟩ <;> simp [heard]

theorem mdkFrameRx_bad {f : MdkFrame} (hok : f.ok = false) (hnak : (s.dev.mdk p).nakOut = false) :
    Gives (.mdkFrameRx p f) s fun d => (d.mdk p).expect = (s.dev.mdk p).expect ∧ (d.mdk p).nakOut = true ∧
      d.sent = .mdk p 2 (s.dev.mdk p).expect [] :: s.dev.sent := by
  refine gives_of (f := fun d => d.withPorts (mdkFrameOp p f)) rfl (decide_eq_true hp) ?_
  rw [withPorts_same hd (mdkFrameOp_bad (hd p hp) hok hnak) ((heard_same _ p 2).trans (mdkNak_same _ p)), mdkNak_mdk]
  have hexp : ((heard s.dev p 2).mdk p).expect = (s.dev.mdk p).expect := by simp [heard]
  refine ⟨hexp, rfl, ?_⟩
  rw [← hexp]
  rfl

theorem mdkLinkctlRx_ack (seq : Nat) (hw : (s.dev.mdk p).waiting = []) :
    Gives (.mdkLinkctlRx p true seq) s fun d => (d.mdk p).replay = (s.dev.mdk p).replay.filter (fun f => serialGt 16 f.1 seq) ∧
      (d.mdk p).waiting = [] ∧ d.sent = s.dev.sent := by
  refine gives_of (f := fun d => d.withPorts (mdkLinkctlOp p true seq)) rfl (decide_eq_true hp) ?_
  rw [withPorts_same hd (mdkLinkctlOp_ack seq (hd p hp) hw) (.setMdk _ p rfl), mdk_setMdk, if_pos rfl]
  exact ⟨rfl, hw, rfl⟩

theorem mdkAckTimer_to (hack : (s.dev.mdk p).ackDue = true) : To (.mdkAckTimer p) s (s.dev.mdkAck p) := by
  have h : mdkAckTimerOp p s.dev = s.dev.mdkAck p := if_pos (by rw [hack, hd p hp]; rfl)
  exact to_of (f := mdkAckTimerOp p) rfl (decide_eq_true hp) h

theorem mdkNakRepeat_gives (hnak : (s.dev.mdk p).nakOut = true) :
    Gives (.mdkNakRepeat p) s fun d => d.sent = .mdk p 2 (s.dev.mdk p).expect [] :: s.dev.sent ∧ d.mdk p = s.dev.mdk p := by
  refine gives_of (f := mdkNakRepeatOp p) rfl (decide_eq_true hp) ?_
  have h : mdkNakRepeatOp p s.dev = s.dev.mdkNak p := if_pos (by rw [hnak, hd p hp]; rfl)
  rw [h, mdkNak_mdk, ← hnak]
  exact ⟨rfl, rfl⟩

theorem mdkReplayTimeout_gives {f : Nat × Nat × Bytes} {l : List (Nat × Nat × Bytes)} (hrep : (s.dev.mdk p).replay = f :: l)
    (hst : (s.dev.mdk p).st = .active) (hr : (s.dev.mdk p).resends < 4) :
    Gives (.mdkReplayTimeout p) s fun d => (d.mdk p).replay = (s.dev.mdk p).replay ∧ (d.mdk p).resends = (s.dev.mdk p).resends + 1 ∧
      d.sent = (((s.dev.mdk p).from_ f.1).map fun x => Out.mdk p 0 x.1 (u8 x.2.1 ++ x.2.2)).reverse ++ s.dev.sent := by
  refine gives_of (f := fun d => d.withPorts (mdkReplayTimeoutOp p)) rfl (decide_eq_true hp) ?_
  obtain ⟨hsame, hrest⟩ := mdkReplayTimeoutOp_sends hrep hst hr
  rw [withPorts_same hd rfl hsame]
  exact hrest

theorem mdkIdleTimer_to (hst : (s.dev.mdk p).st = .active) (hen : s.dev.flag .mdkCfg p 22 = true) (hrep : (s.dev.mdk p).replay = [])
    (hw : (s.dev.mdk p).waiting = []) (hsent : (s.dev.mdk p).eidleSent = false) (hrcvd : (s.dev.mdk p).eidleRcvd = false) :
    To (.mdkIdleTimer p) s ((s.dev.setMdk p { s.dev.mdk p with eidleSent := true }).send (.mdk p 4 0 [])) := by
  refine to_of (f := fun d => d.withPorts (mdkIdleTimerOp p)) rfl (decide_eq_true hp) (withPorts_same hd ?_ ?_)
  · simp [mdkIdleTimerOp, hst, hen, hrep, hw, hsent, hrcvd, Dev.when]
  · exact SameStates.setMdk s.dev p (m := { s.dev.mdk p with eidleSent := true }) rfl

theorem mdkEidleRx_first (hst : (s.dev.mdk p).st = .active) (hsent : (s.dev.mdk p).eidleSent = false) :
    To (.mdkEidleRx p) s (s.dev.setMdk p { s.dev.mdk p with eidleRcvd := true }) := by
  refine to_of (f := fun d => d.withPorts (mdkEidleOp p)) rfl (decide_eq_true hp) (withPorts_same hd ?_ (.setMdk _ p rfl))
  simp [mdkEidleOp, hst, hsent, Dev.when]

theorem mdkEidleRx_idle (hst : (s.dev.mdk p).st = .active) (hsent : (s.dev.mdk p).eidleSent = true) (hrole : s.dev.chain.role = 0) :
    Gives (.mdkEidleRx p) s fun d => (d.mdk p).st = .idle := by
  refine gives_of (f := fun d => d.withPorts (mdkEidleOp p)) rfl (decide_eq_true hp) ?_
  have h : mdkEidleOp p s.dev = (s.dev.setMdk p { s.dev.mdk p with eidleRcvd := true }).mdkEnter p .idle := by
    simp [mdkEidleOp, hst, hsent, Dev.when]
  have hd' : BothLinked (s.dev.setMdk p { s.dev.mdk p with eidleRcvd := true }) := SameStates.linked (.setMdk _ p rfl) hd
  obtain ⟨-, hchain, hmdk⟩ := mdkEnter_linked (hd' p hp) (st := .idle) (.inr rfl)
  rw [withPorts_alone h (mdkEnter_bothLinked hd' hp (.inr rfl)) (by rw [hchain]; exact hrole), hmdk p, if_pos rfl]

theorem mdkExitBurstRx_active (hst : (s.dev.mdk p).st = .idle) (hrole : s.dev.chain.role = 0) (hw : (s.dev.mdk p).waiting = []) :
    Gives (.mdkExitBurstRx p) s fun d => (d.mdk p).st = .active ∧ d.sent = .mdk p 5 0 [] :: s.dev.sent := by
  refine gives_of (f := fun d => d.withPorts fun d => d.mdkBurst p) rfl (decide_eq_true hp) ?_
  obtain ⟨hsent, hchain, hmdk⟩ := mdkEnter_linked (hd p hp) (st := .active) (.inl rfl)
  have hb : BothLinked ((s.dev.mdkEnter p .active).send (.mdk p mkBurst 0 [])) := mdkEnter_bothLinked hd hp (.inl rfl)
  have hr : ((s.dev.mdkEnter p .active).send (.mdk p mkBurst 0 [])).chain.role = 0 := (congrArg Chain.role hchain).trans hrole
  rw [withPorts_alone (f := fun d => d.mdkBurst p) (mdkBurst_idle hst hw) hb hr, mdk_send, hmdk p, if_pos rfl]
  exact ⟨rfl, congrArg (Out.mdk p 5 0 [] :: ·) hsent⟩

end LinkedPorts

/-- Settles O42. -/
theorem mindankoCommandsComplete : Obligations.MindankoCommandsComplete := by
  unfold Obligations.MindankoCommandsComplete
  refine ⟨fun s p hp hd => ⟨fun f => mdkFrameRx_taken hp hd, fun f => mdkFrameRx_bad hp hd, mdkLinkctlRx_ack hp hd, mdkAckTimer_to hp hd,
      mdkNakRepeat_gives hp hd, fun f l => mdkReplayTimeout_gives hp hd, mdkIdleTimer_to hp hd, mdkEidleRx_first hp hd, mdkEidleRx_idle hp hd,
      mdkExitBurstRx_active hp hd⟩,
    fun s p inv skew hp hen hin => ?_, fun s p up hp hen => ?_, fun s p hp hst hrx => ⟨fun hc => ?_, fun hc => ?_⟩, fun s p hp hst => ?_⟩
  · refine to_of (f := fun d => d.withPorts (mdkBlockLockOp p 15 true inv skew)) rfl (decide_eq_true hp) (withPorts_congr ?_)
    exact if_neg (by rw [hen, hin]; decide)
  · refine to_of (f := fun d => d.withPorts (mdkPeerRxUpOp p up)) rfl (decide_eq_true hp) (withPorts_congr ?_)
    exact if_neg (by rw [hen]; decide)
  · exact to_of (f := mdkStartupOp p) rfl (decide_eq_true hp) (by simp [mdkStartupOp, hst, hrx, hc, Dev.when])
  · exact to_of (f := mdkStartupOp p) rfl (decide_eq_true hp) (by simp [mdkStartupOp, hst, hrx, hc, Dev.when])
  · refine to_of (f := fun d => d.withPorts (mdkRecoveryTimeoutOp p)) rfl (decide_eq_true hp) (withPorts_congr ?_)
    exact if_pos hst

end Sys2Proof.Goals
end

section
/-!
PROOF. The sources of a reset (16 R426, R427, R429, R447, R448).
-/

namespace Sys2Proof.Goals

open Sys2Proof Sys2Proof.Machine

/-- A reset of this cause and level is being stretched, with this history. -/
def Stretching (d : Dev) (cause level history : Nat) : Prop :=
  d.rst.stage = .stretch ∧ d.rst.rstOutLow = true ∧ d.rst.bursol = false ∧ d.rst.cause = cause ∧ d.rst.level = level ∧ d.rst.history = history ∧
    d.rst.aoCleared = (level == 0)

/-- A reset that no other one meets is recorded with its own cause and level (16 R427, R429). -/
theorem resetTo_stretching {d : Dev} {cause level history : Nat} (hidle : d.rst.stage = .idle)
    (hh : (if cause = 1 ∨ cause = 2 then 0 else d.rst.history) ||| 2 ^ (cause - 1) = history) : Stretching (d.resetTo cause level) cause level history := by
  refine ⟨rfl, rfl, rfl, ?_, ?_, (resetTo_history d cause level).trans hh, ?_⟩
  · rw [resetTo_cause, if_neg fun h => h.1 hidle]
  · rw [resetTo_level, if_neg fun h => h hidle]
  · change (level == 0 || (d.rst.stage != .idle && decide (d.rst.level < level)) && (cleared d level).rst.aoCleared) = _
    rw [hidle]
    simp

theorem takeReset_stretching {d : Dev} {cause level history : Nat} (hidle : d.rst.stage = .idle)
    (hcore : ¬ (level = 3 ∧ 2 ≤ d.coreResets.length))
    (hh : (if cause = 1 ∨ cause = 2 then 0 else d.rst.history) ||| 2 ^ (cause - 1) = history) : Stretching (d.takeReset cause level) cause level history := by
  rw [Dev.takeReset, if_neg hcore]
  exact resetTo_stretching hidle hh

/-- A device that a SYS, POR or COLD reset has cleared has nothing that waits. -/
theorem resetTo_quiet {d : Dev} {cause level : Nat} (hl : level ≠ 3) : Quiet (d.resetTo cause level) := by
  have hsame : ∀ e : Dev, (e.wipe level).powerUp.commits = [] ∧ (e.wipe level).powerUp.carts = [] ∧ (e.wipe level).powerUp.tens = [] ∧
      (e.wipe level).powerUp.sessions = [] := fun e => by
    unfold Dev.powerUp
    split <;> exact ⟨rfl, rfl, rfl, rfl⟩
  obtain ⟨hcommits, hcarts, htens, hsessions⟩ := hsame (d.endService 3)
  have heq : ∀ {α : Type} (g : Dev → α), (∀ (e : Dev) (r : _) (o : Out), g (Dev.send { e with rst := r } o) = g e) →
      g (d.resetTo cause level) = g ((d.endService 3).wipe level).powerUp := fun g hg => by
    simp only [Dev.resetTo, if_neg hl, hg]
  have htens' : (d.resetTo cause level).tens = [] := (heq (·.tens) fun _ _ _ => rfl).trans htens
  have hsessions' : (d.resetTo cause level).sessions = [] := (heq (·.sessions) fun _ _ _ => rfl).trans hsessions
  refine ⟨(heq (·.commits) fun _ _ _ => rfl).trans hcommits, (heq (·.carts) fun _ _ _ => rfl).trans hcarts, fun n _ => ?_, ?_, ?_⟩
  · rw [Dev.ten, htens']
    rfl
  · rw [hsessions']
    nofun
  · rw [hsessions']
    nofun

theorem resetTo_retained {d : Dev} {cause level : Nat} (hl : level ≠ 3) (hl0 : level ≠ 0) (hservice : d.sec.service = none) :
    (d.resetTo cause level).flt.retained = d.flt.retained := by
  have hend : d.endService 3 = d := by rw [Dev.endService, hservice]
  have hpow : ∀ e : Dev, e.powerUp.flt = e.flt := fun e => by
    unfold Dev.powerUp
    split <;> rfl
  simp only [Dev.resetTo, hend, if_neg hl]
  calc (d.wipe level).powerUp.flt.retained = (d.wipe level).flt.retained := by rw [hpow]
    _ = d.flt.retained := if_neg hl0

/-- An error in critical state takes a SYS reset at once, its record first in retained SRAM (16 R444). -/
theorem criticalStateOp_reset {d : Dev} (sub code : Nat) (hidle : d.rst.stage = .idle) (hservice : d.sec.service = none) :
    Stretching (criticalStateOp sub code d) 0x09 2 (d.rst.history ||| 256) ∧ Quiet (criticalStateOp sub code d) ∧
      ∃ f l, (criticalStateOp sub code d).flt.retained = f :: l ∧ f.unit = 0x3F ∧ f.sub = sub ∧ f.code = code := by
  generalize hf : ({ time := d.now, unit := 0x3F, sub, code, severity := 3, verdict := 2, epoch := d.epoch, seq := d.flt.seq } : FaultRec) = f
  have h : criticalStateOp sub code d = Dev.resetTo { d.logFault f with flt := { (d.logFault f).flt with retained := (d.logFault f).flt.log } } 0x09 2 := by
    rw [← hf]
    exact takeReset_of_ne_core _ _ (by decide)
  obtain ⟨chain, cells, hlog⟩ := Dev.audit_frame { d with flt := { d.flt with log := (f :: d.flt.log).take 64 } } 0x000E f.bytes 0xFF 0xFF
  rw [h, Dev.logFault, hlog]
  refine ⟨resetTo_stretching (by exact hidle) rfl, resetTo_quiet (by decide), ?_⟩
  rw [resetTo_retained (by decide) (by decide) (by exact hservice)]
  exact ⟨f, d.flt.log.take 63, rfl, by rw [← hf], by rw [← hf], by rw [← hf]⟩

theorem resetPinOp_long {d : Dev} {ns : Nat} (h : 2500 ≤ ns) : resetPinOp ns d = d.takeReset (if d.bsh.st = .standby then 0x05 else 0x04) 1 := by
  simp only [resetPinOp, if_neg (show ¬ (2000 ≤ ns ∧ ns < 2500) by omega), if_pos h]
  rfl

theorem resetPinOp_short {d : Dev} {ns : Nat} (h : ns < 2000) : resetPinOp ns d = d := by
  simp only [resetPinOp, if_neg (show ¬ (2000 ≤ ns ∧ ns < 2500) by omega), if_neg (show ¬ 2500 ≤ ns by omega)]
  rfl

/-- Settles O46. -/
theorem resetSourcesComplete : Obligations.ResetSourcesComplete := by
  unfold Obligations.ResetSourcesComplete
  refine ⟨fun s hidle hservice => ?_, fun s => ⟨fun ns hns => to_of (f := resetPinOp ns) rfl rfl (resetPinOp_short hns),
    fun k hwf hk => to_of (f := watchdogOp k) rfl hwf (if_pos ?_), fun h => to_of (f := safeResetOp) rfl rfl (if_neg ?_)⟩⟩
  · have once : ∀ {level : Nat}, level ≠ 3 → ¬ (level = 3 ∧ 2 ≤ s.dev.coreResets.length) := fun h h' => h h'.1
    have few : s.dev.coreResets.length < 2 → ∀ {level : Nat}, ¬ (level = 3 ∧ 2 ≤ s.dev.coreResets.length) := fun h _ h' => by omega
    refine ⟨gives_of (f := coldPowerOnOp) rfl rfl (takeReset_stretching (by exact hidle) (by rintro ⟨h, -⟩; cases h) (by simp)),
      gives_of (f := fun d => d.takeReset 0x02 0) rfl rfl (takeReset_stretching hidle (once (by decide)) (by simp)),
      fun hst hsup => gives_of (f := supplyDropOp) rfl rfl ?_, fun ns hns hst => gives_of (f := resetPinOp ns) rfl rfl ?_,
      fun ns hns hst => gives_of (f := resetPinOp ns) rfl rfl ?_, fun k hwf hk halive hfew => gives_of (f := watchdogOp k) rfl hwf ?_,
      fun k hwf hfew => gives_of (f := lockstepOp) rfl hwf (takeReset_stretching hidle (few hfew) rfl),
      fun k hwf hmany => gives_of (f := lockstepOp) rfl hwf ?_, fun sub code hwf => ?_, fun hsafe hms => gives_of (f := safeResetOp) rfl rfl ?_⟩
    · rw [supplyDropOp, if_neg (by simp [hst, hsup])]
      exact takeReset_stretching hidle (once (by decide)) rfl
    · rw [resetPinOp_long hns, if_neg hst]
      exact takeReset_stretching hidle (once (by decide)) rfl
    · rw [resetPinOp_long hns, if_pos hst]
      exact takeReset_stretching hidle (once (by decide)) rfl
    · rw [watchdogOp, if_neg (by simp [hk, halive])]
      exact takeReset_stretching hidle (few hfew) rfl
    · rw [lockstepOp, Dev.takeReset, if_pos ⟨rfl, hmany⟩]
      exact resetTo_stretching hidle rfl
    · obtain ⟨hstretch, hquiet, hrec⟩ := criticalStateOp_reset sub code hidle hservice
      refine gives_of (f := fun d => (criticalStateOp sub code d).settled) rfl hwf ?_
      rw [settled_quiet _ hquiet]
      exact ⟨hstretch, hrec⟩
    · rw [safeResetOp, if_pos (by simp [hsafe, hms])]
      exact takeReset_stretching hidle (once (by decide)) rfl
  · simp [hk]
  · simp [h]

end Sys2Proof.Goals
end

section
/-!
PROOF. How a reset ends: the supplies, the stretch, the option loader, the release of blocks (16 R427, R431 to R438, 18 R487).
-/

namespace Sys2Proof.Goals

open Sys2Proof Sys2Proof.Machine

/-! ### A bit of a word cleared -/

/-- Clearing a bit that is set clears it, and leaves every other. -/
theorem bit_setBit_false {v b : Nat} (hb : bit v b = true) (c : Nat) : bit (setBit v b false) c = if c = b then false else bit v c := by
  obtain ⟨h, l, hl, rfl⟩ : ∃ h l, l < 2 ^ b ∧ v = 2 ^ (b + 1) * h + (2 ^ b * 1 + l) := by
    have hodd : v / 2 ^ b % 2 = 1 := by rwa [bit, Nat.shiftRight_eq_div_pow, beq_iff_eq] at hb
    have hdiv := Nat.div_add_mod v (2 ^ b)
    have htwo := Nat.div_add_mod (v / 2 ^ b) 2
    refine ⟨v / 2 ^ b / 2, v % 2 ^ b, Nat.mod_lt _ (Nat.two_pow_pos b), ?_⟩
    calc v = 2 ^ b * (2 * (v / 2 ^ b / 2) + 1) + v % 2 ^ b := by rw [← hodd, htwo, hdiv]
      _ = _ := by rw [pow_succ]; ring
  have hlow : 2 ^ b * 1 + l < 2 ^ (b + 1) := by rw [pow_succ]; omega
  have hset : setBit (2 ^ (b + 1) * h + (2 ^ b * 1 + l)) b false = 2 ^ (b + 1) * h + l := by
    have hone : bits (2 ^ (b + 1) * h + (2 ^ b * 1 + l)) b b = 1 := by
      rw [bit, beq_iff_eq] at hb
      rw [bits, show b + 1 - b = 1 by omega, pow_one]
      exact hb
    rw [setBit, setBits, hone, Nat.shiftLeft_eq]
    simp only [Bool.toNat_false, Nat.zero_mod, Nat.zero_shiftLeft]
    omega
  rw [hset, bit_eq_testBit, bit_eq_testBit, Nat.testBit_two_pow_mul_add h (show l < 2 ^ (b + 1) by omega), Nat.testBit_two_pow_mul_add h hlow,
    Nat.testBit_two_pow_mul_add 1 hl]
  rcases Nat.lt_trichotomy c b with hc | rfl | hc
  · rw [if_pos (by omega), if_pos hc, if_neg (by omega), if_pos (by omega)]
  · rw [if_pos (by omega), if_pos rfl]
    exact Nat.testBit_lt_two_pow hl
  · rw [if_neg (by omega), if_neg (by omega), if_neg (by omega)]

/-! ### One element of a list alone -/

/-- A fold in which one element alone has an effect has that effect. -/
theorem each_one {α : Type} {f : Dev → α → Dev} {a : α} {l : List α} {d : Dev} (hnd : l.Nodup) (ha : a ∈ l) (hbefore : ∀ c ∈ l, c ≠ a → f d c = d)
    (hafter : ∀ c ∈ l, c ≠ a → f (f d a) c = f d a) : d.each l f = f d a := by
  induction l with
  | nil => cases ha
  | cons x l ih =>
    obtain ⟨hx, hnd⟩ := List.nodup_cons.mp hnd
    by_cases hxa : x = a
    · subst hxa
      exact each_same l (f d x) f fun c hc => hafter c (List.mem_cons_of_mem x hc) fun h => hx (h ▸ hc)
    · calc d.each (x :: l) f = (f d x).each l f := rfl
        _ = d.each l f := by rw [hbefore x List.mem_cons_self hxa]
        _ = f d a := ih hnd ((List.mem_cons.mp ha).resolve_left (Ne.symm hxa)) (fun c hc => hbefore c (List.mem_cons_of_mem x hc))
            (fun c hc => hafter c (List.mem_cons_of_mem x hc))

/-! ### The option loader (16 R436, Table 16.8) -/

theorem loadRole_chain (d : Dev) (w : Nat) :
    (d.loadRole w).chain = { d.chain with role := bits w 7 0, position := bits w 15 8, chainId := bits w 63 32, listening := bits w 7 0 == 1 } := by
  unfold Dev.loadRole
  dsimp only
  split <;> rfl

/-- A parameter that was written reads as the value in its width. -/
theorem get_put_same (d : Dev) (p : Par) (s v : Nat) : (d.put p s v).get p s = v % 2 ^ (8 * p.info.unit) := smGet_set_self ..

/-- The role touches SES.PORT_CFG alone among the parameters. -/
theorem loadRole_keys (d : Dev) (w : Nat) : KeysKept [Par.sesPortCfg.ctorIdx] d (d.loadRole w) := by
  unfold Dev.loadRole
  dsimp only
  split
  · exact .of_regs rfl
  · exact .put _ _ (by decide) (by decide)

theorem loadRole_same (d : Dev) (w : Nat) : (d.loadRole w).rst = d.rst ∧ (d.loadRole w).sec = d.sec ∧ (d.loadRole w).sent = d.sent ∧
    (d.loadRole w).pcies = d.pcies := by
  unfold Dev.loadRole
  dsimp only
  split
  · exact ⟨rfl, rfl, rfl, rfl⟩
  · exact ⟨put_rst .., put_sec .., put_sent .., put_pcies ..⟩

/-- The parameters that the option words set. -/
def optPuts (d : Dev) (ws : List Nat) : Dev :=
  ((((((d.put .memDramCfg 0 (ws.getD 0 0)).put .lnkH0Bar2Size 0 (bits (ws.getD 1 0x2020) 7 0)).put .lnkH1Bar2Size 0 (bits (ws.getD 1 0x2020) 15 8)).loadRole
    (ws.getD 2 0)).put .rstWdtMs 0 (bits (ws.getD 3 (500 + 65536 * 5000)) 15 0)).put .rstSafeResetMs 0 (bits (ws.getD 3 (500 + 65536 * 5000)) 31 16)).put
    .clkVrCfg 0 (ws.getD 4 0x40A00000)

/-- The endpoints with the sizes of BAR2 that the parameters give. -/
def withBars (d : Dev) : Dev :=
  (d.modPcie 0 fun e => { e with bar2Log := d.get .lnkH0Bar2Size }).modPcie 1 fun e => { e with bar2Log := d.get .lnkH1Bar2Size }

theorem withBars_bar2 (d : Dev) : ((withBars d).pcie 0).bar2Log = d.get .lnkH0Bar2Size ∧ ((withBars d).pcie 1).bar2Log = d.get .lnkH1Bar2Size := by
  simp [withBars]

theorem loadWords_eq (d : Dev) (ws : List Nat) : d.loadWords ws =
    { withBars (optPuts d ws) with
      rst := { (optPuts d ws).rst with wdtMs := bits (ws.getD 3 (500 + 65536 * 5000)) 15 0, safeResetMs := bits (ws.getD 3 (500 + 65536 * 5000)) 31 16 }
      sup := { (optPuts d ws).sup with vr := ws.getD 4 0x40A00000 } } := rfl

theorem optPuts_same (d : Dev) (ws : List Nat) : (optPuts d ws).rst = d.rst ∧ (optPuts d ws).sec = d.sec ∧ (optPuts d ws).sent = d.sent ∧
    (optPuts d ws).pcies = d.pcies := loadRole_same _ _

theorem optPuts_chain (d : Dev) (ws : List Nat) : (optPuts d ws).chain = { d.chain with
    role := bits (ws.getD 2 0) 7 0, position := bits (ws.getD 2 0) 15 8, chainId := bits (ws.getD 2 0) 63 32, listening := bits (ws.getD 2 0) 7 0 == 1 } :=
  loadRole_chain _ _

theorem optPuts_bar2 (d : Dev) (ws : List Nat) : (optPuts d ws).get .lnkH0Bar2Size = bits (ws.getD 1 0x2020) 7 0 ∧
    (optPuts d ws).get .lnkH1Bar2Size = bits (ws.getD 1 0x2020) 15 8 := by
  have hkeys : KeysKept [Par.sesPortCfg.ctorIdx, Par.rstWdtMs.ctorIdx, Par.rstSafeResetMs.ctorIdx, Par.clkVrCfg.ctorIdx]
      (((d.put .memDramCfg 0 (ws.getD 0 0)).put .lnkH0Bar2Size 0 (bits (ws.getD 1 0x2020) 7 0)).put .lnkH1Bar2Size 0 (bits (ws.getD 1 0x2020) 15 8))
      (optPuts d ws) :=
    .trans (.trans (.trans (fun x k hk => loadRole_keys _ _ x k fun h => hk (by rw [List.mem_singleton.mp h]; decide)) (.put _ _ (by decide) (by decide)))
      (.put _ _ (by decide) (by decide))) (.put _ _ (by decide) (by decide))
  refine ⟨(hkeys.get (p := .lnkH0Bar2Size) (by decide) (by decide)).trans ?_, (hkeys.get (p := .lnkH1Bar2Size) (by decide) (by decide)).trans ?_⟩
  · rw [get_put_later (by decide) (by decide)]
    exact (get_put_same ..).trans (Nat.mod_eq_of_lt (Nat.mod_lt _ (by decide)))
  · exact (get_put_same ..).trans (Nat.mod_eq_of_lt (Nat.mod_lt _ (by decide)))

/-- The copy that the loader used: 0 or 1, or 2 for the safe defaults. -/
def optSource : Option (Bool × Nat × List Nat) → Nat
  | some u => u.1.toNat
  | none => 2

/-- What the loader writes: the option registers from the words it uses, and its own record. -/
theorem optionLoadOp_of {d : Dev} {use : Option (Bool × Nat × List Nat)} (hst : d.rst.stage = .loading)
    (huse : d.optUse.filter (fun u => (dramGibOf (u.2.2.getD 0 0)).isSome) = use) :
    let ws := (use.map fun u => u.2.2).getD []
    let w3 := ws.getD 3 (500 + 65536 * 5000)
    let e := optionLoadOp d
    e.rst.stage = .idle ∧ e.rst.rstOutLow = false ∧ e.rst.optSrc = optSource use ∧ e.rst.maintenance = (optSource use == 2 || d.lifecycle == 4) ∧
      e.rst.wdtMs = bits w3 15 0 ∧ e.rst.safeResetMs = bits w3 31 16 ∧ e.sup.vr = ws.getD 4 0x40A00000 ∧
      e.chain = { d.chain with role := bits (ws.getD 2 0) 7 0, position := bits (ws.getD 2 0) 15 8, chainId := bits (ws.getD 2 0) 63 32,
                               listening := bits (ws.getD 2 0) 7 0 == 1 } ∧
      (e.pcie 0).bar2Log = bits (ws.getD 1 0x2020) 7 0 ∧ (e.pcie 1).bar2Log = bits (ws.getD 1 0x2020) 15 8 ∧ e.sent = .rstOut true :: d.sent := by
  obtain ⟨hrst, hsec, hsent, -⟩ := optPuts_same d ((use.map fun u => u.2.2).getD [])
  have hchain := optPuts_chain d ((use.map fun u => u.2.2).getD [])
  obtain ⟨h0, h1⟩ := optPuts_bar2 d ((use.map fun u => u.2.2).getD [])
  have hstage : (d.rst.stage != .loading) = false := by rw [hst]; rfl
  simp only [optionLoadOp, hstage, Bool.false_eq_true, if_false, huse, loadWords_eq]
  generalize (use.map fun u => u.2.2).getD [] = ws at *
  generalize optPuts d ws = p at *
  refine ⟨rfl, rfl, by cases use <;> rfl, ?_, rfl, rfl, rfl, hchain, (withBars_bar2 p).1.trans h0, (withBars_bar2 p).2.trans h1,
    congrArg (Out.rstOut true :: ·) hsent⟩
  simp only [Dev.lifecycle, ← hsec]
  cases use <;> rfl

end Sys2Proof.Goals
end

section
/-!
PROOF. How a reset ends, from the supplies to the release of blocks (16 R427, R431, R433, R436, R438, 18 R487).
-/

namespace Sys2Proof.Goals

open Sys2Proof Sys2Proof.Machine

/-- A bit that was set or cleared reads so. -/
theorem bit_setBit_same (v b : Nat) (x : Bool) : bit (setBit v b x) b = x := by
  have hdiv := Nat.div_add_mod v (2 ^ b)
  have htwo := Nat.div_add_mod (v / 2 ^ b) 2
  have hl := Nat.mod_lt v (Nat.two_pow_pos b)
  have hset : setBit v b x = 2 ^ b * (2 * (v / 2 ^ b / 2) + x.toNat) + v % 2 ^ b := by
    have hx : x.toNat % 2 = x.toNat := Nat.mod_eq_of_lt x.toNat_lt
    have hv : v = 2 ^ b * (2 * (v / 2 ^ b / 2)) + v / 2 ^ b % 2 * 2 ^ b + v % 2 ^ b := by
      conv_lhs => rw [← hdiv, ← htwo]
      ring
    rw [setBit, setBits, bits, Nat.shiftRight_eq_div_pow, show b + 1 - b = 1 by omega, pow_one, hx, Nat.shiftLeft_eq, Nat.shiftLeft_eq, Nat.mul_add,
      Nat.mul_comm (2 ^ b) x.toNat]
    omega
  rw [bit, Nat.shiftRight_eq_div_pow, hset, Nat.mul_add_div (Nat.two_pow_pos b), Nat.div_eq_of_lt hl, Nat.add_zero, Nat.mul_add_mod]
  cases x <;> rfl

/-! ### The stretch and the loader -/

theorem stretchEndOp_free {d : Dev} (hst : d.rst.stage = .stretch) (hth : d.rst.thermalHold = false) (hws : d.rst.waitSupply = false) :
    stretchEndOp d = if d.rst.level = 3 then
        { d with rst := { d.rst with stage := .idle, rstOutLow := false, wasLoading := false }, sent := .rstOut true :: d.sent }
      else { d with rst := { d.rst with stage := .loading, wasLoading := false,
                                        loadRestarts := if d.rst.wasLoading then min 15 (d.rst.loadRestarts + 1) else 0 } } := by
  have h : (d.rst.stage != .stretch || d.rst.thermalHold || d.rst.waitSupply) = false := by rw [hst, hth, hws]; rfl
  simp only [stretchEndOp, h, Bool.false_eq_true, if_false]
  rfl

theorem optionLoadOp_none {d : Dev} (hst : d.rst.stage = .loading) (hnone : d.optUse = none) :
    let e := optionLoadOp d
    e.rst.stage = .idle ∧ e.rst.rstOutLow = false ∧ e.rst.optSrc = 2 ∧ e.rst.maintenance = true ∧
      e.rst.wdtMs = 500 ∧ e.rst.safeResetMs = 5000 ∧ e.sup.vr = 0x40A00000 ∧ e.chain.role = 0 ∧ (e.pcie 0).bar2Log = 32 ∧ (e.pcie 1).bar2Log = 32 ∧
      e.sent = .rstOut true :: d.sent := by
  obtain ⟨hstage, hout, hsrc, hmaint, hwdt, hsafe, hvr, hchain, h0, h1, hsent⟩ := optionLoadOp_of (use := none) hst (by rw [hnone]; rfl)
  exact ⟨hstage, hout, hsrc, hmaint, hwdt.trans (by decide), hsafe.trans (by decide), hvr, by rw [hchain]; rfl, h0.trans (by decide), h1.trans (by decide), hsent⟩

theorem optionLoadOp_some {d : Dev} {b : Bool} {gen : Nat} {w : List Nat} (hst : d.rst.stage = .loading) (huse : d.optUse = some (b, gen, w))
    (hgib : dramGibOf (w.getD 0 0) ≠ none) :
    let e := optionLoadOp d
    let w3 := w.getD 3 (500 + 65536 * 5000)
    e.rst.stage = .idle ∧ e.rst.rstOutLow = false ∧ e.rst.optSrc = b.toNat ∧ e.rst.maintenance = decide (d.lifecycle = 4) ∧
      e.rst.wdtMs = bits w3 15 0 ∧ e.rst.safeResetMs = bits w3 31 16 ∧ e.sup.vr = w.getD 4 0x40A00000 ∧ e.chain.role = bits (w.getD 2 0) 7 0 ∧
      e.chain.position = bits (w.getD 2 0) 15 8 ∧ e.chain.chainId = bits (w.getD 2 0) 63 32 := by
  have hfilter : d.optUse.filter (fun u => (dramGibOf (u.2.2.getD 0 0)).isSome) = some (b, gen, w) := by
    rw [huse]
    exact if_pos (Option.isSome_iff_ne_none.mpr hgib)
  obtain ⟨hstage, hout, hsrc, hmaint, hwdt, hsafe, hvr, hchain, -⟩ := optionLoadOp_of hst hfilter
  refine ⟨hstage, hout, hsrc, hmaint.trans ?_, hwdt, hsafe, hvr, by rw [hchain]; rfl, by rw [hchain]; rfl, by rw [hchain]; rfl⟩
  cases b <;> simp [optSource, beq_eq_decide]

/-! ### Blocks -/

/-- A PLL on which no release waits locks, and nothing else happens. -/
theorem pllLockOp_alone {d : Dev} {p : Nat} (h : ∀ b < 40, bit d.rst.deferRaised b = true → pllOf b ≠ p) :
    pllLockOp p d = { d with rst := { d.rst with pllGood := setBit d.rst.pllGood p true } } := by
  have hnil : ((List.range 40).filter fun b => bit d.rst.deferRaised b && pllOf b == p) = [] := by
    refine List.filter_eq_nil_iff.mpr fun b hb => ?_
    have := h b (List.mem_range.mp hb)
    simpa using this
  simp only [pllLockOp, hnil]
  rfl

theorem clockTimeoutOp_waiting {d : Dev} {p b : Nat} (hp : bit d.rst.pllGood p = false) (hb : b < 40) (hr : bit d.rst.deferRaised b = true)
    (hpll : pllOf b = p) : clockTimeoutOp p d = d.reportFault (0x38 + p) 0 5 := by
  have hany : (List.range 40).any (fun b => bit d.rst.deferRaised b && pllOf b == p) = true :=
    List.any_eq_true.mpr ⟨b, List.mem_range.mpr hb, by simp [hr, hpll]⟩
  exact if_pos (by rw [hp, hany]; rfl)

/-- Blocks 11 to 23 have nothing of their own to take up as they return. -/
theorem backInService_plain (d : Dev) {b : Nat} (hlo : 11 ≤ b) (hhi : b < 24) : d.backInService b = d := by
  simp only [Dev.backInService, if_neg (show ¬ b = 4 by omega), if_neg (show ¬ b < 4 by omega), if_neg (show ¬ b < 9 by omega),
    if_neg (show ¬ b < 0x0B by omega), if_neg (show ¬ (b = 0x18 ∨ b = 0x19) by omega), if_neg (show ¬ (0x20 ≤ b ∧ b < 0x28) by omega)]

/-- What the release of one block does (16 R433). -/
def releaseOne (b : Nat) (d : Dev) : Dev :=
  let e := { d with rst := { d.rst with blkSrst := setBit d.rst.blkSrst b false } }
  if bit d.rst.pllGood (pllOf b) then e else e.deferRelease b

theorem deferRelease_rst (d : Dev) (b : Nat) : (d.deferRelease b).rst =
    { d.rst with blkDefer := setBit d.rst.blkDefer b true, deferRaised := setBit d.rst.deferRaised b true } := by
  simp [Dev.deferRelease, Dev.faultEvent]

theorem deferRelease_units (d : Dev) (b : Nat) : (d.deferRelease b).units = d.units := by simp [Dev.deferRelease, Dev.faultEvent]

theorem releaseOne_same (b : Nat) (d : Dev) : (releaseOne b d).rst.blkSrst = setBit d.rst.blkSrst b false ∧ (releaseOne b d).units = d.units := by
  simp only [releaseOne]
  split
  · exact ⟨rfl, rfl⟩
  · exact ⟨by rw [deferRelease_rst], by rw [deferRelease_units]⟩

theorem blockPresent_of_units {d e : Dev} (h : e.units = d.units) (b : Nat) : e.blockPresent b = d.blockPresent b := by
  simp only [Dev.blockPresent, Dev.present, h]

/-- What a write of RST.BLK_SRST does at one block. -/
def srstStep (value : Nat) (d : Dev) (b : Nat) : Dev :=
  let was := bit d.rst.blkSrst b
  let now := bit value b || !d.blockPresent b
  if was == now then d
  else if now then
    let d := d.when (d.inService b) fun d => d.blockOut b
    { d with rst := { d.rst with blkSrst := setBit d.rst.blkSrst b true, deferRaised := setBit d.rst.deferRaised b false } }
  else
    let d : Dev := { d with rst := { d.rst with blkSrst := setBit d.rst.blkSrst b false } }
    let d := d.when (decide (b < 4)) fun d => d.modPlate b fun p => { p with resetDone := p.failover }
    if bit d.rst.pllGood (pllOf b) then d.backInService b else d.deferRelease b

theorem blkSrstOp_eq (value : Nat) (d : Dev) : blkSrstOp value d = d.each (List.range 40) (srstStep value) := rfl

/-- A block whose bit stays is left alone. -/
theorem srstStep_same {value b : Nat} {d : Dev} (h : bit d.rst.blkSrst b = (bit value b || !d.blockPresent b)) : srstStep value d b = d :=
  if_pos (by rw [h, beq_self_eq_true])

theorem srstStep_release {value b : Nat} {d : Dev} (hlo : 11 ≤ b) (hhi : b < 24) (hb : bit d.rst.blkSrst b = true) (hv : bit value b = false)
    (hpres : d.blockPresent b = true) : srstStep value d b = releaseOne b d := by
  have h4 : decide (b < 4) = false := decide_eq_false (by omega)
  simp only [srstStep, releaseOne, hb, hv, hpres, h4, backInService_plain _ hlo hhi, Bool.not_true, Bool.or_self, Bool.false_eq_true, if_false]
  rfl

/-- A write of RST.BLK_SRST that clears the bit of one block releases that block alone. -/
theorem blkSrstOp_one {d : Dev} {b : Nat} (hlo : 11 ≤ b) (hhi : b < 24) (hb : bit d.rst.blkSrst b = true) (hpres : d.blockPresent b = true)
    (habsent : ∀ c < 40, d.blockPresent c = false → bit d.rst.blkSrst c = true) :
    blkSrstOp (setBit d.rst.blkSrst b false) d = releaseOne b d := by
  obtain ⟨hsrst, hunits⟩ := releaseOne_same b d
  have hbit := bit_setBit_false hb
  have hv : bit (setBit d.rst.blkSrst b false) b = false := by rw [hbit, if_pos rfl]
  have hkeeps : ∀ c < 40, bit d.rst.blkSrst c = (bit d.rst.blkSrst c || !d.blockPresent c) := fun c hc => by
    cases hp : d.blockPresent c
    · rw [habsent c hc hp]; rfl
    · rw [Bool.not_true, Bool.or_false]
  have hstep := srstStep_release hlo hhi hb hv hpres
  rw [blkSrstOp_eq, each_one (a := b) List.nodup_range (List.mem_range.mpr (by omega)) (fun c hc hne => srstStep_same ?_)
    (fun c hc hne => ?_), hstep]
  · rw [hbit, if_neg hne]
    exact hkeeps c (List.mem_range.mp hc)
  · rw [hstep]
    refine srstStep_same ?_
    rw [hsrst, hbit, if_neg hne, blockPresent_of_units hunits]
    exact hkeeps c (List.mem_range.mp hc)

theorem rst_calm (d : Dev) (r : Rst) : Calm d { d with rst := r } := .of_eqs rfl rfl rfl rfl rfl rfl

theorem releaseOne_calm (b : Nat) (d : Dev) : Calm d (releaseOne b d) := by
  simp only [releaseOne]
  split
  · exact rst_calm ..
  · exact (rst_calm d _).trans ((rst_calm _ _).trans (raise_undisturbed ..))

/-! ### A block reset completes (16 R434) -/

theorem zeroFill_calm (d : Dev) (a n : Nat) : Calm d (d.zeroFill a n) := ⟨rfl, rfl, rfl, rfl, fun _ _ => rfl, fun _ h => h.elim⟩

/-- An address in the chart memory that a block keeps for itself. -/
def inChartPart (b x : Nat) : Bool :=
  match chartPart b with
  | some (lo, n) => decide (lo ≤ x ∧ x < lo + n)
  | none => false

theorem blockResetDoneOp_uncommanded {d : Dev} {b : Nat} (h : d.rst.blkRun.find? (·.1 == b) = some (b, false)) :
    (blockResetDoneOp b d).rst.blkRun = d.rst.blkRun.filter (·.1 != b) ∧ Calm d (blockResetDoneOp b d) ∧
      ∀ x, (blockResetDoneOp b d).peek x = if inChartPart b x then memDefault x else d.peek x := by
  have hplate : ∀ e : Dev, (e.when (decide (b < 4)) fun d => d.modPlate b fun p => { p with resetDone := p.failover }).rst = e.rst ∧
      (e.when (decide (b < 4)) fun d => d.modPlate b fun p => { p with resetDone := p.failover }).mem = e.mem ∧
      Calm e (e.when (decide (b < 4)) fun d => d.modPlate b fun p => { p with resetDone := p.failover }) := fun e => by
    cases decide (b < 4)
    · exact ⟨rfl, rfl, .of_eqs rfl rfl rfl rfl rfl rfl⟩
    · exact ⟨rfl, rfl, .of_eqs rfl rfl rfl rfl rfl rfl⟩
  have hpeek : ∀ {d e : Dev}, e.mem = d.mem → ∀ x, e.peek x = d.peek x := fun h x => by rw [Dev.peek, h, Dev.peek]
  rcases hpart : chartPart b with _ | ⟨lo, n⟩ <;> simp only [blockResetDoneOp, h, inChartPart, hpart]
  · exact ⟨congrArg Rst.blkRun (hplate _).1, (rst_calm d _).trans (hplate _).2.2, fun x => hpeek (hplate _).2.1 x⟩
  · refine ⟨congrArg Rst.blkRun (hplate _).1, (rst_calm d _).trans ((zeroFill_calm _ lo n).trans (hplate _).2.2), fun x => ?_⟩
    refine (hpeek (hplate _).2.1 x).trans ((Dev.zeroFill_get _ _ _ _).trans ?_)
    simp only [decide_eq_true_eq]
    rfl

/-- Settles O47. -/
theorem resetReleaseCompletes : Obligations.ResetReleaseCompletes := by
  unfold Obligations.ResetReleaseCompletes
  refine ⟨fun s hen hst => ⟨to_of (f := pgoodOp) rfl rfl (if_pos (by rw [hen, hst]; rfl)), to_of (f := pgoodTimeoutOp) rfl rfl (if_pos (by rw [hen, hst]; rfl))⟩,
    fun s => to_of (f := thermalReleaseOp) rfl rfl rfl, fun s hst hth hws => ⟨fun hl => ?_, fun hl hw => ?_, fun hl hw => ?_⟩,
    fun s hst hhold => to_of (f := stretchEndOp) rfl rfl (if_pos ?_), fun s hst hnone => gives_of (f := optionLoadOp) rfl rfl (optionLoadOp_none hst hnone),
    fun s b gen w hst huse hgib => gives_of (f := optionLoadOp) rfl rfl (optionLoadOp_some hst huse hgib),
    fun s p hwf h => to_of (f := pllLockOp p) rfl hwf (pllLockOp_alone h),
    fun s p b hwf hp hb hr hpll => to_of (f := fun d => (clockTimeoutOp p d).settled) rfl hwf (congrArg Dev.settled (clockTimeoutOp_waiting hp hb hr hpll)),
    fun s b hq hlo hhi hb hpres habsent => ?_, fun s b hq hwf hrun => ?_⟩
  · exact to_of (f := stretchEndOp) rfl rfl (by rw [stretchEndOp_free hst hth hws, if_pos hl])
  · refine to_of (f := stretchEndOp) rfl rfl ?_
    rw [stretchEndOp_free hst hth hws, if_neg hl]
    simp [hw]
  · refine to_of (f := stretchEndOp) rfl rfl ?_
    rw [stretchEndOp_free hst hth hws, if_neg hl, hw]
    rfl
  · rcases hhold with h | h <;> simp [h]
  · intro w hwf
    have hone := blkSrstOp_one hlo hhi hb hpres habsent
    have hcalm : Calm s.dev (blkSrstOp w s.dev) := by rw [hone]; exact releaseOne_calm b _
    refine ⟨fun hpll => ?_, fun hpll => ⟨_, onDev_settled hwf hq hcalm, ?_⟩⟩
    · have h : blkSrstOp w s.dev = { s.dev with rst := { s.dev.rst with blkSrst := w } } := hone.trans (if_pos hpll)
      rw [To, ← h]
      exact onDev_settled hwf hq hcalm
    · have h : blkSrstOp w s.dev = Dev.deferRelease { s.dev with rst := { s.dev.rst with blkSrst := w } } b :=
        hone.trans (if_neg (by rw [hpll]; decide))
      rw [h]
      beta_reduce
      rw [deferRelease_rst]
      exact ⟨rfl, bit_setBit_same .., bit_setBit_same ..⟩
  · obtain ⟨hruns, hcalm, hpeek⟩ := blockResetDoneOp_uncommanded hrun
    exact ⟨_, onDev_settled hwf hq hcalm, hruns, hpeek⟩

end Sys2Proof.Goals
end

section
/-!
PROOF. The fault logic and the tally channels (16 R442, R443, R445, R446, R449, R453).
-/

namespace Sys2Proof.Goals

open Sys2Proof Sys2Proof.Machine

/-! ### Events and logs of the fault logic (16 R445, R454) -/

@[simp] theorem faultEvent_flt (d : Dev) (k object : Nat) (data : Bytes) (on : Bool) : (d.faultEvent k object data on).flt = d.flt := raise_flt ..

@[simp] theorem faultEvent_rst (d : Dev) (k object : Nat) (data : Bytes) (on : Bool) : (d.faultEvent k object data on).rst = d.rst := raise_rst ..

@[simp] theorem faultEvent_sec (d : Dev) (k object : Nat) (data : Bytes) (on : Bool) : (d.faultEvent k object data on).sec = d.sec := raise_sec ..

theorem faultEvent_calm (d : Dev) (k object : Nat) (data : Bytes) (on : Bool) : Calm d (d.faultEvent k object data on) := raise_undisturbed ..

theorem flt_calm (d : Dev) (x : Faults) : Calm d { d with flt := x } := .of_eqs rfl rfl rfl rfl rfl rfl

@[simp] theorem logFault_flt (d : Dev) (f : FaultRec) : (d.logFault f).flt = { d.flt with log := (f :: d.flt.log).take 64 } := by
  obtain ⟨chain, cells, h⟩ := Dev.audit_frame { d with flt := { d.flt with log := (f :: d.flt.log).take 64 } } 0x000E f.bytes 0xFF 0xFF
  rw [Dev.logFault, h]

@[simp] theorem logFault_rst (d : Dev) (f : FaultRec) : (d.logFault f).rst = d.rst := by rw [Dev.logFault, audit_rst]

@[simp] theorem logFault_service (d : Dev) (f : FaultRec) : (d.logFault f).sec.service = d.sec.service := by
  obtain ⟨chain, cells, h⟩ := Dev.audit_frame { d with flt := { d.flt with log := (f :: d.flt.log).take 64 } } 0x000E f.bytes 0xFF 0xFF
  rw [Dev.logFault, h]

theorem logFault_calm (d : Dev) (f : FaultRec) : Calm d (d.logFault f) := (flt_calm d _).trans (audit_undisturbed _ _ _ fun _ h => h.elim)

/-! ### Handling (16 R442, R443) -/

theorem nextFault_nil {d : Dev} (h : d.flt.queue = []) : d.nextFault = { d with flt := { d.flt with handling := false } } := by
  rw [Dev.nextFault, h]
  rfl

theorem nextFault_one {d : Dev} {f : FaultRec} (h : d.flt.queue = [f]) : d.nextFault = { d with flt := { d.flt with handling := true, queue := [f] } } := by
  rw [Dev.nextFault, h]
  simp [argMax]

/-- The device as a verdict is told, before its record is logged. -/
def judged (d : Dev) (f : FaultRec) (v : Nat) : Dev :=
  Dev.faultEvent { d with flt := { d.flt with queue := d.flt.queue.drop 1, handling := false } } 1 f.unit ({ f with verdict := v } : FaultRec).bytes

@[simp] theorem judged_flt (d : Dev) (f : FaultRec) (v : Nat) : (judged d f v).flt = { d.flt with queue := d.flt.queue.drop 1, handling := false } := faultEvent_flt ..

@[simp] theorem judged_rst (d : Dev) (f : FaultRec) (v : Nat) : (judged d f v).rst = d.rst := faultEvent_rst ..

@[simp] theorem judged_sec (d : Dev) (f : FaultRec) (v : Nat) : (judged d f v).sec = d.sec := faultEvent_sec ..

theorem judged_calm (d : Dev) (f : FaultRec) (v : Nat) : Calm d (judged d f v) := (flt_calm d _).trans (faultEvent_calm ..)

/-- After its response the next record is handled, outside SAFE and with no reset under way. -/
def passOn (d : Dev) : Dev := if d.flt.safe || d.rst.stage != .idle then d else d.nextFault

theorem verdictOn_transient (d : Dev) (f : FaultRec) : d.verdictOn f 1 = passOn ((judged d f 1).logFault { f with verdict := 1 }) := rfl

theorem verdictOn_lasting (d : Dev) (f : FaultRec) : d.verdictOn f 2 = passOn ((judged d f 2).respondLasting { f with verdict := 2 }) := rfl

/-- With nothing left in the queue, handling ends. -/
theorem passOn_nil {d : Dev} (hq : d.flt.queue = []) (hs : d.flt.safe = false) (hst : d.rst.stage = .idle) :
    passOn d = { d with flt := { d.flt with handling := false } } := by
  rw [passOn, hs, hst]
  exact nextFault_nil hq

theorem passOn_reset {d : Dev} (hst : d.rst.stage = .stretch) : passOn d = d := if_pos (by rw [hst]; simp)

/-- The device as the record of a fault has been numbered and told. -/
def told (d : Dev) (unit : Nat) (f : FaultRec) : Dev := Dev.faultEvent { d with flt := { d.flt with seq := (d.flt.seq + 1) % 2 ^ 16 } } 0 unit f.bytes

/-- A fault that finds the logic at rest is handled at once (16 R443). -/
theorem reportFault_first {d : Dev} {unit : Nat} (sub code : Nat) (hr : reportable unit = true) (hu : unit ≠ 0x28)
    (hplate : unit < 4 → (d.plate unit).failover = false) (hs : d.flt.safe = false) (hh : d.flt.handling = false) (hq : d.flt.queue = []) :
    (d.reportFault unit sub code).flt = { d.flt with
      seq := (d.flt.seq + 1) % 2 ^ 16, handling := true
      queue := [{ time := d.now, unit, sub := subOf unit sub, code, severity := faultSeverity unit, verdict := 0, epoch := d.epoch, seq := d.flt.seq }] } ∧
    Calm d (d.reportFault unit sub code) := by
  have hunit : d.faultUnit unit sub = unit := if_neg fun h => hu h.1
  have hwhen : (decide (unit < 4) && (d.plate unit).failover) = false := by
    by_cases h : unit < 4
    · rw [hplate h, Bool.and_false]
    · rw [decide_eq_false h, Bool.false_and]
  generalize hf : ({ time := d.now, unit, sub := subOf unit sub, code, severity := faultSeverity unit, verdict := 0, epoch := d.epoch, seq := d.flt.seq } :
    FaultRec) = f
  have hsafe : ¬ d.flt.safe = true := by rw [hs]; decide
  have hhand : ¬ d.flt.handling = true := by rw [hh]; decide
  have hlen : ¬ 16 ≤ d.flt.queue.length := by rw [hq]; decide
  have heq : d.reportFault unit sub code =
      Dev.nextFault { told d unit f with flt := { (told d unit f).flt with queue := (told d unit f).flt.queue ++ [f] } } := by
    simp only [Dev.reportFault, hunit, hwhen, hr, hf, told, Dev.when, Bool.not_true, Bool.false_eq_true, if_false, if_neg hsafe, if_neg hhand, Option.any_none,
      Option.filter_none, faultEvent_flt, if_neg hlen]
  have hflt : (told d unit f).flt = { d.flt with seq := (d.flt.seq + 1) % 2 ^ 16 } := faultEvent_flt ..
  rw [heq, nextFault_one (f := f) (by rw [hflt]; simp [hq])]
  refine ⟨?_, ((flt_calm d _).trans (faultEvent_calm ..)).trans ((flt_calm (told d unit f) _).trans (flt_calm _ _))⟩
  simp only [hflt]

/-- The retry of a record that no other one waits behind. -/
theorem faultRetryOp_ok {d : Dev} {f : FaultRec} (hh : d.flt.handling = true) (hs : d.flt.safe = false) (hq : d.flt.queue = [f]) (hst : d.rst.stage = .idle)
    (hhap : f.unit ≠ 0x0E) (hunit : f.unit < 0x30) :
    (faultRetryOp true d).flt = { d.flt with handling := false, queue := [], log := ({ f with verdict := 1 } :: d.flt.log).take 64 } ∧
      Calm d (faultRetryOp true d) := by
  have h1 : decide (0x30 ≤ f.unit ∧ f.unit ≤ 0x33) = false := decide_eq_false (by omega)
  have h2 : (f.unit == 0x0E) = false := beq_eq_false_iff_ne.mpr hhap
  have hop : faultRetryOp true d = d.verdictOn f 1 := by
    simp only [faultRetryOp, hq, hh, hs, h1, h2, Bool.not_false, Bool.and_true, Bool.false_and, Bool.and_false, if_true, Dev.when, Bool.false_eq_true, if_false]
  rw [hop, verdictOn_transient, passOn_nil (by simp [hq]) (by simp [hs]) (by simp [hst])]
  refine ⟨by simp [hq], ((judged_calm ..).trans (logFault_calm ..)).trans (flt_calm ..)⟩

theorem faultRetryOp_lasting {d : Dev} {f : FaultRec} (hh : d.flt.handling = true) (hs : d.flt.safe = false) (hq : d.flt.queue = [f]) :
    faultRetryOp false d = passOn ((judged d f 2).respondLasting { f with verdict := 2 }) := by
  have hop : faultRetryOp false d = d.verdictOn f 2 := by
    simp only [faultRetryOp, hq, hh, hs, Bool.not_false, Bool.and_true, Bool.false_and, if_true, Dev.when, Bool.false_eq_true, if_false]
  rw [hop, verdictOn_lasting]

theorem blockReset_own (d : Dev) (b : Nat) : (d.blockReset b false).flt = d.flt ∧ (d.blockReset b false).rst.stage = d.rst.stage ∧
    Calm d (d.blockReset b false) := ⟨rfl, rfl, rst_calm d _⟩

/-- The quarantine of a unit with nothing of its own to give up. -/
theorem quarantine_plain (d : Dev) (sub : Nat) :
    (0x0F, sub) ∈ (d.quarantine 0x0F sub).flt.quar ∧ (∃ l, (d.quarantine 0x0F sub).flt = { d.flt with quar := l }) ∧
      (d.quarantine 0x0F sub).rst.stage = d.rst.stage ∧ Calm d (d.quarantine 0x0F sub) := by
  by_cases hquar : d.quarantined 0x0F sub = true
  · rw [Dev.quarantine, if_pos hquar]
    exact ⟨List.contains_iff_mem.mp hquar, ⟨_, rfl⟩, rfl, flt_calm d d.flt⟩
  · have h : d.quarantine 0x0F sub =
        (Dev.faultEvent { d with flt := { d.flt with quar := (0x0F, sub) :: d.flt.quar } } 2 0x0F (u8 sub) true).blockReset 0x0F false := by
      rw [Dev.quarantine, if_neg hquar]
      rfl
    obtain ⟨hflt, hstage, hcalm⟩ := blockReset_own
      (Dev.faultEvent { d with flt := { d.flt with quar := (0x0F, sub) :: d.flt.quar } } 2 0x0F (u8 sub) true) 0x0F
    rw [h, hflt, hstage]
    refine ⟨by simp, ⟨_, faultEvent_flt ..⟩, by simp, ((flt_calm ..).trans (faultEvent_calm ..)).trans hcalm⟩

theorem respondLasting_plain {d : Dev} {f : FaultRec} (hunit : f.unit = 0x0F) (hsev : f.severity = 1) :
    d.respondLasting f = (d.logFault f).quarantine 0x0F f.sub := by
  rw [Dev.respondLasting, if_neg (by rw [hsev]; decide), if_neg (by rw [hunit]; decide), hunit]

theorem respondLasting_critical {d : Dev} {f : FaultRec} (hsev : f.severity = 3) :
    d.respondLasting f = Dev.resetTo { d.logFault f with flt := { (d.logFault f).flt with retained := (d.logFault f).flt.log } } 0x0A 2 := by
  rw [Dev.respondLasting, if_pos hsev]
  exact takeReset_of_ne_core _ _ (by decide)

/-- A lasting fault of a plain unit quarantines it (16 Table 16.10). -/
theorem faultRetryOp_plain {d : Dev} {f : FaultRec} (hh : d.flt.handling = true) (hs : d.flt.safe = false) (hq : d.flt.queue = [f]) (hst : d.rst.stage = .idle)
    (hunit : f.unit = 0x0F) (hsev : f.severity = 1) :
    let e := faultRetryOp false d
    e.flt.handling = false ∧ e.flt.queue = [] ∧ (f.unit, f.sub) ∈ e.flt.quar ∧ e.flt.log.head? = some { f with verdict := 2 } ∧ Calm d e := by
  rw [faultRetryOp_lasting hh hs hq, respondLasting_plain (by exact hunit) (by exact hsev)]
  have hsub : ({ f with verdict := 2 } : FaultRec).sub = f.sub := rfl
  generalize ({ f with verdict := 2 } : FaultRec) = g at hsub ⊢
  have hlflt : ((judged d f 2).logFault g).flt = { d.flt with handling := false, queue := [], log := (g :: d.flt.log).take 64 } := by simp [hq]
  have hlst : ((judged d f 2).logFault g).rst.stage = .idle := by simp [hst]
  have hlcalm : Calm d ((judged d f 2).logFault g) := (judged_calm ..).trans (logFault_calm ..)
  generalize (judged d f 2).logFault g = l at hlflt hlst hlcalm ⊢
  obtain ⟨hmem, ⟨q, hflt⟩, hstage, hcalm⟩ := quarantine_plain l g.sub
  generalize l.quarantine 0x0F g.sub = k at hmem hflt hstage hcalm ⊢
  rw [hlflt] at hflt
  rw [passOn_nil (by rw [hflt]) (by rw [hflt]; exact hs) (hstage.trans hlst)]
  refine ⟨rfl, by rw [hflt], by rw [hunit, ← hsub]; exact hmem, by rw [hflt]; rfl, (hlcalm.trans hcalm).trans (flt_calm ..)⟩

/-- A lasting fault of a critical unit takes a SYS reset, the handled records in retained SRAM (16 Table 16.10). -/
theorem faultRetryOp_critical {d : Dev} {f : FaultRec} (hh : d.flt.handling = true) (hs : d.flt.safe = false) (hq : d.flt.queue = [f]) (hst : d.rst.stage = .idle)
    (hsev : f.severity = 3) (hservice : d.sec.service = none) :
    let e := faultRetryOp false d
    e.rst.cause = 0x0A ∧ e.rst.level = 2 ∧ e.rst.stage = .stretch ∧ e.flt.retained.head? = some { f with verdict := 2 } ∧ Quiet e := by
  rw [faultRetryOp_lasting hh hs hq, respondLasting_critical (by exact hsev)]
  generalize ({ f with verdict := 2 } : FaultRec) = g
  have hstage : ((judged d f 2).logFault g).rst.stage = .idle := by simp [hst]
  have hserv : ((judged d f 2).logFault g).sec.service = none := by simp [hservice]
  have hlog : ((judged d f 2).logFault g).flt.log = (g :: d.flt.log).take 64 := by simp
  generalize (judged d f 2).logFault g = l at hstage hserv hlog ⊢
  obtain ⟨hstretch, -, -, hcause, hlevel, -⟩ := resetTo_stretching (d := { l with flt := { l.flt with retained := l.flt.log } }) (cause := 0x0A) (level := 2)
    hstage rfl
  rw [passOn_reset hstretch]
  refine ⟨hcause, hlevel, hstretch, ?_, resetTo_quiet (by decide)⟩
  rw [resetTo_retained (by decide) (by decide) (by exact hserv), hlog]
  rfl

/-! ### Tally channels (16 R449) -/

/-- A message that an enabled channel takes sets its check value and is counted; without an alive counter nothing else. -/
theorem tallyOp_taken {d : Dev} {ch : Nat} {msg : Bytes} (hen : bit (d.get .talCfg ch) 63 = true) (halive : bit (d.get .talCfg ch) 51 = false)
    (hfree : d.talReserved ch = false) (hmatch : bits (d.get .talCfg ch) 60 59 = 2 → talMatches (d.get .talMatch ch) msg = true) :
    tallyOp ch msg d = (d.put .talValue ch (tallyCrc (bits (d.get .talCfg ch) 62 61) msg)).count .talCount ch := by
  have hm : (bits (d.get .talCfg ch) 60 59 == 2 && !talMatches (d.get .talMatch ch) msg) = false := by
    by_cases h : bits (d.get .talCfg ch) 60 59 = 2
    · rw [hmatch h, Bool.not_true, Bool.and_false]
    · rw [beq_eq_false_iff_ne.mpr h, Bool.false_and]
  simp only [tallyOp, hen, halive, hfree, hm, Bool.not_true, Bool.not_false, Bool.or_self, Bool.false_eq_true, if_false, if_true]

/-- Settles O51. -/
theorem faultCommandsComplete : Obligations.FaultCommandsComplete := by
  unfold Obligations.FaultCommandsComplete
  refine ⟨fun h => ?_, fun h w => ?_, fun h b => ?_, fun h level b hlo hhi => ?_, fun h ch => ?_,
    fun s unit sub code hquiet hwf hr hu hplate hs hh hq => ?_,
    fun s f hquiet hh hs hq hst => ⟨fun hhap hunit => ?_, fun hunit hsev => ?_, fun hsev hservice => ?_⟩,
    fun s ch msg hwf hen halive hfree hmatch => to_of (f := tallyOp ch msg) rfl hwf (tallyOp_taken hen halive hfree hmatch)⟩
  · refine runs_of _ h .faultRead _ _ _ (fun _ => rfl) nofun fun c d hp => ?_
    show faultReadOp c d = _
    rw [faultReadOp, checked_pass (by simp [hp]), List.flatMap_append, List.append_assoc _ _ (List.flatMap ..)]
  · refine runs_of _ h (.faultClear w) _ _ _ (fun _ => rfl) nofun fun c d ⟨hmed, hunit, hquar, hrun⟩ => ?_
    show faultClearOp c w d = _
    have hany : d.rst.blkRun.any (·.1 == w % 256) = false := by simpa using hrun
    rw [faultClearOp, checked_pass (by simp [hmed, hquar, hany, hunit])]
  · refine runs_of _ h (.reset 0 b) _ _ _ (fun _ => rfl) nofun fun c d ⟨hmed, hb, hpres⟩ => ?_
    show resetOp c 0 b d = _
    rw [resetOp, checked_pass (by simp [hmed, hpres, hb])]
    rfl
  · refine runs_of _ h (.reset level b) _ _ _ (fun _ => rfl) nofun fun c d hmed => ?_
    show resetOp c level b d = _
    have h0 : level ≠ 0 := by omega
    rw [resetOp, checked_pass (by simp [hmed, h0, hhi]), if_neg h0]
  · refine runs_of _ h (.diagTallyRead ch) _ _ _ (fun _ => rfl) nofun fun c d ⟨hp, hch⟩ => ?_
    show diagTallyOp c ch d = _
    rw [diagTallyOp, checked_pass (by simp [hp, hch])]
  · obtain ⟨hflt, hcalm⟩ := reportFault_first sub code hr hu hplate hs hh hq
    refine ⟨_, onDev_settled (f := fun d => d.reportFault unit sub code) hwf hquiet hcalm, ?_⟩
    beta_reduce
    rw [hflt]
    exact ⟨rfl, rfl⟩
  · obtain ⟨hflt, hcalm⟩ := faultRetryOp_ok hh hs hq hst hhap hunit
    refine ⟨_, onDev_settled (f := faultRetryOp true) rfl hquiet hcalm, ?_⟩
    beta_reduce
    rw [hflt]
    exact ⟨rfl, rfl, rfl, rfl⟩
  · obtain ⟨hhand, hqueue, hquar, hlog, hcalm⟩ := faultRetryOp_plain hh hs hq hst hunit hsev
    exact ⟨_, onDev_settled (f := faultRetryOp false) rfl hquiet hcalm, hhand, hqueue, hquar, hlog⟩
  · obtain ⟨hcause, hlevel, hstage, hret, hquiet'⟩ := faultRetryOp_critical hh hs hq hst hsev hservice
    refine gives_of (f := fun d => (faultRetryOp false d).settled) rfl rfl ?_
    rw [settled_quiet _ hquiet']
    exact ⟨hcause, hlevel, hstage, hret⟩

end Sys2Proof.Goals
end

section
/-!
PROOF. The security opcodes and the diagnostic reads (17 R465, R466, R470, R472, R475; 10 Table 10.9, 14 R395).
-/

namespace Sys2Proof.Goals

open Sys2Proof Sys2Proof.Machine

/-- A list of checks of which none fails has the status OK. -/
theorem firstFail_pass {l : List (Bool × Nat)} (h : ∀ x ∈ l, x.1 = false) : firstFail l = stOk := by
  have hnone : l.find? (·.1) = none := List.find?_eq_none.mpr fun x hx => by simp [h x hx]
  rw [firstFail, hnone]
  rfl

theorem auditReadOp_entries {c : Ctx} {first count : Nat} {d : Dev} (hmed : c.ses.mediator = true) (hlen : 28 + 16 + 128 * count ≤ d.maxLen c.ses.port)
    (hseq : 1 ≤ d.sec.auditSeq) :
    auditReadOp c first count d = (some (rRead (u64 d.auditOldest ++ u64 d.sec.auditSeq ++
      (List.range (min count (d.sec.auditSeq + 1 - d.auditFrom (first % 2 ^ 32)))).flatMap fun i =>
        d.peekN (auditAddr (d.auditFrom (first % 2 ^ 32) + i)) 128)), d) := by
  have hlong : decide (d.maxLen c.ses.port < 28 + 16 + 128 * count) = false := decide_eq_false (by omega)
  rw [auditReadOp, checked_pass (by simp [hmed, hlong])]
  simp only [if_neg (show ¬ d.sec.auditSeq = 0 by omega), List.flatMap_map]

theorem serviceEnterOp_pass {c : Ctx} {r : Bytes} {d : Dev} (hmed : c.ses.mediator = true) (hall : ∀ x ∈ d.serviceChecks r, x.1 = false) :
    serviceEnterOp c r d = (some rOk,
      let gen := leVal ((r.drop 196).take 4)
      let dur := leVal ((r.drop 200).take 4)
      let e := Dev.audit { d with sec := { d.sec with challenge := none } } 0x0006 (u8 0 ++ u16 0 ++ u32 gen) c.ses.port 0
      let e : Dev := { e with sec := { e.sec with service := some { gen, durationS := dur, since := e.tim.elapsed }, serviceSinceBoot := true } }
      ((e.measure 7 (Config.sha384 r)).setDebugRegions).raise toPartners { code := 0xED01, object := c.ses.port, data := u32 gen ++ u32 dur }) := by
  rw [serviceEnterOp, checked_pass (by simp [hmed])]
  simp only [firstFail_pass hall, ne_eq, not_true_eq_false, if_false, if_true]

theorem firmwareStageOp_more {c : Ctx} {off : Nat} {data : Bytes} {d : Dev} (hmed : c.ses.mediator = true) (hoff : off + data.length ≤ 2 ^ 24) :
    firmwareStageOp c off false data d = (some rOk, d.stage off data) := by
  rw [firmwareStageOp, checked_pass (by simp [hmed]; omega)]
  rfl

/-- The last part of a Bursol image that passes its checks goes to flash (17 R465). -/
theorem firmwareStageOp_image {c : Ctx} {off : Nat} {data : Bytes} {d : Dev} (hmed : c.ses.mediator = true) (hoff : off + data.length ≤ 2 ^ 24)
    (hst : (d.stage off data).imgStatus (d.stage off data).stagedImage = stOk) (htype : imgType (d.stage off data).stagedImage = 1) :
    firmwareStageOp c off true data d = (some rOk,
      let e := d.stage off data
      let b := e.stagedImage
      let f := e.firmwareDone e.stageSlot stOk b c.ses.port
      { f with sec := { f.sec with flash := smSet [] f.sec.flash e.stageSlot b } }) := by
  rw [firmwareStageOp, checked_pass (by simp [hmed]; omega)]
  have hdir : (imgType (d.stage off data).stagedImage == 2) = false := by rw [htype]; rfl
  simp only [hst, hdir, Bool.not_true, Bool.false_eq_true, and_false, if_false, ne_eq, not_true_eq_false]

theorem eyeScanOp_pass {c : Ctx} {lane dwell dest : Nat} {d : Dev} (hlane : lane ≤ 23) (hpres : d.lanePresent lane = true) (hmed : c.ses.mediator = true)
    (htag : d.allTagged dest 16384 (d.ownerColour c.act) = true) (hlo : 10 ≤ dwell) (hhi : dwell ≤ 32) (hfree : ∀ x ∈ d.scans, x.1 ≠ lane / 4) :
    eyeScanOp c lane dwell dest d =
      (some (rAccepted 1), { d with scans := (lane / 4, { port := c.ses.port, session := c.ses.sid, seq := c.seq, lane, dest }) :: d.scans }) := by
  have hany : d.scans.any (·.1 == lane / 4) = false := by simpa using hfree
  have hl : decide (23 < lane) = false := decide_eq_false (by omega)
  have hdw : decide (dwell < 10 ∨ 32 < dwell) = false := decide_eq_false (by omega)
  rw [eyeScanOp]
  exact checked_pass (by simp [hpres, hmed, htag, hany, hl, hdw, hlane]) _ _

/-- Settles O53. -/
theorem securityCommandsComplete : Obligations.SecurityCommandsComplete := by
  unfold Obligations.SecurityCommandsComplete
  refine ⟨fun h nonce => ?_, fun h first count => ?_, fun h => ?_, fun h body => ?_, fun h => ?_, fun h off data => ?_, fun h off data => ?_,
    fun h o band => ?_, fun h lane dwell dest => ?_, fun s q counts e hq hfind => ?_⟩
  · refine runs_of _ h (.attest nonce) _ _ _ (fun _ => rfl) nofun fun c d ⟨hlife, hnonce⟩ => ?_
    show attestOp nonce d = _
    rw [attestOp, checked_pass (by simp [hlife, hnonce])]
  · exact runs_of _ h (.auditRead first count) _ _ _ (fun _ => rfl) nofun fun c d ⟨hmed, hlen, hseq⟩ => auditReadOp_entries hmed hlen hseq
  · refine runs_of _ h .serviceChallenge _ _ _ (fun _ => rfl) nofun fun c d ⟨hmed, hlife⟩ => ?_
    show serviceChallengeOp c d = _
    rw [serviceChallengeOp, checked_pass (by simp [hmed, hlife])]
    rfl
  · exact runs_of _ h (.serviceEnter body) _ _ _ (fun _ => rfl) nofun fun c d ⟨hmed, hall⟩ => serviceEnterOp_pass hmed hall
  · refine runs_of _ h .serviceExit _ _ _ (fun _ => rfl) nofun fun c d ⟨hmed, hservice⟩ => ?_
    show serviceExitOp c d = _
    rw [serviceExitOp, checked_pass (by simp [hmed, Option.isSome_iff_ne_none.mpr hservice])]
  · exact runs_of _ h (.firmwareStage off false data) _ _ _ (fun _ => rfl) nofun fun c d ⟨hmed, hoff⟩ => firmwareStageOp_more hmed hoff
  · exact runs_of _ h (.firmwareStage off true data) _ _ _ (fun _ => rfl) nofun fun c d ⟨hmed, hoff, hst, htype⟩ =>
      firmwareStageOp_image hmed hoff hst htype
  · refine runs_of _ h (.diagTileRead o band) _ _ _ (fun _ => rfl) nofun fun c d ⟨ho, hpres, hown, hband⟩ => ?_
    show diagTileOp c o band d = _
    rw [diagTileOp, checked_pass (by simp [ho, hpres, hown, hband])]
  · exact runs_of _ h (.diagEyeScan lane dwell dest) _ _ _ (fun _ => rfl) nofun fun c d ⟨hlane, hpres, hmed, htag, hlo, hhi, hfree⟩ =>
      eyeScanOp_pass hlane hpres hmed htag hlo hhi hfree
  · refine to_of (f := fun d => (eyeScanDoneOp q counts d).settled) rfl (decide_eq_true hq) (congrArg Dev.settled ?_)
    rw [eyeScanDoneOp, hfind]

end Sys2Proof.Goals
end

section
/-!
PROOF. Bursol once it runs goes on running through what its start does (17 R458, R462, R463; 16 R431, R435).
-/

namespace Sys2Proof.Goals

open Sys2Proof Sys2Proof.Machine

/-- Bursol runs and answers sessions. -/
def Alive (d : Dev) : Prop := d.alive = true

namespace Alive

theorem of_rst {d e : Dev} (h : Alive d) (hr : e.rst = d.rst) : Alive e := by
  rw [Alive, Dev.alive, hr]
  exact h

theorem of_tells {d e : Dev} (h : Alive d) (ht : Tells d e) : Alive e := h.of_rst (by rw [Tells.eq ht])

theorem when {f : Dev → Dev} (hf : ∀ d, Alive d → Alive (f d)) {d : Dev} (h : Alive d) (b : Bool) : Alive (d.when b f) := by
  cases b
  · exact h
  · exact hf d h

theorem each {α : Type} {f : Dev → α → Dev} (hf : ∀ d a, Alive d → Alive (f d a)) (l : List α) {d : Dev} (h : Alive d) : Alive (d.each l f) :=
  List.foldlRecOn (motive := Alive) l f h fun _ he a _ => hf _ a he

variable {d : Dev} (h : Alive d)

include h

theorem audit (code : Nat) (data : Bytes) (port tenancy : Nat) : Alive (d.audit code data port tenancy) := by
  obtain ⟨chain, cells, he⟩ := Dev.audit_frame d code data port tenancy
  exact h.of_rst (by rw [he])

theorem measure (kind : Nat) (dg : Bytes) : Alive (d.measure kind dg) :=
  audit (d := { d with sec := { d.sec with meas := padTo 48 (Config.sha384 (d.sec.meas ++ padTo 48 dg)), measCount := (d.sec.measCount + 1) % 2 ^ 16 } }) h ..

theorem raise (r : Session → Bool) (e : Event) : Alive (d.raise r e) := h.of_rst (raise_rst ..)

theorem setDebugRegions : Alive d.setDebugRegions := h.of_rst (setDebugRegions_rst d)

theorem endService (cause : Nat) : Alive (d.endService cause) := by
  rw [Alive, Dev.alive, endService_rst]
  exact h

theorem setRegion (m r w : Nat) : Alive (d.setRegion m r w) := h

theorem setVcore (mv : Nat) (raising : Bool) : Alive (d.setVcore mv raising) := by
  unfold Dev.setVcore
  split <;> exact h

theorem enterSafe : Alive d.enterSafe := by
  unfold Dev.enterSafe
  split
  · exact h
  · exact raise (d := { d with flt := { d.flt with safe := true, handling := false } }) h ..

theorem copyTamper (e : Nat) : Alive (d.copyTamper e) := (h.audit ..).raise ..

theorem tamperBoot : Alive d.tamperBoot := by
  unfold Dev.tamperBoot
  exact when (fun _ h => h.endService 2) (when (fun _ h => h.enterSafe) (each (fun _ e h => h.copyTamper e) _ h) _) _

theorem resetDone : Alive d.resetDone := raise (d := d.resetRecorded) h ..

/-! ### Commands that a CORE reset ends (16 R435) -/

theorem retain (port : Nat) (r : Rec) : Alive (d.retain port r) := by
  unfold Dev.retain
  split <;> exact h

theorem modRec (port sid seq : Nat) (f : Rec → Rec) : Alive (d.modRec port sid seq f) := by
  unfold Dev.modRec
  dsimp only
  split
  · exact h
  · refine retain ?_ ..
    exact h

theorem finish (port sid seq st ph : Nat) (squashed fault : Bool) : Alive (d.finish port sid seq st ph squashed fault) := h.modRec ..

theorem reply (port peer sid seq op st ph : Nat) (trunc bg : Bool) (body : Bytes) (via : Option Via) :
    Alive (d.reply port peer sid seq op st ph trunc bg body via) := by
  unfold Dev.reply
  dsimp only
  have hsend : ∀ (cfg : Nat) (o : Out), Alive (if port = 2 ∨ port = 3 then d.ncTx cfg peer o else d.send o) := fun cfg o => by
    split
    · exact h.of_tells (ipTx_tells ..)
    · exact h
  cases via with
  | none => exact hsend ..
  | some v =>
    refine of_tells ?_ (signal_tells ..)
    exact hsend ..

theorem finishReply (port sid seq : Nat) (r : Res) : Alive (d.finishReply port sid seq r) := by
  unfold Dev.finishReply
  split
  · exact h
  · dsimp only
    generalize hm : d.modRec port sid seq _ = m
    have hm : Alive m := hm ▸ h.modRec ..
    have ho : Alive (if r.bg then m else { m with orphans := m.orphans.filter (· != (port, sid, seq)) }) := by
      split <;> exact hm
    split
    · exact ho
    · exact ho.reply ..

theorem endByReset (port sid : Nat) (r : Rec) : Alive (d.endByReset port sid r) := by
  unfold Dev.endByReset
  dsimp only
  split
  · exact (h.modRec ..).finish ..
  · exact (h.modRec ..).finishReply ..

theorem endInFlight : Alive d.endInFlight := by
  unfold Dev.endInFlight
  refine each (fun d o h => ?_) _ (each (fun d s h => each (fun d r h => h.endByReset s.port s.sid r) _ h) _ h)
  split
  · exact (h.modRec ..).finish ..
  · exact h

theorem stopRuns : Alive d.stopRuns := by
  unfold Dev.stopRuns
  refine each (fun d n h => ?_) _ h
  dsimp only
  split
  · split <;> exact h
  · split <;> exact h

/-! ### The start from an image (17 R462, R463) -/

theorem auditBoot : Alive d.auditBoot := by
  have hsec : ∀ x : Sec, Alive { d with sec := x } := fun _ => h
  unfold Dev.auditBoot
  generalize (match d.auditNewer with | some (_, _, s, c) => (s, c) | none => (0, zeros 48)) = start
  obtain ⟨seq0, chain0⟩ := start
  dsimp only
  generalize d.auditWalk _ _ _ = found
  obtain ⟨seq, chain, torn⟩ := found
  exact when (fun _ h => (audit h ..).raise ..) (hsec _) _

theorem releaseCart (img : Bytes) : Alive (d.releaseCart img) := by
  unfold Dev.releaseCart
  have hsec : ∀ (e : Dev) (x : Sec), Alive e → Alive { e with sec := x } := fun _ _ he => he
  have hreg := fun w => setRegion (measure h 5 (Config.sha384 ((img.drop (imgLe img 36 4)).take (imgLe img 40 4)))) 0 0 w
  generalize regionWord _ _ _ _ _ = w
  exact hsec _ _ (hreg w)

end Alive

/-- Bursol set running on a device whose reset has ended. -/
theorem Alive.of_idle {d : Dev} (x : Sec) (hidle : d.rst.stage = .idle) : Alive { d with rst := { d.rst with bursol := true }, sec := x } := by
  show (true && d.rst.stage == .idle) = true
  rw [hidle]
  rfl

theorem restartBursol_alive {d : Dev} (hidle : d.rst.stage = .idle) : Alive d.restartBursol := by
  unfold Dev.restartBursol
  exact .resetDone (.tamperBoot (.stopRuns (.endInFlight (.measure (.of_idle _ hidle) ..))))

theorem startBursol_alive {d : Dev} (img : Bytes) (uploaded : Bool) (hidle : d.rst.stage = .idle) : Alive (d.startBursol img uploaded) := by
  unfold Dev.startBursol
  exact .resetDone (.tamperBoot (.setVcore (.setDebugRegions (.when (fun _ h => h.audit ..) (.releaseCart (.measure (.measure (.measure (.measure
    (.audit (.auditBoot (.of_idle _ hidle)) ..) ..) ..) ..) ..) _) _)) ..))

end Sys2Proof.Goals
end

section
/-!
PROOF. Boot, SERVICE's end, tamper inputs, debug halts and frames on S0, where each takes effect (17 R458, R460, R461, R464, R472, R476, R477; 16 R435; 10 R260).
-/

namespace Sys2Proof.Goals

open Sys2Proof Sys2Proof.Machine

/-! ### Boot (17 R458) -/

/-- Where no slot's image passes, the ROM waits for an upload. -/
theorem bootFrom_none {d : Dev} {l : List Nat} (h : ∀ k ∈ l, d.bootStatus (d.flashImg k) ≠ stOk) (bad : List (Nat × Nat)) :
    d.bootFrom bad l = { d with sec := { d.sec with mailbox := { waiting := true } } } := by
  induction l generalizing bad with
  | nil => rfl
  | cons k l ih =>
    rw [Dev.bootFrom]
    simp only [if_neg (h k List.mem_cons_self)]
    exact ih (fun j hj => h j (List.mem_cons_of_mem k hj)) _

theorem bootFrom_first {d : Dev} {k : Nat} {l : List Nat} (h : d.bootStatus (d.flashImg k) = stOk) :
    d.bootFrom [] (k :: l) = d.startBursol (d.flashImg k) false := by
  rw [Dev.bootFrom]
  simp only [if_pos h]
  rfl

section Start

variable {d : Dev} (hidle : d.rst.stage = .idle) (hb : d.rst.bursol = false) (hpow : d.bsh.st ≠ .standby)

include hidle hb hpow

theorem bursolStartOp_ready : bursolStartOp d =
    if d.rst.level = 3 && !d.sec.running.digest.isEmpty then d.restartBursol
    else if d.sec.mailbox.waiting || !bit d.rst.pllGood 2 then d else d.bootFrom [] d.bootOrder := by
  rw [bursolStartOp, if_neg (by simp [hidle, hb, hpow])]

theorem bursolStartsOp_restart (hl : d.rst.level = 3) (hdig : d.sec.running.digest ≠ []) : bursolStartsOp d = d.restartBursol.takeHeld.settled := by
  have h : bursolStartOp d = d.restartBursol := by
    rw [bursolStartOp_ready hidle hb hpow, if_pos (by simp [hl, hdig])]
  simp only [bursolStartsOp, h]
  exact if_pos (restartBursol_alive hidle)

theorem bursolStartOp_boot (hl : d.rst.level ≠ 3) (hw : d.sec.mailbox.waiting = false) (hpll : bit d.rst.pllGood 2 = true) :
    bursolStartOp d = d.bootFrom [] d.bootOrder := by
  rw [bursolStartOp_ready hidle hb hpow, if_neg (by simp [hl]), if_neg (by simp [hw, hpll])]

theorem bursolStartsOp_image (hl : d.rst.level ≠ 3) (hw : d.sec.mailbox.waiting = false) (hpll : bit d.rst.pllGood 2 = true) {k : Nat} {l : List Nat}
    (horder : d.bootOrder = k :: l) (hok : d.bootStatus (d.flashImg k) = stOk) :
    bursolStartsOp d = (d.startBursol (d.flashImg k) false).takeHeld.settled := by
  have h : bursolStartOp d = d.startBursol (d.flashImg k) false := by
    rw [bursolStartOp_boot hidle hb hpow hl hw hpll, horder, bootFrom_first hok]
  simp only [bursolStartsOp, h]
  exact if_pos (startBursol_alive _ _ hidle)

theorem bursolStartsOp_wait (hl : d.rst.level ≠ 3) (hw : d.sec.mailbox.waiting = false) (hpll : bit d.rst.pllGood 2 = true)
    (hall : ∀ k ∈ d.bootOrder, d.bootStatus (d.flashImg k) ≠ stOk) :
    bursolStartsOp d = { d with sec := { d.sec with mailbox := { waiting := true } } } := by
  have h : bursolStartOp d = { d with sec := { d.sec with mailbox := { waiting := true } } } := by
    rw [bursolStartOp_boot hidle hb hpow hl hw hpll, bootFrom_none hall]
  simp only [bursolStartsOp, h]
  refine if_neg ?_
  show ¬ (d.rst.bursol && d.rst.stage == .idle) = true
  rw [hb, Bool.false_and]
  decide

end Start

theorem sec_calm (d : Dev) (x : Sec) : Calm d { d with sec := x } := .of_eqs rfl rfl rfl rfl rfl rfl

theorem bootMailboxOp_rejected {d : Dev} (addr len : Nat) {image : Bytes} (hw : d.sec.mailbox.waiting = true) (hbad : d.bootStatus image ≠ stOk) :
    bootMailboxOp addr len image d = { d with sec := { d.sec with mailbox := { waiting := true, status := 2, code := d.bootStatus image, addr, len } } } := by
  simp only [bootMailboxOp, hw, Bool.not_true, Bool.false_eq_true, if_false, if_neg hbad]

/-! ### SERVICE ends (17 R472) -/

theorem setRegion_calm (d : Dev) (m r w : Nat) : Calm d (d.setRegion m r w) := .of_eqs rfl rfl rfl rfl rfl rfl

theorem setDebugRegions_calm (d : Dev) : Calm d d.setDebugRegions := by
  unfold Dev.setDebugRegions
  exact each_undisturbed (fun d r => setRegion_calm d 23 r _) _ d

theorem setDebugRegions_sec (d : Dev) : d.setDebugRegions.sec = d.sec := by
  unfold Dev.setDebugRegions
  exact each_keeps (·.sec) (f := fun e r => e.setRegion 23 r (d.debugRegions.getD r 0)) (fun _ _ => rfl) _ d

theorem audit_calm (d : Dev) (code : Nat) (data : Bytes) : Calm d (d.audit code data) := audit_undisturbed _ _ _ fun _ h => h.elim

theorem endService_exit {d : Dev} {v : Service} (cause : Nat) (hv : d.sec.service = some v) :
    (d.endService cause).sec.service = none ∧ (d.endService cause).rst.halted = [] ∧ (d.endService cause).sec.auditSeq = d.sec.auditSeq + 1 ∧
      Calm d (d.endService cause) := by
  have hrst := endService_rst d cause
  simp only [Dev.endService, hv] at hrst ⊢
  generalize he : Dev.setDebugRegions _ = e
  have hesec : e.sec = { d.sec with service := none } := by rw [← he, setDebugRegions_sec]
  have hecalm : Calm d e := by
    rw [← he]
    refine .trans ?_ (setDebugRegions_calm _)
    exact .of_eqs rfl rfl rfl rfl rfl rfl
  rw [he] at hrst
  rw [hrst, raise_sec, audit_sec, hesec]
  exact ⟨rfl, rfl, rfl, (hecalm.trans (audit_calm ..)).trans (raise_undisturbed ..)⟩

/-! ### Tamper inputs (17 R476, R477) -/

theorem smGet_filter {α : Type} (d : α) (m : List (Nat × α)) (g : Nat × α → Bool) {k : Nat} (h : ∀ v, g (k, v) = true) : smGet d (m.filter g) k = smGet d m k := by
  induction m with
  | nil => rfl
  | cons e m ih =>
    obtain ⟨j, v⟩ := e
    by_cases hj : k = j
    · subst hj
      rw [List.filter_cons_of_pos (h v)]
      simp only [smGet, if_true]
    · cases hg : g (j, v)
      · rw [List.filter_cons_of_neg (by rw [hg]; decide), ih]
        simp only [smGet, if_neg hj]
      · rw [List.filter_cons_of_pos hg]
        simp only [smGet, if_neg hj, ih]

theorem KeysKept.mono {cs cs' : List Nat} (hsub : cs ⊆ cs') {d e : Dev} (h : KeysKept cs d e) : KeysKept cs' d e := fun x k hk => h x k fun hmem => hk (hsub hmem)

theorem get_put_other {d : Dev} {p : Par} {i a : Nat} (v : Nat) (h : i ≠ a) : (d.put p a v).get p i = d.get p i :=
  smGet_set_ne _ _ _ _ (by simp only [Par.key, Bool.toNat_false]; omega)

/-- Writing zeros to slots of a parameter, each of them reads zero, and one that read zero still does. -/
theorem each_put_zero (p : Par) {i : Nat} (l : List Nat) {d : Dev} (h : i ∈ l ∨ d.get p i = 0) : (d.each l fun d i => d.put p i 0).get p i = 0 := by
  unfold Dev.each
  induction l generalizing d with
  | nil => exact h.resolve_left (by simp)
  | cons a l ih =>
    refine ih ?_
    by_cases ha : i = a
    · subst ha
      exact .inr ((get_put_same ..).trans (Nat.zero_mod _))
    · rw [get_put_other 0 ha]
      exact h.imp_left fun hm => (List.mem_cons.mp hm).resolve_left ha

/-- The parameters that the erasure of the AO domain clears. -/
def aoErased : List Nat := [Par.rstBackup.ctorIdx, Par.rstAoSram.ctorIdx]

theorem KeysKept.filter {cs : List Nat} (d : Dev) {g : Nat × Nat → Bool} (h : ∀ k v, k / 2 ^ 25 ∉ cs → g (k, v) = true) :
    KeysKept cs d { d with regs := d.regs.filter g } := fun x k hk => smGet_filter x _ g fun v => h k v hk

/-- A key of retained SRAM's first 4 KiB. -/
def isErasedSram (k : Nat) : Bool := (List.range 4096).any fun i => k == Par.rstAoSram.key i false

theorem not_isErasedSram {k : Nat} (hk : k / 2 ^ 25 ≠ Par.rstAoSram.ctorIdx) : isErasedSram k = false := by
  refine List.any_eq_false.mpr fun i hi heq => hk ?_
  have hi := List.mem_range.mp hi
  rw [beq_iff_eq.mp heq, key_div false (by omega)]

/-- RST.BACKUP[0] to [23] cleared. -/
def backupErased (d : Dev) : Dev := d.each (List.range 24) fun d i => d.put .rstBackup i 0

theorem eraseAo_eq (d : Dev) : d.eraseAo = { backupErased d with regs := (backupErased d).regs.filter fun e => !isErasedSram e.1 } := rfl

theorem sram_kept (d : Dev) : KeysKept [Par.rstAoSram.ctorIdx] d { d with regs := d.regs.filter fun e => !isErasedSram e.1 } :=
  .filter d fun k v hk => by simp only [not_isErasedSram fun h => hk (by rw [h]; exact List.mem_singleton_self _), Bool.not_false]

theorem backupErased_keys (d : Dev) : KeysKept [Par.rstBackup.ctorIdx] d (backupErased d) := by
  refine .each (fun d i hi => .put d 0 (by decide) ?_) d
  have := List.mem_range.mp hi
  omega

theorem eraseAo_keys (d : Dev) : KeysKept aoErased d d.eraseAo := by
  rw [eraseAo_eq]
  exact ((backupErased_keys d).mono (by decide)).trans ((sram_kept _).mono (by decide))

theorem eraseAo_backup (d : Dev) {i : Nat} (hi : i < 24) : d.eraseAo.get .rstBackup i = 0 := by
  rw [eraseAo_eq, (sram_kept (backupErased d)).get (p := .rstBackup) (by decide) (by omega)]
  exact each_put_zero .rstBackup (List.range 24) (.inl (List.mem_range.mpr hi))

/-- A change of the parameter file that leaves SES.PORT_CFG starts nothing. -/
theorem regs_calm (d : Dev) (r : List (Nat × Nat)) (h : ∀ p < 6, ({ d with regs := r } : Dev).get .sesPortCfg p = d.get .sesPortCfg p) : Calm d { d with regs := r } :=
  ⟨rfl, rfl, rfl, rfl, h, fun _ h => h.elim⟩

theorem eraseAo_calm (d : Dev) : Calm d d.eraseAo := by
  have hputs : Calm d (backupErased d) := each_undisturbed_mem (fun d i hi => put_undisturbed_small d 0 (by decide) (by
    have := List.mem_range.mp hi
    omega)) d
  rw [eraseAo_eq]
  exact hputs.trans (regs_calm _ _ fun p hp => (sram_kept _).get (p := .sesPortCfg) (by decide) (by omega))

/-- The device as an edge has been logged. -/
def tamperLogged (d : Dev) (n : Nat) (assertion : Bool) : Dev :=
  let ovf := decide (16 ≤ d.sec.tamperLog.length)
  { d with sec := { d.sec with tamperLog := (if ovf then d.sec.tamperLog.drop 1 else d.sec.tamperLog) ++ [d.tamperEntry n assertion ovf] } }

/-- The device as an edge has been logged, and copied into the audit log where Bursol runs. -/
def tamperNoted (d : Dev) (n : Nat) (assertion : Bool) : Dev :=
  let x := tamperLogged d n assertion
  if x.alive then x.copyTamper (d.tamperEntry n assertion (decide (16 ≤ d.sec.tamperLog.length)))
  else { x with sec := { x.sec with tamperUncopied := min 16 (x.sec.tamperUncopied + 1) } }

theorem copyTamper_sec (d : Dev) (e : Nat) : ∃ chain, (d.copyTamper e).sec = { d.sec with auditSeq := d.sec.auditSeq + 1, auditChain := chain } := by
  rw [Dev.copyTamper, raise_sec, audit_sec]
  exact ⟨_, rfl⟩

theorem copyTamper_calm (d : Dev) (e : Nat) : Calm d (d.copyTamper e) := (audit_calm ..).trans (raise_undisturbed ..)

theorem audit_regs (d : Dev) (code : Nat) (data : Bytes) : (d.audit code data).regs = d.regs := by
  obtain ⟨chain, cells, h⟩ := Dev.audit_frame d code data 0xFF 0xFF
  rw [h]

theorem copyTamper_keys (d : Dev) (e : Nat) : KeysKept tellCounters d (d.copyTamper e) := (KeysKept.of_regs (audit_regs ..)).trans (Told.raise ..).keys

theorem tamperNoted_calm (d : Dev) (n : Nat) (assertion : Bool) : Calm d (tamperNoted d n assertion) := by
  have hlog : Calm d (tamperLogged d n assertion) := sec_calm ..
  unfold tamperNoted
  dsimp only
  split
  · exact hlog.trans (copyTamper_calm ..)
  · exact hlog.trans (sec_calm ..)

theorem tamperNoted_keys (d : Dev) (n : Nat) (assertion : Bool) : KeysKept tellCounters d (tamperNoted d n assertion) := by
  have hlog : KeysKept tellCounters d (tamperLogged d n assertion) := .of_regs rfl
  unfold tamperNoted
  dsimp only
  split
  · exact hlog.trans (copyTamper_keys _ _)
  · exact .of_regs rfl

/-- An edge is logged behind those held; while Bursol runs it is in the audit log too. -/
theorem tamperNoted_sec {d : Dev} (n : Nat) (assertion : Bool) (hlen : d.sec.tamperLog.length < 16) :
    (tamperNoted d n assertion).sec.tamperLog = d.sec.tamperLog ++ [d.tamperEntry n assertion false] ∧
      (d.alive = true → (tamperNoted d n assertion).sec.auditSeq = d.sec.auditSeq + 1) ∧
      (d.alive = false → (tamperNoted d n assertion).sec.auditSeq = d.sec.auditSeq) := by
  have hovf : decide (16 ≤ d.sec.tamperLog.length) = false := decide_eq_false (by omega)
  have hws : (tamperLogged d n assertion).sec = { d.sec with tamperLog := d.sec.tamperLog ++ [d.tamperEntry n assertion false] } := by
    simp only [tamperLogged, hovf, Bool.false_eq_true, if_false]
  have hwa : (tamperLogged d n assertion).alive = d.alive := rfl
  simp only [tamperNoted, hwa]
  generalize tamperLogged d n assertion = w at hws ⊢
  cases d.alive
  · rw [if_neg (by decide)]
    have hlog : w.sec.tamperLog = d.sec.tamperLog ++ [d.tamperEntry n assertion false] := by rw [hws]
    have hseq : w.sec.auditSeq = d.sec.auditSeq := by rw [hws]
    exact ⟨hlog, nofun, fun _ => hseq⟩
  · obtain ⟨chain, hsec⟩ := copyTamper_sec w (d.tamperEntry n assertion (decide (16 ≤ d.sec.tamperLog.length)))
    rw [if_pos rfl, hsec, hws]
    exact ⟨rfl, fun _ => rfl, nofun⟩

theorem tamperOp_off {d : Dev} {n : Nat} (on : Bool) (h : bit (d.get .secTamperCfg n) 15 = false) : tamperOp n on d = d := by
  simp only [tamperOp, h, Bool.not_false, if_true]

theorem tamperOp_release {d : Dev} {n : Nat} (h : bit (d.get .secTamperCfg n) 15 = true) : tamperOp n false d = tamperNoted d n false := by
  simp only [tamperOp, h, Bool.not_true, Bool.not_false, Bool.false_eq_true, if_false, if_true]
  rfl

/-- An assertion that asks for the erasure alone erases (17 R476). -/
theorem tamperOp_erase {d : Dev} {n : Nat} (h15 : bit (d.get .secTamperCfg n) 15 = true) (h6 : bit (d.get .secTamperCfg n) 6 = true)
    (h7 : bit (d.get .secTamperCfg n) 7 = false) (h5 : bit (d.get .secTamperCfg n) 5 = false) (hnight : d.flag .bshNightCfg 0 (20 + n) = false) :
    tamperOp n true d = (tamperNoted d n true).eraseAo := by
  have hkeys : KeysKept (tellCounters ++ aoErased) d (tamperNoted d n true).eraseAo :=
    ((tamperNoted_keys d n true).mono (List.subset_append_left ..)).trans ((eraseAo_keys _).mono (List.subset_append_right ..))
  have hflag : (tamperNoted d n true).eraseAo.flag .bshNightCfg 0 (20 + n) = false := by
    rw [Dev.flag, hkeys.get (p := .bshNightCfg) (by decide) (by decide)]
    exact hnight
  have hop : tamperOp n true d = (tamperNoted d n true).eraseAo.when ((tamperNoted d n true).eraseAo.flag .bshNightCfg 0 (20 + n)) fun d => d.wake := by
    simp only [tamperOp, h15, h6, h7, h5, Bool.not_true, Bool.false_eq_true, if_false]
    rfl
  rw [hop, hflag]
  rfl

/-! ### Debug halts (17 R468) -/

theorem debugHaltOp_calm (k : Nat) (halt : Bool) (d : Dev) : Calm d (debugHaltOp k halt d) := by
  unfold debugHaltOp
  split
  · split
    · exact rst_calm ..
    · exact .refl d
  · exact rst_calm ..

/-- Settles O54. -/
theorem bootAndTamperComplete : Obligations.BootAndTamperComplete := by
  unfold Obligations.BootAndTamperComplete
  refine ⟨fun s hidle hb hpow => ⟨fun hl hdig => to_of (f := bursolStartsOp) rfl rfl (bursolStartsOp_restart hidle hb hpow hl hdig), fun hl hw hpll =>
      ⟨fun k l horder hok => to_of (f := bursolStartsOp) rfl rfl (bursolStartsOp_image hidle hb hpow hl hw hpll horder hok),
       fun hall => to_of (f := bursolStartsOp) rfl rfl (bursolStartsOp_wait hidle hb hpow hl hw hpll hall)⟩⟩,
    fun s ep addr len image hwf hw => ⟨fun hok => ?_, fun hbad hq => ?_⟩, fun s halive hcommit hcore hsvn => to_of (f := svnCommitOp) rfl rfl ?_,
    fun s v hq hv => ?_, fun s n hn hq hcfg hlen => ?_, fun s n hn hq h15 h6 h7 h5 hnight => ?_, fun s n on hn hcfg hq => ?_,
    fun s k hk hq => ⟨fun hmay hmem => ?_, fun hmay => ?_, ?_⟩, fun s n p halive => ⟨fun hn => ?_, ?_, fun hn => ?_⟩⟩
  · refine to_of (f := fun d => (bootMailboxOp addr len image d).settled) rfl hwf (congrArg Dev.settled ?_)
    simp only [bootMailboxOp, hw, Bool.not_true, Bool.false_eq_true, if_false, if_pos hok]
  · have h := bootMailboxOp_rejected addr len hw hbad
    rw [To, ← h]
    exact onDev_settled (f := bootMailboxOp addr len image) hwf hq (h ▸ sec_calm ..)
  · simp only [svnCommitOp, halive, hcommit, hcore, decide_eq_true hsvn, Bool.not_false, Bool.and_self, if_true]
  · obtain ⟨hservice, hhalted, hseq, hcalm⟩ := endService_exit 1 hv
    exact ⟨_, onDev_settled (f := fun d => d.endService 1) rfl hq hcalm, hservice, hhalted, hseq⟩
  · have h := tamperOp_release hcfg
    have hcalm : Calm s.dev (tamperOp n false s.dev) := h ▸ tamperNoted_calm ..
    refine ⟨_, onDev_settled (f := tamperOp n false) (decide_eq_true hn) hq hcalm, ?_⟩
    rw [h]
    exact tamperNoted_sec n false hlen
  · have h := tamperOp_erase h15 h6 h7 h5 hnight
    have hcalm : Calm s.dev (tamperOp n true s.dev) := h ▸ (tamperNoted_calm ..).trans (eraseAo_calm _)
    refine ⟨_, onDev_settled (f := tamperOp n true) (decide_eq_true hn) hq hcalm, fun i hi => ?_⟩
    rw [h]
    exact eraseAo_backup _ hi
  · have h := tamperOp_off on hcfg
    have hcalm : Calm s.dev (tamperOp n on s.dev) := by rw [h]; exact .refl _
    have hto := onDev_settled (f := tamperOp n on) (decide_eq_true hn) hq hcalm
    rw [h] at hto
    exact hto
  · have h : debugHaltOp k true s.dev = { s.dev with rst := { s.dev.rst with halted := k :: s.dev.rst.halted } } := by simp [debugHaltOp, hmay, hmem]
    rw [To, ← h]
    exact onDev_settled (f := debugHaltOp k true) (decide_eq_true hk) hq (debugHaltOp_calm ..)
  · have h : debugHaltOp k true s.dev = s.dev := by simp [debugHaltOp, hmay]
    have hto := onDev_settled (f := debugHaltOp k true) (decide_eq_true hk) hq (debugHaltOp_calm ..)
    rw [h] at hto
    exact hto
  · exact onDev_settled (f := debugHaltOp k false) (decide_eq_true hk) hq (debugHaltOp_calm ..)
  · refine to_of (f := s0FrameOp true n p) rfl rfl ?_
    rw [s0FrameOp, if_neg (by simp [hn])]
  · refine to_of (f := s0FrameOp false n p) rfl rfl ?_
    exact if_pos halive
  · refine to_of (f := s0FrameOp true n p) rfl rfl ?_
    rw [s0FrameOp, if_pos (by simp [hn])]
    exact if_pos halive

end Sys2Proof.Goals
end

section
/-!
PROOF. What leaves a device over its chain links starts nothing and leaves the chain logic as it is (14 R385, R387; 15 R402).
-/

namespace Sys2Proof.Goals

open Sys2Proof Sys2Proof.Machine

/-- A device whose links send: nothing is started, and the chain logic stands. -/
structure Sending (d e : Dev) : Prop where
  calm : Calm d e
  chain : e.chain = d.chain

namespace Sending

theorem refl (d : Dev) : Sending d d := ⟨.refl d, rfl⟩

theorem trans {a b c : Dev} (h : Sending a b) (h' : Sending b c) : Sending a c := ⟨h.calm.trans h'.calm, h'.chain.trans h.chain⟩

theorem when {f : Dev → Dev} (hf : ∀ d, Sending d (f d)) (d : Dev) (b : Bool) : Sending d (d.when b f) := by
  cases b
  · exact refl d
  · exact hf d

theorem each {α : Type} {f : Dev → α → Dev} (hf : ∀ d a, Sending d (f d a)) (l : List α) (d : Dev) : Sending d (d.each l f) :=
  List.foldlRecOn (motive := fun e => Sending d e) l f (refl d) fun _ he a _ => he.trans (hf _ a)

theorem raise (d : Dev) (r : Session → Bool) (e : Event) : Sending d (d.raise r e) := ⟨raise_undisturbed .., by simp⟩

theorem setMdk (d : Dev) (p : Nat) (m : Mdk) : Sending d (d.setMdk p m) := ⟨.of_eqs rfl rfl rfl rfl rfl rfl, rfl⟩

theorem mdkCount (d : Dev) (p k n : Nat) : Sending d (d.mdkCount p k n) := ⟨put_undisturbed d _ _ (by decide), rfl⟩

theorem send (d : Dev) (o : Out) : Sending d (d.send o) := ⟨.of_eqs rfl rfl rfl rfl rfl rfl, rfl⟩

theorem mdkEnter (d : Dev) (p : Nat) (st : MdkSt) : Sending d (d.mdkEnter p st) := by
  unfold Dev.mdkEnter
  dsimp only
  have h : ∀ m : Mdk, Sending d (((d.setMdk p m).when (st == .recovery && (d.mdk p).st != .recovery) fun d => d.mdkCount p 5).when
      (st == .idle && (d.mdk p).st != .idle) fun d => d.mdkCount p 6) := fun m =>
    ((setMdk d p m).trans (when (fun d => mdkCount d p 5 1) _ _)).trans (when (fun d => mdkCount d p 6 1) _ _)
  split
  all_goals
    split
    · exact h _
    · exact (h _).trans (raise ..)

theorem pumpFrame (p : Nat) (d : Dev) (f : Nat × Bytes) : Sending d (pumpFrame p d f) := ((setMdk ..).trans (send ..)).trans (mdkCount ..)

theorem mdkPump (d : Dev) (p : Nat) : Sending d (d.mdkPump p) := by
  unfold Dev.mdkPump
  dsimp only
  split
  · exact refl d
  · refine .trans ?_ (each (fun d f => pumpFrame p d f) _ _)
    split
    · exact (mdkEnter ..).trans (send ..)
    · exact refl d

theorem mdkSend (d : Dev) (p ftype : Nat) (body : Bytes) : Sending d (d.mdkSend p ftype body) := by
  unfold Dev.mdkSend
  dsimp only
  split
  · exact (setMdk ..).trans (mdkPump ..)
  · exact refl d

theorem chainUnicast (d : Dev) (ftype dst : Nat) (body : Bytes) : Sending d (d.chainUnicast ftype dst body) := by
  unfold Dev.chainUnicast
  split
  · exact refl d
  · split
    · exact mdkSend ..
    · exact refl d

end Sending

theorem chain_calm (d : Dev) (c : Chain) : Calm d { d with chain := c } := .of_eqs rfl rfl rfl rfl rfl rfl

/-- A broadcast takes the next BID, and changes nothing else of the chain logic. -/
theorem chainBroadcast_sends (d : Dev) (ports : List Nat) (ftype : Nat) (body : Bytes) :
    Calm d (d.chainBroadcast ports ftype body) ∧ ∃ bid, (d.chainBroadcast ports ftype body).chain = { d.chain with bid } := by
  unfold Dev.chainBroadcast
  split
  · exact ⟨.refl d, d.chain.bid, rfl⟩
  · obtain ⟨hcalm, hchain⟩ := Sending.each (f := fun e p => e.mdkSend p ftype (d.chainHeader 0xFF d.chain.bid ++ body)) (fun d p => .mdkSend ..) ports
      { d with chain := { d.chain with bid := (d.chain.bid + 1) % 256 } }
    exact ⟨(chain_calm d _).trans hcalm, _, hchain⟩

/-! ### Topology with no mirror (15 R400, R416) -/

/-- No source entry is a mirror. -/
def NoMirrors (d : Dev) : Prop := ∀ n ∈ sourceNumbers, d.mirrorRoute n = none

theorem routesCheck_none {d : Dev} (h : NoMirrors d) : d.routesCheck = d := by
  unfold Dev.routesCheck
  exact each_same _ d _ fun n hn => by rw [h n hn]

theorem NoMirrors.of_keys {d e : Dev} (h : NoMirrors d) (hk : KeysKept tellCounters d e) : NoMirrors e := fun n hn => by
  have hn' : n < 2 ^ 24 := by have := List.mem_range.mp hn; omega
  have hget := hk.get (p := .mdkMirror) (s := n) (by decide) hn'
  have := h n hn
  simp only [Dev.mirrorRoute, Dev.flag, Dev.fld, hget] at this ⊢
  exact this

/-- With no mirror, a look at the topology tells it, and that is all. -/
theorem topology_told {d : Dev} (h : NoMirrors d) : NoMirrors d.topology ∧ Calm d d.topology ∧
    ∃ t r s, d.topology.chain = { d.chain with topology := t, reach := r, standby := s } := by
  unfold Dev.topology
  dsimp only
  generalize d.topologyNow = t
  generalize d.reachMask = r
  generalize d.positionOf 2 = s
  generalize he : ({ d with chain := { d.chain with topology := t, reach := r, standby := s } } : Dev) = e
  have hek : KeysKept tellCounters d e := by rw [← he]; exact .of_regs rfl
  have hec : Calm d e := by rw [← he]; exact chain_calm ..
  have hech : e.chain = { d.chain with topology := t, reach := r, standby := s } := by rw [← he]
  generalize (t != d.chain.topology || r != d.chain.reach) = b
  have hw : ∀ f : Dev, f = (e.when b fun d => d.raise toPartners { code := 0xEC00, object := 0, data := u8 t ++ zeros 3 ++ u32 r }) →
      KeysKept tellCounters e f ∧ Sending e f := fun f hf => by
    rw [hf]
    exact ⟨.when (Told.raise ..).keys, .when (fun d => .raise d _ _) _ _⟩
  generalize hf : (e.when b fun d => d.raise toPartners { code := 0xEC00, object := 0, data := u8 t ++ zeros 3 ++ u32 r }) = f
  obtain ⟨hfk, hfs⟩ := hw f hf.symm
  have hn : NoMirrors f := h.of_keys (hek.trans hfk)
  rw [routesCheck_none hn]
  exact ⟨hn, hec.trans hfs.calm, t, r, s, hfs.chain.trans hech⟩

/-- A link that is cut leaves service, and what was learnt by it goes. -/
theorem cutLink_cut {d : Dev} {p : Nat} (hmir : NoMirrors d) (hp : p ∈ d.chain.inService) : NoMirrors (d.cutLink p) ∧ Calm d (d.cutLink p) ∧
    (d.cutLink p).chain.inService = d.chain.inService.filter (· != p) ∧ (d.cutLink p).chain.hops = d.chain.hops.filter (·.1 != p) := by
  have hin : d.chain.inService.contains p = true := by simpa using hp
  simp only [Dev.cutLink, hin, Bool.not_true, Bool.false_eq_true, if_false]
  generalize he : ({ d with chain := { d.chain with inService := d.chain.inService.filter (· != p), hops := d.chain.hops.filter (·.1 != p) } } : Dev) = e
  have hek : KeysKept tellCounters d e := by rw [← he]; exact .of_regs rfl
  have hec : Calm d e := by rw [← he]; exact chain_calm ..
  have hech : e.chain = { d.chain with inService := d.chain.inService.filter (· != p), hops := d.chain.hops.filter (·.1 != p) } := by rw [← he]
  generalize (d.tim.slavePort == 8 + p) = b
  generalize hf : (e.when b fun d => { d with tim := { d.tim with slavePort := 0xF, gmValid := false } }) = f
  have hfk : KeysKept tellCounters e f ∧ Calm e f ∧ f.chain = e.chain := by
    rw [← hf]
    cases b
    · exact ⟨.refl _, .refl _, rfl⟩
    · exact ⟨.of_regs rfl, tim_calm .., rfl⟩
  obtain ⟨hmir', hcalm, t, r, s, hchain⟩ := topology_told (hmir.of_keys (hek.trans hfk.1))
  exact ⟨hmir', (hec.trans hfk.2.1).trans hcalm, by rw [hchain, hfk.2.2, hech], by rw [hchain, hfk.2.2, hech]⟩

theorem cutLink_out {d : Dev} {p : Nat} (hp : p ∉ d.chain.inService) : d.cutLink p = d := if_pos (by simpa using hp)

end Sys2Proof.Goals
end

section
/-!
PROOF. The commands of a chain, DISCOVER, and the frames that pass along it (15 R399, R400, R402, R414, R418).
-/

namespace Sys2Proof.Goals

open Sys2Proof Sys2Proof.Machine

/-! ### Commands (15 R399, R414, R418) -/

theorem chainRole_runs (h : Hdr) (role position chainId : Nat) : Runs (.chainRole h role position chainId) h (.chainRole role position chainId)
    (fun c d => (d.present 15 = true ∨ d.present 16 = true) ∧ c.ses.mediator = true ∧ position ≤ 31 ∧ role ≤ 3 ∧ (chainId = 0 → role = 0))
    (fun _ _ => some { st := stOk, ph := 3 })
    (fun _ d =>
      let e := Dev.writeOptions { d with chain := { d.chain with role, position, chainId, listening := role == 1, acting := none, waiting := false,
                                                                 missed := false, inService := [], hops := [] } } 2
      let p := e.get .sesPortCfg 5
      (if role = 0 then e.put .sesPortCfg 5 (setBit p 62 false) else if role = 1 then e
        else e.put .sesPortCfg 5 (setBit (setBit p 63 true) 62 true)).topology) := by
  refine runs_of _ h (.chainRole role position chainId) _ _ _ (fun _ => rfl) nofun fun c d ⟨hpres, hmed, hpos, hrole, hid⟩ => ?_
  show chainRoleOp c role position chainId d = _
  rw [chainRoleOp, checked_pass (by
    simp only [List.forall_mem_cons, List.not_mem_nil, IsEmpty.forall_iff, implies_true, and_true]
    refine ⟨?_, by simp [hmed], ?_⟩
    · rcases hpres with h | h <;> simp [h]
    · simp only [Bool.or_eq_false_iff, decide_eq_false_iff_not, Bool.and_eq_false_imp, beq_iff_eq, bne_eq_false_iff_eq]
      exact ⟨⟨by omega, hid⟩, by omega⟩)]

theorem chainLayout_runs (h : Hdr) (addr len : Nat) (l : Layout) : Runs (.chainLayout h addr len) h (.chainLayout addr len)
    (fun c d => c.ses.mediator = true ∧ d.acting = true ∧ d.allTagged addr len (d.ownerColour c.act) = true ∧ d.chain.run = none ∧
      parseLayout (d.peekN addr len) = some (l, d.chain.chainId) ∧ l.id ≠ d.layoutId ∧ (∀ p < l.ndev, d.reaches p = true) ∧ (d.routesOk l).1 = true)
    (fun c d =>
      let e := ((d.routesOk l).2.phaseDone c.ses.port c.ses.sid c.seq 1).stageItems l
      if e.chain.stageFail ≠ 0 then some { st := e.chain.stageFail, ph := 1 } else none)
    (fun c d =>
      let e := ((d.routesOk l).2.phaseDone c.ses.port c.ses.sid c.seq 1).stageItems l
      let f := e.each ((List.range l.ndev).filter (· != e.chain.position)) fun e p => e.sendLayout p (d.peekN addr len)
      if e.chain.stageFail ≠ 0 then e
      else { f with chain := { f.chain with run := some { port := c.ses.port, session := c.ses.sid, seq := c.seq, id := l.id } } }) := by
  refine runs_of _ h (.chainLayout addr len) _ _ _ (fun _ => rfl) nofun fun c d ⟨hmed, hact, htag, hrun, hparse, hid, hreach, hroutes⟩ => ?_
  have hknown : ((List.range l.ndev).all d.reaches) = true := by simpa using hreach
  show chainLayoutOp c addr len d = _
  rw [chainLayoutOp, checked_pass (by simp [hmed, hact, htag, hrun, hparse, hid]; exact hreach)]
  simp only [hparse]
  generalize d.routesOk l = r at hroutes
  obtain ⟨ok, e⟩ := r
  obtain rfl : ok = true := hroutes
  simp only [Bool.not_true, Bool.false_eq_true, if_false]
  split
  · rfl
  · rfl

theorem chainQuery_runs (h : Hdr) (first : Nat) : Runs (.chainQuery h first) h (.chainQuery first) (fun c d => c.partner = true ∧ (d.acting = true → first < d.ndev))
    (fun c d =>
      let n := if d.acting = true then min ((d.maxLen c.ses.port - 64) / 96) (d.ndev - first) else 0
      some (rRead (u8 d.chain.role ++ u8 d.chain.position ++ u8 (d.chain.acting.getD 0xFF) ++ u8 (d.chain.standby.getD 0xFF) ++
        u32 d.chain.chainId ++ u8 d.ndev ++ u8 d.chain.topology ++
        u16 (d.chain.excluded.toNat + 2 * d.chain.waiting.toNat + 4 * (!d.chain.miscabled.isEmpty).toNat) ++ u32 d.layoutId ++ u64 d.chain.wallFrame ++
        u32 ((d.chain.go.map (·.exclude)).getD 0) ++ u32 d.reachMask ++ u16 d.chain.takeback ++ u8 (if d.acting = true then first else 0) ++ u8 n ++
        (List.range n).flatMap fun i => padTo 96 (((d.chain.summaries.find? (·.1 == first + i)).map (·.2)).getD []))))
    (fun _ d => d) := by
  refine runs_of _ h (.chainQuery first) _ _ _ (fun _ => rfl) nofun fun c d ⟨hpart, hfirst⟩ => ?_
  show chainQueryOp c first d = _
  rw [chainQueryOp, checked_pass (by simp [hpart]; exact hfirst)]
  simp only [Nat.sub_sub]

/-! ### DISCOVER and links that are cut (15 R400) -/

section Discover

variable {s : State} {port chainId position role bid : Nat} (hq : Quiet s.dev) (hport : port < 2)

include hq hport

/-- A neighbour of this chain stands where it belongs: its link enters service. -/
theorem discoverRx_good (hrole : s.dev.chain.role ≠ 0) (hlink : (s.dev.mdk port).linked = true) (hmir : NoMirrors s.dev)
    (hin : s.dev.chain.inService = []) (hid : chainId = s.dev.chain.chainId) (hfaces : s.dev.faces port position = true)
    (hpos : position ≠ s.dev.chain.position) :
    Gives (.discoverRx port chainId position role 32 bid) s fun d =>
      d.chain.inService = [port] ∧ port ∉ d.chain.miscabled ∧ d.chain.hops.head? = some (port, position, 1, role, s.dev.tim.elapsed) := by
  have hne : 1 - port ≠ port := by omega
  have key : Calm s.dev (discoverRxOp port chainId position role 32 bid s.dev) ∧
      (discoverRxOp port chainId position role 32 bid s.dev).chain.inService = [port] ∧
      port ∉ (discoverRxOp port chainId position role 32 bid s.dev).chain.miscabled ∧
      (discoverRxOp port chainId position role 32 bid s.dev).chain.hops.head? = some (port, position, 1, role, s.dev.tim.elapsed) := by
    unfold discoverRxOp
    simp only [hrole, hlink, hid, hfaces, hin, hpos, Dev.firstSight, Bool.not_true, Bool.false_eq_true, or_self, if_false, beq_self_eq_true, Bool.and_true,
      Nat.le_refl, decide_true, Bool.and_false, if_true, List.contains_nil, List.contains_cons, Bool.true_or]
    generalize (!((s.dev.chain.bids.filter fun b => decide (s.dev.tim.elapsed ≤ b.2.2 + 100000000)).any fun b => b.1 == position && b.2.1 == bid)) = first
    generalize he : ({ s.dev with chain := _ } : Dev) = e
    have hec : Calm s.dev e := by rw [← he]; exact chain_calm ..
    have hmir' : NoMirrors e := hmir.of_keys (by rw [← he]; exact .of_regs rfl)
    have hch : e.chain.inService = [port] ∧ port ∉ e.chain.miscabled ∧ e.chain.hops.head? = some (port, position, 1, role, s.dev.tim.elapsed) := by
      rw [← he]
      exact ⟨rfl, by simp, rfl⟩
    obtain ⟨-, htc, t, r, b, hchain⟩ := topology_told hmir'
    have hfwd : ∀ body, e.topology.chainForward port 0xFF position 32 bid 8 body = e.topology := fun body => by
      rw [Dev.chainForward, if_neg (by decide), if_pos rfl, hchain]
      simp [hch.1, hne, Dev.when]
    have hwhen : ∀ body, (e.topology.when first fun d => d.chainForward port 0xFF position 32 bid 8 body) = e.topology := fun body => by
      cases first
      · rfl
      · exact hfwd body
    rw [hwhen, hchain]
    exact ⟨hec.trans htc, hch⟩
  exact ⟨_, onDev_settled (f := discoverRxOp port chainId position role 32 bid) (decide_eq_true hport) hq key.1, key.2⟩

/-- A neighbour of another chain is told as miscabled. -/
theorem discoverRx_miscabled (hrole : s.dev.chain.role ≠ 0) (hlink : (s.dev.mdk port).linked = true) (hin : s.dev.chain.inService = [])
    (hid : chainId ≠ s.dev.chain.chainId) :
    Gives (.discoverRx port chainId position role 32 bid) s fun d => d.chain.inService = [] ∧ port ∈ d.chain.miscabled := by
  have key : Calm s.dev (discoverRxOp port chainId position role 32 bid s.dev) ∧
      (discoverRxOp port chainId position role 32 bid s.dev).chain.inService = [] ∧
      port ∈ (discoverRxOp port chainId position role 32 bid s.dev).chain.miscabled := by
    unfold discoverRxOp
    have hcut : s.dev.cutLink port = s.dev := cutLink_out (by simp [hin])
    simp only [hrole, hlink, hcut, beq_false_of_ne hid, Bool.not_true, Bool.false_eq_true, or_self, if_false, Bool.false_and, Bool.not_false,
      Nat.le_refl, decide_true, Bool.and_self, if_true]
    generalize he : ({ s.dev with chain := _ } : Dev) = e
    have hec : Calm s.dev e ∧ e.chain.inService = [] ∧ port ∈ e.chain.miscabled := by
      rw [← he]
      exact ⟨chain_calm .., hin, List.mem_cons_self ..⟩
    obtain ⟨hcalm, hchain⟩ := Sending.when (fun d => .raise d toPartners { code := 0xEC01, object := 8 + port, data := u8 position ++ zeros 3 ++ u32 chainId }) e
      (!s.dev.chain.miscabled.contains port)
    rw [hchain]
    exact ⟨hec.1.trans hcalm, hec.2⟩
  exact ⟨_, onDev_settled (f := discoverRxOp port chainId position role 32 bid) (decide_eq_true hport) hq key.1, key.2⟩

theorem chainLinkCut_gives (hin : port ∈ s.dev.chain.inService) (hmir : NoMirrors s.dev) :
    Gives (.chainLinkCut port) s fun d => d.chain.inService = s.dev.chain.inService.filter (· != port) ∧ ∀ h ∈ d.chain.hops, h.1 ≠ port := by
  obtain ⟨hmir', hcalm, hserv, hhops⟩ := cutLink_cut hmir hin
  obtain ⟨-, htc, t, r, b, hchain⟩ := topology_told hmir'
  refine ⟨_, onDev_settled (f := linkCutOp port) (decide_eq_true hport) hq (hcalm.trans htc), ?_⟩
  show (s.dev.cutLink port).topology.chain.inService = _ ∧ ∀ h ∈ (s.dev.cutLink port).topology.chain.hops, _
  rw [hchain]
  exact ⟨hserv, fun h hh => by rw [hhops] at hh; simpa using (List.mem_filter.mp hh).2⟩

end Discover

end Sys2Proof.Goals
end

section
/-!
PROOF. Frames along the chain, READY, GO, the barrier and remote resets (15 R402, R408 to R412, R418 to R422).
-/

namespace Sys2Proof.Goals

open Sys2Proof Sys2Proof.Machine

/-! ### Frames along the chain (15 R402) -/

section Frames

variable {s : State} {port dst src ttl bid : Nat} {body : ChainBody} (hport : port < 2) (hrole : s.dev.chain.role ≠ 0)
  (hin : port ∈ s.dev.chain.inService) (httl : 1 ≤ ttl) (hsrc : src ≠ s.dev.chain.position)

include hport hrole hin httl hsrc

/-- A frame for one other position goes on, or ends with its TTL. -/
theorem chainFrameRx_passes (hall : dst ≠ 0xFF) (hdst : dst ≠ s.dev.chain.position) (hgo : goesOn body = true) :
    (ttl = 1 → To (.chainFrameRx port dst src ttl bid body) s s.dev) ∧
    (∀ p, 2 ≤ ttl → s.dev.pathTo dst = some p → To (.chainFrameRx port dst src ttl bid body) s
      (s.dev.mdkSend p (chainBytes body).1 (u8 dst ++ u8 src ++ u8 (ttl - 1) ++ u8 bid ++ (chainBytes body).2))) := by
  have hop : chainFrameOp port dst src ttl bid body s.dev =
      s.dev.chainForward port dst src ttl bid (chainBytes body).1 (chainBytes body).2 := by
    have ht : ttl ≠ 0 := by omega
    simp [chainFrameOp, hrole, hin, ht, hsrc, hall, hdst, hgo, Dev.when]
  refine ⟨fun ht => ?_, fun p ht hpath => ?_⟩
  · refine to_of (f := chainFrameOp port dst src ttl bid body) rfl (decide_eq_true hport) (hop.trans ?_)
    exact if_pos (by omega)
  · refine to_of (f := chainFrameOp port dst src ttl bid body) rfl (decide_eq_true hport) (hop.trans ?_)
    rw [Dev.chainForward, if_neg (by omega), if_neg hall, hpath]

/-- A broadcast that was seen in the last 100 ms is dropped. -/
theorem chainFrameRx_repeated (hall : dst = 0xFF) (hgo : goesOn body = true)
    (hseen : ∃ t, (src, bid, t) ∈ s.dev.chain.bids ∧ s.dev.tim.elapsed ≤ t + 100000000) :
    Gives (.chainFrameRx port dst src ttl bid body) s fun d => d = { s.dev with chain := { s.dev.chain with bids := d.chain.bids } } := by
  obtain ⟨t, hmem, hage⟩ := hseen
  refine gives_of (f := chainFrameOp port dst src ttl bid body) rfl (decide_eq_true hport) ?_
  have ht : ttl ≠ 0 := by omega
  have hany : ((s.dev.chain.bids.filter fun b => decide (s.dev.tim.elapsed ≤ b.2.2 + 100000000)).any fun b => b.1 == src && b.2.1 == bid) = true :=
    List.any_eq_true.mpr ⟨(src, bid, t), List.mem_filter.mpr ⟨hmem, decide_eq_true hage⟩, by simp⟩
  have hop : chainFrameOp port dst src ttl bid body s.dev = (s.dev.firstSight src bid).2 := by
    simp [chainFrameOp, hrole, hin, ht, hsrc, hall, hgo, Dev.firstSight, hany]
  rw [hop]
  rfl

/-- A frame for this position alone is delivered. -/
theorem chainFrameRx_delivers (hdst : dst = s.dev.chain.position) (hall : dst ≠ 0xFF) :
    To (.chainFrameRx port dst src ttl bid body) s (s.dev.chainDeliver port src body) := by
  have ht : ttl ≠ 0 := by omega
  have hpos : s.dev.chain.position ≠ 0xFF := hdst ▸ hall
  exact to_of (f := chainFrameOp port dst src ttl bid body) rfl (decide_eq_true hport)
    (by simp [chainFrameOp, hrole, hin, ht, hsrc, hpos, hdst, Dev.when])

end Frames

/-! ### READY and GO (15 R408, R409, R420, R421) -/

theorem readySend_to {s : State} {a : Nat} (hrole : s.dev.chain.role ≠ 0) (hact : s.dev.chain.acting = some a) (ha : a ≠ s.dev.chain.position)
    (hst : s.dev.chain.standby = none) :
    let k := s.dev.wallFrameAt (bits s.dev.barrierCfg 63 48 * 1000)
    let e : Dev := { s.dev with chain := { s.dev.chain with wallFrame := k, goFrame := s.dev.chain.goFrame.filter (· == k) } }
    To .readySend s (e.chainUnicast 3 a (e.readyNow k).bytes).settled := by
  intro k e
  refine to_of (f := fun d => (readySendOp d).settled) rfl rfl (congrArg Dev.settled ?_)
  have hl : (e.chain.acting.toList ++ e.chain.standby.toList).eraseDups = [a] := by
    show (s.dev.chain.acting.toList ++ s.dev.chain.standby.toList).eraseDups = [a]
    rw [hact, hst]
    rfl
  rw [readySendOp, if_neg hrole]
  show e.each (e.chain.acting.toList ++ e.chain.standby.toList).eraseDups _ = _
  rw [hl]
  exact if_neg ha

/-- A device whose wall frame is decided: nothing is started, and the GO in hand stands. -/
structure Deciding (d e : Dev) : Prop where
  calm : Calm d e
  go : e.chain.go = d.chain.go

namespace Deciding

theorem refl (d : Dev) : Deciding d d := ⟨.refl d, rfl⟩

theorem trans {a b c : Dev} (h : Deciding a b) (h' : Deciding b c) : Deciding a c := ⟨h.calm.trans h'.calm, h'.go.trans h.go⟩

theorem of_sending {d e : Dev} (h : Sending d e) : Deciding d e := ⟨h.calm, congrArg Chain.go h.chain⟩

theorem each {α : Type} {f : Dev → α → Dev} (hf : ∀ d a, Deciding d (f d a)) (l : List α) (d : Dev) : Deciding d (d.each l f) :=
  List.foldlRecOn (motive := fun e => Deciding d e) l f (refl d) fun _ he a _ => he.trans (hf _ a)

theorem of_chain {d : Dev} {c : Chain} (h : c.go = d.chain.go) : Deciding d { d with chain := c } := ⟨chain_calm d c, h⟩

theorem noteExclusion (d : Dev) (k : Nat) (ex : List (Nat × Option Nat)) : Deciding d (d.noteExclusion k ex) :=
  each (fun d x => by
    obtain ⟨p, cause⟩ := x
    dsimp only
    split
    all_goals
      refine .trans ?_ (of_sending (.when (fun d => .raise d _ _) _ _))
      exact of_chain rfl) ex d

end Deciding

/-- The acting Atlas's own GO that bears no other's number becomes the GO in hand. -/
theorem goTake_own {d : Dev} {g : Go} (hact : d.acting = true) (hsrc : g.src = d.chain.position) (ho : g.original = true) :
    Calm d (d.goTake g) ∧ (d.goTake g).chain.go = some g ∧ (d.goTake g).chain.run = d.chain.run := by
  rw [Dev.goTake]
  simp only [hact, hsrc, ho, beq_self_eq_true, bne_self_eq_false, Bool.and_self, Bool.and_false, Bool.false_and, Bool.not_true, Bool.false_eq_true, if_false,
    Option.any_false]
  exact ⟨chain_calm .., by simp, by simp⟩

/-- Why each position that the Atlas commands is excluded, with no layout on its way. -/
def exclusions (d : Dev) : List (Nat × Option Nat) := d.wallPositions.map fun p => (p, d.excludeCause d.chain.wallFrame 0 p)

/-- The GO that an Atlas sends at its wall frame where no layout is on its way. -/
def ownGo (d : Dev) : Go :=
  { frame := d.chain.wallFrame, apply := 0, inForce := d.chain.wallForce, ndev := d.ndev, last := d.chain.lastPending, original := d.chain.role == 1,
    exclude := (((exclusions d).filter fun e => e.2.isSome).map fun e => 2 ^ e.1).sum,
    barrier := d.get .mdkBarrierCfg, step := (d.chain.stepPending.map (·.1)).getD 0, src := d.chain.position }

theorem ownGo_exclude (d : Dev) :
    (ownGo d).exclude = ((d.wallPositions.filter fun p => (d.excludeCause d.chain.wallFrame 0 p).isSome).map (2 ^ ·)).sum := by
  show (((exclusions d).filter fun e => e.2.isSome).map fun e => 2 ^ e.1).sum = _
  rw [exclusions, List.filter_map, List.map_map]
  rfl

/-- What follows the GO: the layout in force goes to the positions that lack it, and after a GO with LAST the device acts no more (15 R411, R421). -/
def afterGo (d : Dev) (last : Bool) : Dev :=
  let lacks := d.chain.ready.filter fun r =>
    d.chain.wallForce != 0 && r.1 != d.chain.position && r.2.inForce != d.chain.wallForce && r.2.staged != d.chain.wallForce
  let img := [d.chain.inForce, d.chain.staged].filterMap fun l => l.filter fun l => l.id == d.chain.wallForce
  let d := match img.head? with
    | some l => d.each lacks fun d r => d.sendLayout r.1 l.image
    | none => d
  d.when last fun d => { d with chain := { d.chain with acting := none, lastPending := false, takeback := 0 } }

theorem afterGo_decides (d : Dev) (last : Bool) : Deciding d (afterGo d last) := by
  have hlast : ∀ e : Dev, Deciding e (e.when last fun d => { d with chain := { d.chain with acting := none, lastPending := false, takeback := 0 } }) := by
    intro e
    cases last
    · exact .refl e
    · exact .of_chain rfl
  rw [afterGo]
  refine .trans ?_ (hlast _)
  split
  · exact .each (fun d r => .of_sending (.chainUnicast ..)) _ _
  · exact .refl _

theorem goSendOp_alone {d : Dev} (hact : d.acting = true) (hrun : d.chain.run = none) (hn : d.ndev ≤ 2 * d.reachCount) :
    ∃ e f : Dev, e = { d with chain := { d.chain with fewRun := 0 } } ∧ f = (e.chainBroadcast e.chain.inService 4 (ownGo e).bytes).goTake (ownGo e) ∧
      goSendOp d = afterGo (f.noteExclusion e.chain.wallFrame (exclusions e)) (ownGo e).last := by
  have hfew : (d.chain.role == 1 && decide (2 * d.reachCount < d.ndev)) = false := by simpa using fun _ => hn
  refine ⟨_, _, rfl, rfl, ?_⟩
  unfold goSendOp
  refine (if_neg (by rw [hact]; decide)).trans ?_
  rw [hfew]
  refine (if_neg (by simp)).trans ?_
  dsimp only [Bool.false_eq_true, if_false]
  rw [hrun]
  rfl

theorem goSendOp_go {d : Dev} (hrole : d.chain.role = 1) (hact : d.acting = true) (hrun : d.chain.run = none) (hn : d.ndev ≤ 2 * d.reachCount) :
    Calm d (goSendOp d) ∧ (goSendOp d).chain.go = some (ownGo d) := by
  obtain ⟨e, f, he, hf, hop⟩ := goSendOp_alone hact hrun hn
  have hown : ownGo e = ownGo d := by rw [he]; rfl
  have hchain : e.chain = { d.chain with fewRun := 0 } := by rw [he]
  have hde : Calm d e := by rw [he]; exact chain_calm ..
  obtain ⟨hsends, bid, hbid⟩ := chainBroadcast_sends e e.chain.inService 4 (ownGo e).bytes
  rw [hown] at hf hop hsends hbid
  generalize e.chainBroadcast e.chain.inService 4 (ownGo d).bytes = b at hf hsends hbid
  have hbact : b.acting = true := by rw [Dev.acting, hbid, hchain]; exact hact
  obtain ⟨htake, hgo, -⟩ := goTake_own (g := ownGo d) hbact (by rw [hbid, hchain]; rfl) (beq_iff_eq.mpr hrole)
  obtain ⟨hcalm, hkept⟩ := (Deciding.noteExclusion f e.chain.wallFrame (exclusions e)).trans (afterGo_decides _ (ownGo d).last)
  rw [hop]
  rw [← hf] at htake hgo
  exact ⟨((hde.trans hsends).trans htake).trans hcalm, hkept.trans hgo⟩

theorem goSend_few {s : State} (hrole : s.dev.chain.role = 1) (hact : s.dev.acting = true) (hq : Quiet s.dev)
    (hfew : 2 * s.dev.reachCount < s.dev.ndev) (hrun : bits s.dev.barrierCfg 19 16 ≤ s.dev.chain.fewRun + 1) :
    To .goSend s { s.dev with chain := { s.dev.chain with acting := none, fewRun := 0, lastPending := false } } := by
  have hop : goSendOp s.dev = { s.dev with chain := { s.dev.chain with acting := none, fewRun := 0, lastPending := false } } := by
    have hf : (s.dev.chain.role == 1 && decide (2 * s.dev.reachCount < s.dev.ndev)) = true := by simp [hrole, hfew]
    unfold goSendOp
    refine (if_neg (by rw [hact]; decide)).trans ?_
    rw [hf]
    exact if_pos ⟨rfl, hrun⟩
  refine (onDev_settled (f := goSendOp) (wf := true) rfl hq (hop ▸ chain_calm ..)).trans ?_
  rw [hop]

/-! ### The barrier (15 R410 to R412) -/

/-- The barrier of the wall frame is missed: no GO came. -/
def missedBarrier (d : Dev) : Dev :=
  { d with chain := { d.chain with passed := some d.chain.wallFrame, missed := true, excluded := false, missedRun := d.chain.missedRun + 1 } }

section Barrier

variable {s : State} (hq : Quiet s.dev) (hrole : s.dev.chain.role = 3) (hready : s.dev.chain.ready = []) (hstep : s.dev.chain.stepPending = none)

include hq hrole hready hstep

theorem barrierDeadline_met {g : Go} (hframe : s.dev.chain.goFrame = some s.dev.chain.wallFrame) (hgo : s.dev.chain.go = some g)
    (hex : bit g.exclude s.dev.chain.position = false) (hmissed : s.dev.chain.missed = false) (hg : g.step = 0) (hstaged : s.dev.stagedId = 0)
    (hact : s.dev.acting = false) :
    To .barrierDeadline s { s.dev with chain := { s.dev.chain with passed := some s.dev.chain.wallFrame, missed := false, excluded := false, missedRun := 0 } } := by
  have hop : barrierDeadlineOp s.dev =
      { s.dev with chain := { s.dev.chain with passed := some s.dev.chain.wallFrame, missed := false, excluded := false, missedRun := 0 } } := by
    rw [Dev.stagedId] at hstaged
    simp [barrierDeadlineOp, hrole, hframe, hgo, hex, hmissed, hg, hact, hstep, hready, Dev.stagedId, hstaged, Dev.when, Dev.takebackRx, Dev.takebackCount,
      Dev.takeover]
  refine (onDev_settled (f := barrierDeadlineOp) (wf := true) rfl hq (hop ▸ chain_calm ..)).trans ?_
  rw [hop]

theorem barrierDeadline_missed (hframe : s.dev.chain.goFrame = none) :
    Gives .barrierDeadline s fun d => d.chain.missed = true ∧ d.chain.missedRun = s.dev.chain.missedRun + 1 ∧
      d.chain.passed = some s.dev.chain.wallFrame ∧ d.chain.inForce = s.dev.chain.inForce := by
  have hop : Sending (missedBarrier s.dev) (barrierDeadlineOp s.dev) := by
    have heq : barrierDeadlineOp s.dev = (missedBarrier s.dev).when (!s.dev.chain.missed) fun d =>
        d.raise toPartners { code := 0xEC02, object := 0, data := u64 s.dev.chain.wallFrame ++ u8 0, on := true } := by
      cases hm : s.dev.chain.missed <;>
        simp [barrierDeadlineOp, missedBarrier, hrole, hframe, hm, hstep, hready, Dev.when, Dev.takebackCount, Dev.takeover]
    rw [heq]
    exact .when (fun d => .raise d _ _) _ _
  refine ⟨_, onDev_settled (f := barrierDeadlineOp) (wf := true) rfl hq ((chain_calm ..).trans hop.calm), ?_⟩
  beta_reduce
  rw [hop.chain]
  exact ⟨rfl, rfl, rfl, rfl⟩

end Barrier


/-! ### Remote resets (15 R422) -/

section ResetRequest

variable {s : State} {pos : Nat} (hpos : pos < 32)

include hpos

theorem resetReqSend_sent (hact : s.dev.acting = true) (hne : pos ≠ s.dev.chain.position) (hreach : s.dev.reaches pos = true)
    (hrun : 600 ≤ smGet 0 s.dev.chain.exclRun pos)
    (hold : ∀ r ∈ s.dev.chain.resetSent, r.1 = pos → r.2 + 60000000000 ≤ s.dev.tim.elapsed) :
    Gives (.resetReqSend pos) s fun d => d.chain.resetSent = (pos, s.dev.tim.elapsed) :: s.dev.chain.resetSent.filter (·.1 != pos) := by
  have hrecent : (s.dev.chain.resetSent.any fun r => r.1 == pos && decide (s.dev.tim.elapsed < r.2 + 60000000000)) = false := by
    simp only [List.any_eq_false, Bool.and_eq_true, beq_iff_eq, decide_eq_true_eq, not_and, not_lt]
    exact hold
  refine gives_of (f := resetReqSendOp pos) rfl (decide_eq_true hpos) ?_
  have hc : (s.dev.acting && pos != s.dev.chain.position && s.dev.reaches pos && decide (600 ≤ smGet 0 s.dev.chain.exclRun pos) &&
      !(s.dev.chain.resetSent.any fun r => r.1 == pos && decide (s.dev.tim.elapsed < r.2 + 60000000000))) = true := by
    rw [hrecent]
    simp [hact, hne, hreach, hrun]
  rw [resetReqSendOp]
  refine Eq.trans (congrArg (fun d : Dev => d.chain.resetSent) (if_pos hc)) ?_
  rw [raise_chain, (Sending.chainUnicast ..).chain]
  rfl

theorem resetReqSend_recent (hrecent : ∃ r ∈ s.dev.chain.resetSent, r.1 = pos ∧ s.dev.tim.elapsed < r.2 + 60000000000) :
    To (.resetReqSend pos) s s.dev := by
  obtain ⟨r, hmem, hr, hage⟩ := hrecent
  have hany : (s.dev.chain.resetSent.any fun r => r.1 == pos && decide (s.dev.tim.elapsed < r.2 + 60000000000)) = true :=
    List.any_eq_true.mpr ⟨r, hmem, by simp [hr, hage]⟩
  exact to_of (f := resetReqSendOp pos) rfl (decide_eq_true hpos) (if_neg (by rw [hany]; simp))

end ResetRequest

/-- Settles O45. -/
theorem chainCommandsComplete : Obligations.ChainCommandsComplete := by
  unfold Obligations.ChainCommandsComplete
  refine ⟨chainRole_runs, chainLayout_runs, chainQuery_runs, fun s _ => rfl, ?_, fun s port hq hport hin hmir => chainLinkCut_gives hq hport hin hmir, ?_,
    fun s a hrole hact ha hst => readySend_to hrole hact ha hst, ?_, ?_, fun s hrole hlist hn => ?_, fun s hact hrole hn hwait => ?_, fun s hrole => ?_,
    fun s pos hpos hact hne hreach hrun => ⟨resetReqSend_sent hpos hact hne hreach hrun, resetReqSend_recent hpos⟩⟩
  · exact fun s port chainId position role bid hq hport hrole hlink hmir hin _ _ _ _ =>
      ⟨discoverRx_good hq hport hrole hlink hmir hin, discoverRx_miscabled hq hport hrole hlink hin⟩
  · intro s port dst src ttl bid body hport hrole hin httl hsrc
    refine ⟨chainFrameRx_passes hport hrole hin httl hsrc, chainFrameRx_repeated hport hrole hin httl hsrc,
      fun k b hdst hall hact hbody => ?_, fun k st fo fl su hdst hall hbody => ?_⟩
    · refine (chainFrameRx_delivers hport hrole hin httl hsrc hdst hall).trans ?_
      rw [hbody]
      exact congrArg (fun d => Host.Outcome.next { s with dev := d }) (if_pos hact)
    · rw [hbody]
      exact chainFrameRx_delivers hport hrole hin httl hsrc hdst hall
  · intro s hq hrole hact hrun
    refine ⟨fun hn => ?_, goSend_few hrole hact hq⟩
    obtain ⟨hcalm, hgo⟩ := goSendOp_go hrole hact hrun hn
    exact ⟨_, onDev_settled (f := goSendOp) (wf := true) rfl hq hcalm,
      _, hgo, rfl, rfl, rfl, rfl, beq_iff_eq.mpr hrole, rfl, rfl, ownGo_exclude s.dev⟩
  · exact fun s hq hrole hready hstep => ⟨fun g => barrierDeadline_met hq hrole hready hstep, barrierDeadline_missed hq hrole hready hstep⟩
  · exact to_of (f := fun d => (listenExpireOp d).settled) rfl rfl (congrArg Dev.settled (if_pos ⟨hrole, hlist, hn⟩))
  · have hany : (s.dev.chain.ready.any fun r => bit r.2.flags 2) = true := List.any_eq_true.mpr hwait
    exact to_of (f := fun d => (takebackReachedOp d).settled) rfl rfl (congrArg Dev.settled (if_pos ⟨hact, hrole, hn, hany⟩))
  · intro body
    refine ⟨fun hact => ?_, fun a hact ha => ?_⟩
    · refine to_of (f := summarySendOp) rfl rfl ?_
      rw [summarySendOp, if_neg hrole]
      exact if_pos hact
    · refine to_of (f := summarySendOp) rfl rfl ?_
      rw [summarySendOp, if_neg hrole]
      refine (if_neg (by rw [hact]; decide)).trans ?_
      rw [ha]

end Sys2Proof.Goals
end

section
/-!
PROOF. What the witness recorder leaves of the device (08 R211 to R223): it starts nothing, and changes neither the clock nor outputs and plates, nor
a parameter but counters.
-/

namespace Sys2Proof.Goals

open Sys2Proof Sys2Proof.Machine

/-- The counters by which the recorder counts. -/
def recordCounters : List Nat := Par.witStat.ctorIdx :: tellCounters

/-- A device whose recorders record. -/
structure Recording (d e : Dev) : Prop where
  calm : Calm d e
  keys : KeysKept recordCounters d e
  tim : e.tim = d.tim
  plates : e.plates = d.plates
  outs : e.outs = d.outs

namespace Recording

theorem refl (d : Dev) : Recording d d := ⟨.refl d, .refl d, rfl, rfl, rfl⟩

theorem trans {a b c : Dev} (h : Recording a b) (h' : Recording b c) : Recording a c :=
  ⟨h.calm.trans h'.calm, h.keys.trans h'.keys, h'.tim.trans h.tim, h'.plates.trans h.plates, h'.outs.trans h.outs⟩

theorem when {f : Dev → Dev} (hf : ∀ d, Recording d (f d)) (d : Dev) (b : Bool) : Recording d (d.when b f) := by
  cases b
  · exact refl d
  · exact hf d

theorem each {α : Type} {f : Dev → α → Dev} (hf : ∀ d a, Recording d (f d a)) (l : List α) (d : Dev) : Recording d (d.each l f) :=
  List.foldlRecOn (motive := fun e => Recording d e) l f (refl d) fun _ he a _ => he.trans (hf _ a)

/-- Telling is a part of recording. -/
theorem of_told {d e : Dev} (hcalm : Calm d e) (htold : Told d e) (htells : Tells d e) : Recording d e :=
  ⟨hcalm, htold.keys.mono (List.subset_cons_self ..), by rw [htells.eq], by rw [htells.eq], by rw [htells.eq]⟩

theorem raise (d : Dev) (r : Session → Bool) (e : Event) : Recording d (d.raise r e) := of_told (raise_undisturbed ..) (.raise ..) (raise_tells ..)

theorem modWit (d : Dev) (o : Nat) (f : Wit → Wit) : Recording d (d.modWit o f) := ⟨.of_eqs rfl rfl rfl rfl rfl rfl, .of_regs rfl, rfl, rfl, rfl⟩

theorem modMon (d : Dev) (m : Nat) (f : RcSt → RcSt) : Recording d (d.modMon m f) := ⟨.of_eqs rfl rfl rfl rfl rfl rfl, .of_regs rfl, rfl, rfl, rfl⟩

theorem freshBytes (d : Dev) (n : Nat) : Recording d (d.freshBytes n).2 := ⟨.of_eqs rfl rfl rfl rfl rfl rfl, .of_regs rfl, rfl, rfl, rfl⟩

theorem witCount (d : Dev) {o k : Nat} (n : Nat) (ho : o < 8) (hk : k < 8) : Recording d (d.witCount o k n) :=
  ⟨put_undisturbed d _ _ (by decide), .put d _ (by decide) (show o * 8 + k < 2 ^ 24 by omega), rfl, rfl, rfl⟩

theorem witTx (d : Dev) (o : Nat) (video : Bool) (x : Out) : Recording d (d.witTx o video x) :=
  when (fun e => of_told (ipTx_undisturbed _ (Nat.mod_lt _ (by decide)) ..) (.ipTx _ (Nat.mod_lt _ (by decide)) ..) (ipTx_tells ..)) _ _

theorem putRecord (d : Dev) (o type wlevel rseq frame : Nat) (ref : Ns) (flags epoch : Nat) (sections : List (Nat × Bytes)) (au prev : Bytes) :
    Recording d (d.putRecord o type wlevel rseq frame ref flags epoch sections au prev) :=
  (modWit ..).trans (when (fun d => witTx d ..) _ _)

theorem startSegment (d : Dev) (o : Nat) : Recording d (d.startSegment o) := (modWit ..).trans (putRecord ..)

theorem chainRecord (d : Dev) (o type wlevel frame : Nat) (ref : Ns) (flags epoch : Nat) (sections : List (Nat × Bytes)) (au : Bytes) :
    Recording d (d.chainRecord o type wlevel frame ref flags epoch sections au) := by
  unfold Dev.chainRecord
  refine .trans ?_ (putRecord ..)
  split
  · exact refl d
  · exact startSegment ..

theorem eventRecord (d : Dev) (o code : Nat) : Recording d (d.eventRecord o code) := (freshBytes d 32).trans (chainRecord ..)

theorem recorderLost (d : Dev) (o : Nat) : Recording d (d.recorderLost o) := by
  unfold Dev.recorderLost
  split
  · exact refl d
  · exact ((modWit ..).trans (eventRecord ..)).trans (raise ..)

theorem recorderOn (d : Dev) (o : Nat) : Recording d (d.recorderOn o) := by
  unfold Dev.recorderOn
  split
  · exact refl d
  · refine .trans ?_ (when (fun d => recorderLost d o) _ _)
    refine .trans ?_ (eventRecord ..)
    refine .trans ?_ (modWit ..)
    split
    · exact refl d
    · exact startSegment ..

theorem chainPend (d : Dev) {o : Nat} (ho : o < 8) (p : WPend) (coded : Option (Bytes × Bool)) : Recording d (d.chainPend o p coded) := by
  unfold Dev.chainPend
  dsimp only
  generalize he : (d.chainRecord o 1 p.wlevel p.frame p.ref _ p.epoch p.sections _) = e
  have hchained : Recording d e := he ▸ chainRecord ..
  have hcount := hchained.trans (witCount e 1 ho (show 0 < 8 by omega))
  split
  · refine hcount.trans ?_
    split
    · exact modWit ..
    · exact refl _
  · refine .trans ?_ (when (fun d => raise d _ _) _ _)
    exact (hcount.trans (witCount _ 1 ho (show 3 < 8 by omega))).trans (modWit ..)

theorem flushPend (fuel : Nat) {o : Nat} (ho : o < 8) (d : Dev) : Recording d (Dev.flushPend fuel o d) := by
  induction fuel generalizing d with
  | zero => exact refl d
  | succ fuel ih =>
    rw [Dev.flushPend]
    split
    · exact refl d
    · split
      · exact refl d
      · exact ((modWit ..).trans (chainPend _ ho ..)).trans (ih _)

theorem flush (d : Dev) {o : Nat} (ho : o < 8) : Recording d (d.flush o) := flushPend _ ho d

theorem monFrame (d : Dev) (o : Nat) : Recording d (d.monFrame o) :=
  each (fun d m => by
    split
    · exact modMon ..
    · exact refl d) _ d

end Recording

end Sys2Proof.Goals
end

section
/-!
PROOF. The frames and bands of an output (07 R163 to R166, R181, R192 to R197, 02 R54, R57, R64).
-/

namespace Sys2Proof.Goals

open Sys2Proof Sys2Proof.Machine

/-! ### The commit point (07 R166, R181) -/

theorem modOut_calm (d : Dev) (o : Nat) (f : Output → Output) : Calm d (d.modOut o f) := .of_eqs rfl rfl rfl rfl rfl rfl

theorem out_outCount (d : Dev) (o k n : Nat) : (d.outCount o k).out n = d.out n := by
  rw [Dev.out, Dev.out, Dev.outCount, Dev.count2, count_outs]

theorem outCount_calm (d : Dev) (o k : Nat) : Calm d (d.outCount o k) := put_undisturbed d _ _ (by decide)

/-- Nothing is armed on a quiet device. -/
theorem applyAll_quiet {d : Dev} (o : Nat) (h : Quiet d) : d.applyAll o = d := by
  obtain ⟨hcommits, hcarts, htens, -, -⟩ := h
  have hc : d.applyCommits o = d := by
    obtain ⟨⟩ := d
    simp only at hcommits
    subst hcommits
    rfl
  have hk : d.applyCarts o = d := by simp [Dev.applyCarts, hcarts]
  rw [Dev.applyAll, hc, hk]
  exact each_same _ d _ fun n hn => by rw [htens n hn]; rfl

theorem commitsDone_quiet {d : Dev} (h : Quiet d) : d.commitsDone.cartsDone.tenSettle = d := by
  obtain ⟨hcommits, hcarts, htens, -, -⟩ := h
  have hc : d.commitsDone.cartsDone = d := by
    obtain ⟨⟩ := d
    simp only at hcommits hcarts
    subst hcommits hcarts
    rfl
  rw [hc]
  exact iter_same 4 _ d (each_same _ _ _ fun n hn => by rw [htens n hn]; rfl)

/-- A device that selects what a frame shows: nothing is started, and the outputs stand. -/
structure Selecting (d e : Dev) : Prop where
  calm : Calm d e
  outs : e.outs = d.outs

namespace Selecting

theorem refl (d : Dev) : Selecting d d := ⟨.refl d, rfl⟩

theorem trans {a b c : Dev} (h : Selecting a b) (h' : Selecting b c) : Selecting a c := ⟨h.calm.trans h'.calm, h'.outs.trans h.outs⟩

theorem each {α : Type} {f : Dev → α → Dev} (hf : ∀ d a, Selecting d (f d a)) (l : List α) (d : Dev) : Selecting d (d.each l f) :=
  List.foldlRecOn (motive := fun e => Selecting d e) l f (refl d) fun _ he a _ => he.trans (hf _ a)

theorem when {f : Dev → Dev} (hf : ∀ d, Selecting d (f d)) (d : Dev) (b : Bool) : Selecting d (d.when b f) := by
  cases b
  · exact refl d
  · exact hf d

theorem modLayer (d : Dev) (n : Nat) (f : LayerSt → LayerSt) : Selecting d (d.modLayer n f) := ⟨.of_eqs rfl rfl rfl rfl rfl rfl, rfl⟩

theorem modDec (d : Dev) (n : Nat) (f : Dec → Dec) : Selecting d (d.modDec n f) := ⟨.of_eqs rfl rfl rfl rfl rfl rfl, rfl⟩

theorem layerEvent (d : Dev) (o n code : Nat) (data : Bytes) (on : Bool) : Selecting d (d.layerEvent o n code data on) := ⟨raise_undisturbed .., raise_outs ..⟩

theorem takePic (d : Dev) (o n : Nat) (v : LayerVals) : Selecting d (d.takePic o n v) := by
  unfold Dev.takePic
  dsimp only
  split
  · exact modLayer ..
  · next p hp =>
    have h := modLayer d n fun l => { l with pic := d.currentPic v.src }
    split
    · exact h
    · split
      · exact h.trans (modLayer ..)
      · split
        · exact h.trans (modLayer ..)
        · exact (h.trans (modLayer ..)).trans (when (fun d => layerEvent ..) _ _)

theorem put (d : Dev) {q : Par} (t v : Nat) (hq : Par.sesPortCfg.ctorIdx < q.ctorIdx) : Selecting d (d.put q t v) := ⟨put_undisturbed d t v hq, rfl⟩

theorem sliceLead (d : Dev) (o : Nat) : Selecting d (d.sliceLead o) := by
  unfold Dev.sliceLead
  dsimp only
  split
  · exact put d _ _ (by decide)
  · split
    · exact put d _ _ (by decide)
    · exact (put d _ _ (by decide)).trans (put _ _ _ (by decide))

theorem becomeFresh (d : Dev) (o n src : Nat) : Selecting d (d.becomeFresh o n src) := by
  unfold Dev.becomeFresh
  split
  · exact refl d
  · exact (modLayer ..).trans (layerEvent ..)

theorem hideSources (d : Dev) : Selecting d d.hideSources :=
  each (fun d n => by
    dsimp only
    split
    · exact refl d
    · exact modDec ..) _ d

end Selecting

/-- What a frame shows is selected: the frame's labels start over, and no output changes otherwise. -/
theorem select_selects (d : Dev) (o : Nat) : Calm d (d.select o) ∧ (d.select o).out o = { d.out o with labelled := [] } := by
  unfold Dev.select
  dsimp only
  generalize hp : (d.each (d.layersOn o) fun d e =>
    if e.2.showsSource then d.takePic o e.1 e.2 else d.modLayer e.1 fun l => { l with pic := none }) = p
  have hps : Selecting d p := by
    rw [← hp]
    refine .each (fun d e => ?_) _ _
    split
    · exact .takePic ..
    · exact .modLayer ..
  generalize hv : ((p.sliceLead o).each layerNumbers _ : Dev) = v
  have hvs : Selecting (p.sliceLead o) v := by
    rw [← hv]
    refine .each (fun d n => ?_) _ _
    split
    · exact .modLayer ..
    · exact .refl d
  generalize hf : (v.each layerNumbers _ : Dev) = f
  have hfs : Selecting v f := by
    rw [← hf]
    refine .each (fun d n => ?_) _ _
    split
    · exact .becomeFresh ..
    · exact .refl d
  obtain ⟨hcalm, houts⟩ := ((hps.trans (.sliceLead p o)).trans hvs).trans hfs
  obtain ⟨hhcalm, hhouts⟩ := Selecting.hideSources (f.modOut o fun x => { x with labelled := [] })
  refine ⟨(hcalm.trans (modOut_calm ..)).trans hhcalm, ?_⟩
  rw [Dev.out, hhouts, Dev.out, ← houts]
  exact smGet_set_self ..

/-- The commit point of an output that composes, on a quiet device outside a chain. -/
theorem frameCommitOp_eq {d : Dev} {o : Nat} (hq : Quiet d) (hraster : (d.out o).raster = true) (hcomp : d.composes o = true)
    (hplate : d.plateComposes o = true) (hrole : d.chain.role = 0) :
    ∃ e f : Dev, e = (d.modOut o fun x => { x with barrierHold := false, barrierOut := false }) ∧
      f = (e.modOut o fun x => { x with noticeDrawn := e.sec.service.isSome }) ∧
      frameCommitOp o d = ((f.select o).outCount o 0).modOut o fun x => { x with fromBand0 := true, cp := x.cpNext, cpNext := x.cpNext + 1 } := by
  have hbarrier : d.barrierAt o = d.modOut o fun x => { x with barrierHold := false, barrierOut := false } := by
    simp [Dev.barrierAt, hrole]
  refine ⟨_, _, rfl, rfl, ?_⟩
  unfold frameCommitOp
  rw [hbarrier]
  generalize he : (d.modOut o fun x => { x with barrierHold := false, barrierOut := false }) = e
  have heq : Quiet e := (he ▸ modOut_calm d o _ : Calm d e).quiet hq
  have hout : e.out o = { d.out o with barrierHold := false, barrierOut := false } := by rw [← he, out_modOut, if_pos rfl]
  have hec : e.composes o = true := by
    rw [Dev.composes, Bool.and_eq_true] at hcomp ⊢
    exact ⟨by rw [← he]; exact hcomp.1, by rw [hout]; exact hcomp.2⟩
  have hep : e.plateComposes o = true := by rw [← he]; exact hplate
  simp only [hraster, Bool.not_true, Bool.false_eq_true, if_false, applyAll_quiet o heq, ite_self, commitsDone_quiet heq, hec, hep, hout, Bool.not_false,
    Bool.and_self, Dev.when, if_true]

theorem frameCommitOp_composes {d : Dev} {o : Nat} (hq : Quiet d) (hraster : (d.out o).raster = true) (hcomp : d.composes o = true)
    (hplate : d.plateComposes o = true) (hrole : d.chain.role = 0) :
    Calm d (frameCommitOp o d) ∧ ((frameCommitOp o d).out o).cp = (d.out o).cpNext ∧ ((frameCommitOp o d).out o).cpNext = (d.out o).cpNext + 1 ∧
      ((frameCommitOp o d).out o).fromBand0 = true ∧ ((frameCommitOp o d).out o).barrierHold = false ∧
      ((frameCommitOp o d).out o).noticeDrawn = d.sec.service.isSome := by
  obtain ⟨e, f, he, hf, hop⟩ := frameCommitOp_eq hq hraster hcomp hplate hrole
  have hde : Calm d e := he ▸ modOut_calm ..
  have hef : Calm e f := hf ▸ modOut_calm ..
  have hout : e.out o = { d.out o with barrierHold := false, barrierOut := false } := by rw [he, out_modOut, if_pos rfl]
  have hsec : e.sec = d.sec := by rw [he]; rfl
  have hfout : f.out o = { e.out o with noticeDrawn := d.sec.service.isSome } := by rw [hf, out_modOut, if_pos rfl, hsec]
  obtain ⟨hsel, hselout⟩ := select_selects f o
  rw [hop]
  generalize f.select o = g at hsel hselout
  refine ⟨(((hde.trans hef).trans hsel).trans (outCount_calm ..)).trans (modOut_calm ..), ?_⟩
  rw [out_modOut, if_pos rfl, out_outCount, hselout, hfout, hout]
  exact ⟨rfl, rfl, rfl, rfl, rfl⟩

theorem frameCommitPoint_gives {s : State} {o : Nat} (ho : o < 8) (hq : Quiet s.dev) (hraster : (s.dev.out o).raster = true)
    (hcomp : s.dev.composes o = true) (hplate : s.dev.plateComposes o = true) (hrole : s.dev.chain.role = 0) :
    Gives (.frameCommitPoint o) s fun d =>
      (d.out o).cp = (s.dev.out o).cpNext ∧ (d.out o).cpNext = (s.dev.out o).cpNext + 1 ∧ (d.out o).fromBand0 = true ∧
      (d.out o).barrierHold = false ∧ (d.out o).noticeDrawn = s.dev.sec.service.isSome := by
  obtain ⟨hcalm, hout⟩ := frameCommitOp_composes hq hraster hcomp hplate hrole
  exact ⟨_, onDev_settled (f := frameCommitOp o) (decide_eq_true ho) hq hcalm, hout⟩

/-! ### The frame start (07 R165, R191, R196) -/

/-- What the recorder has of a frame that has left. -/
theorem frameRecord_out (d : Dev) {o : Nat} (ho : o < 8) (ref : Ns) :
    Calm d (d.frameRecord o ref) ∧ KeysKept recordCounters d (d.frameRecord o ref) ∧ (d.frameRecord o ref).tim = d.tim ∧
      (d.frameRecord o ref).plates = d.plates ∧ ∃ n r, (d.frameRecord o ref).out o = { d.out o with stepsSeen := n, sinkResult := r } := by
  unfold Dev.frameRecord
  split
  · exact ⟨.refl d, .refl d, rfl, rfl, (d.out o).stepsSeen, (d.out o).sinkResult, rfl⟩
  · have hon := Recording.recorderOn d o
    dsimp only
    generalize d.recorderOn o = e at hon
    generalize (WPend.mk ..) = p
    have hrest := (Recording.modWit (e.modOut o fun x => { x with stepsSeen := 0, sinkResult := none }) o fun w => { w with pend := w.pend ++ [p] }).trans
      (.flush _ ho)
    refine ⟨(hon.calm.trans (modOut_calm ..)).trans hrest.calm, (hon.keys.trans (.of_regs rfl)).trans hrest.keys, hrest.tim.trans hon.tim,
      hrest.plates.trans hon.plates, 0, none, ?_⟩
    rw [Dev.out, hrest.outs, Dev.out, ← hon.outs]
    exact smGet_set_self ..

end Sys2Proof.Goals
end

section
/-!
PROOF. The frames and bands of an output, settled (07 R163 to R166, R192 to R197, 02 R54, R57, R64).
-/

namespace Sys2Proof.Goals

open Sys2Proof Sys2Proof.Machine

/-- What a frame that has left leaves behind: its held run, and what its record took up. -/
theorem frameLeft_out (d : Dev) {o : Nat} (ho : o < 8) :
    Calm d (d.frameLeft o) ∧ KeysKept recordCounters d (d.frameLeft o) ∧ (d.frameLeft o).tim = d.tim ∧ (d.frameLeft o).plates = d.plates ∧
      ∃ h n r, (d.frameLeft o).out o = { d.out o with heldRun := h, stepsSeen := n, sinkResult := r } := by
  unfold Dev.frameLeft
  dsimp only
  generalize he : (d.modOut o fun x => { x with heldRun := if x.witnessHeld then x.heldRun + 1 else 0 }) = e
  have hout : e.out o = { d.out o with heldRun := if (d.out o).witnessHeld then (d.out o).heldRun + 1 else 0 } := by rw [← he, out_modOut, if_pos rfl]
  have hde : Calm d e ∧ KeysKept recordCounters d e ∧ e.tim = d.tim ∧ e.plates = d.plates := by
    rw [← he]
    exact ⟨modOut_calm .., .of_regs rfl, rfl, rfl⟩
  have hmon := Recording.when (fun d => .monFrame d o) e (!(e.out o).witnessBands.isEmpty)
  generalize (e.when (!(e.out o).witnessBands.isEmpty) fun d => d.monFrame o) = f at hmon
  obtain ⟨hcalm, hkeys, htim, hplates, n, r, hfout⟩ := frameRecord_out f ho (f.out o).ref0
  have hfe : f.out o = e.out o := by rw [Dev.out, hmon.outs, Dev.out]
  exact ⟨(hde.1.trans hmon.calm).trans hcalm, (hde.2.1.trans hmon.keys).trans hkeys, (htim.trans hmon.tim).trans hde.2.2.1,
    (hplates.trans hmon.plates).trans hde.2.2.2, _, n, r, by rw [hfout, hfe, hout]⟩

/-- A frame start is locked: the output follows the clock, and the error is less than one line (07 R165). -/
def locks (d : Dev) (o : Nat) (err : Int) : Bool :=
  d.flagF .pltOutCfg o 30 && d.tim.st != .freeRun && decide (err.natAbs * tmPclk (d.timing o) < tmHtotal (d.timing o) * 1000000000)

/-- Frame lock takes the error of the frame start (07 R165, R200). -/
theorem lockFrame_out (d : Dev) (o : Nat) (err : Int) :
    Calm d (d.lockFrame o err) ∧ (d.lockFrame o err).out o = { d.out o with errNs := err, frameLocked := locks d o err } := by
  have hoff : (!decide (tmHtotal (d.timing o) * 1000000000 ≤ err.natAbs * tmPclk (d.timing o))) =
      decide (err.natAbs * tmPclk (d.timing o) < tmHtotal (d.timing o) * 1000000000) := by simp [← decide_not]
  unfold Dev.lockFrame
  dsimp only
  rw [hoff, locks]
  generalize (d.flagF .pltOutCfg o 30 && d.tim.st != .freeRun) = follows
  generalize decide (err.natAbs * tmPclk (d.timing o) < tmHtotal (d.timing o) * 1000000000) = near
  generalize decide (tmHtotal (d.timing o) * 1000000000 ≤ err.natAbs * tmPclk (d.timing o)) = off
  generalize he : (d.when (follows && off) fun d => d.outCount o 5) = e
  have hde : Calm d e ∧ e.out o = d.out o := by
    rw [← he]
    cases follows && off
    · exact ⟨.refl d, rfl⟩
    · exact ⟨outCount_calm .., out_outCount ..⟩
  generalize hf : (e.modOut o fun x => { x with errNs := err, frameLocked := follows && near }) = f
  have hef : Calm e f ∧ f.out o = { e.out o with errNs := err, frameLocked := follows && near } := by
    rw [← hf]
    exact ⟨modOut_calm .., by rw [out_modOut, if_pos rfl]⟩
  generalize ((follows && near) != (e.out o).frameLocked) = b
  have hr := Recording.when (fun d => .raise d toPartners { code := 0xE306, object := o, out := o, data := leBytes 4 (ofSigned 32 err), on := follows && near }) f b
  refine ⟨(hde.1.trans hef.1).trans hr.calm, ?_⟩
  rw [Dev.out, hr.outs, ← Dev.out, hef.2, hde.2]

/-- The output of a frame that begins to leave, with the band that holds the glyph cell. -/
def begun (x : Output) (band : Nat) : Output :=
  { x with
    frame := x.cp, curCommit := x.commitFlag, curCart := x.cartFlag, commitFlag := false, cartFlag := false, witnessTiles := [], witnessBands := [],
    witnessPx := [], witnessHeld := false, glyphBand := band, glyphOk := false }

theorem frameStart_gives {s : State} {o : Nat} (err : Int) (ho : o < 8) (hq : Quiet s.dev) (hraster : (s.dev.out o).raster = true)
    (hstop : (s.dev.out o).stopping = false) (hoff : (s.dev.out o).offNext = false) (hback : (s.dev.plate (plateOf o)).backAtFrame = false) :
    Gives (.frameStart o err) s fun d =>
      (d.out o).frame = (s.dev.out o).cp ∧ (d.out o).errNs = err ∧ (d.out o).glyphOk = false ∧ (d.out o).witnessTiles = [] ∧
      (d.out o).witnessBands = [] ∧ (d.out o).witnessHeld = false ∧ (d.out o).frameLocked = locks s.dev o err := by
  obtain ⟨hcalm, hkeys, htim, hplates, h, n, r, hout⟩ := frameLeft_out s.dev ho
  have ho' : o < 2 ^ 24 := by omega
  generalize he : s.dev.frameLeft o = e at hcalm hkeys htim hplates hout
  have hoffe : e.outputOff o = e := if_neg (by rw [hout]; simp [hoff])
  generalize hf : e.nextFrame o = f
  have hef : Calm e f := by rw [← hf, Dev.nextFrame]; exact modOut_calm _ _ _
  have hfout : ∃ band, f.out o = begun (e.out o) band :=
    ⟨_, by rw [← hf, Dev.nextFrame, out_modOut, if_pos rfl]; rfl⟩
  obtain ⟨band, hfout⟩ := hfout
  have hplate : f.plate (plateOf o) = s.dev.plate (plateOf o) := by rw [← hf, Dev.plate, Dev.plate, ← hplates]; rfl
  have hback' : f.takeBack (plateOf o) = f := if_neg (by rw [hplate, hback]; simp)
  have hkf : KeysKept recordCounters s.dev f := hkeys.trans (.of_regs (by rw [← hf]; rfl))
  have htf : f.tim = s.dev.tim := by rw [← htim, ← hf]; rfl
  have hlocks : locks f o err = locks s.dev o err := by
    rw [locks, locks, Dev.flagF, Dev.flagF, Dev.timing, Dev.timing, hkf.getF (by decide) ho', hkf.getF (by decide) ho', htf]
  have hop : frameStartOp o err s.dev = f.lockFrame o err := by
    unfold frameStartOp
    simp only [hraster, he, hoffe, hout, hstop, hf, hback', Bool.not_true, Bool.false_eq_true, if_false]
  obtain ⟨hlcalm, hlout⟩ := lockFrame_out f o err
  refine ⟨_, onDev_settled (f := frameStartOp o err) (decide_eq_true ho) hq (by rw [hop]; exact (hcalm.trans hef).trans hlcalm), ?_⟩
  beta_reduce
  rw [hop, hlout, hlocks, hfout, hout]
  exact ⟨rfl, rfl, rfl, rfl, rfl, rfl, rfl⟩

end Sys2Proof.Goals
end

section
/-!
PROOF. Bands as they leave, the hold reader, the sink's readback and the compares (07 R192 to R197, 02 R54, R57, R64).
-/

namespace Sys2Proof.Goals

open Sys2Proof Sys2Proof.Machine

theorem smInsert_any {α : Type} (m : List (Nat × α)) (k : Nat) (v : α) : (smInsert m k v).any (fun e => e.1 == k) = true := by
  induction m with
  | nil => simp [smInsert]
  | cons e m ih =>
    obtain ⟨k', v'⟩ := e
    rw [smInsert]
    split
    · simp
    · split
      · simp
      · rw [List.any_cons, ih, Bool.or_true]

/-- The counters by which a band that leaves counts. -/
def bandCounters : List Nat := [Par.pltOutStat.ctorIdx, Par.talValue.ctorIdx, Par.talCount.ctorIdx]

/-- The output from which a band has left. -/
def bandGone (x : Output) (band : Nat) (tRef : Ns) (held : Bool) (ts : List (Nat × TileSt)) (px : List SentPx) (check : Nat) : Output :=
  { x with
    witnessTiles := ts.foldl (fun m e => smInsert m e.1 e.2) x.witnessTiles, witnessBands := smInsert x.witnessBands band check,
    witnessPx := smInsert x.witnessPx band px, witnessHeld := x.witnessHeld || held, ref0 := if band = 0 then tRef else x.ref0,
    tiles := x.tiles.filter (fun e => e.1 / 32 != band), bandCheck := smErase x.bandCheck band, bandPx := smErase x.bandPx band,
    bandsDone := x.bandsDone.filter (· != band), heldBands := x.heldBands.filter (· != band) }

theorem bandLeaves_rules (d : Dev) {o : Nat} (ho : o < 8) (band : Nat) (tRef : Ns) (held : Bool) (ts : List (Nat × TileSt)) (px : List SentPx) (check : Nat) :
    KeysKept bandCounters d (d.bandLeaves o band tRef held ts px check) ∧
      (d.bandLeaves o band tRef held ts px check).out o = bandGone (d.out o) band tRef held ts px check ∧
      (d.bandLeaves o band tRef held ts px check).sent = .band o band check held :: d.sent := by
  unfold Dev.bandLeaves
  generalize he : (d.modOut o fun x => _) = e
  have hout : e.out o = bandGone (d.out o) band tRef held ts px check := by
    rw [← he, out_modOut, if_pos rfl]
    rfl
  have hsent : e.sent = d.sent := by rw [← he]; rfl
  have hkeys : KeysKept bandCounters d e := by rw [← he]; exact .of_regs rfl
  have hv : KeysKept bandCounters e (e.put .talValue o check) := .put e check (by decide) (by omega)
  have hc : KeysKept bandCounters (e.put .talValue o check) ((e.put .talValue o check).count .talCount o) := .put _ _ (by decide) (by omega)
  refine ⟨((hkeys.trans hv).trans hc).trans (.of_regs rfl), ?_, congrArg _ hsent⟩
  exact hout

theorem timing_kept {d e : Dev} (h : KeysKept bandCounters d e) {o : Nat} (ho : o < 8) : e.timing o = d.timing o := h.getF (by decide) (by omega)

theorem bands_kept {d e : Dev} (h : KeysKept bandCounters d e) {o : Nat} (ho : o < 8) : e.bands o = d.bands o := by
  rw [Dev.bands, Dev.bands, timing_kept h ho]

theorem outCount_kept (d : Dev) {o k : Nat} (ho : o < 8) (hk : k < 8) : KeysKept bandCounters d (d.outCount o k) :=
  .put d _ (by decide) (show o * 8 + k < 2 ^ 24 by omega)

section Scanout

variable {s : State} {o band : Nat} {t : Ns} (hwf : Instr.wellFormed (.bandScanout o band t) = true) (hcomp : s.dev.composes o = true)
  (hlt : band + 1 < s.dev.bands o)

include hwf hcomp hlt

/-- A composed band leaves as composed. -/
theorem bandScanout_composed (hglyph : band ≠ (s.dev.out o).glyphBand) (hdone : band ∈ (s.dev.out o).bandsDone) (hheld : band ∉ (s.dev.out o).heldBands)
    (hsafe : s.dev.flt.safe = false) :
    To (.bandScanout o band t) s (s.dev.bandLeaves o band t false ((s.dev.out o).tiles.filter fun e => e.1 / 32 == band)
      (smGet [] (s.dev.out o).bandPx band) (smGet 0 (s.dev.out o).bandCheck band)) := by
  have ho : o < 8 := (of_decide_eq_true hwf).1
  have hb : ¬ s.dev.bands o ≤ band := by omega
  refine to_of (f := bandScanoutOp o band t) rfl hwf ?_
  unfold bandScanoutOp
  have hdone' : (s.dev.out o).bandsDone.contains band = true := by simpa using hdone
  have hheld' : (s.dev.out o).heldBands.contains band = false := by simpa using hheld
  simp only [hcomp, hb, hdone', hheld', hsafe, Bool.not_true, decide_false, Bool.or_self, Bool.false_eq_true, if_false, Dev.when]
  generalize (s.dev.out o).tiles.filter _ = ts
  obtain ⟨hkeys, hout, -⟩ := bandLeaves_rules s.dev ho band t false ts (smGet [] (s.dev.out o).bandPx band) (smGet 0 (s.dev.out o).bandCheck band)
  generalize s.dev.bandLeaves o band t false ts _ _ = e at hkeys hout
  have hg : e.glyphCheck o band false = e := if_pos (by rw [hout]; simpa [bandGone] using .inr hglyph)
  rw [hg, bands_kept hkeys ho, if_neg (by omega)]

/-- Any other band leaves from the hold reader. -/
theorem bandScanout_held (hnot : band ∉ (s.dev.out o).bandsDone ∨ band ∈ (s.dev.out o).heldBands ∨ s.dev.flt.safe = true) :
    Gives (.bandScanout o band t) s fun d =>
      (d.out o).witnessHeld = true ∧ (d.out o).witnessBands.any (fun e => e.1 == band) = true ∧ ∃ check, d.sent = .band o band check true :: s.dev.sent := by
  have ho : o < 8 := (of_decide_eq_true hwf).1
  have hb : ¬ s.dev.bands o ≤ band := by omega
  refine gives_of (f := bandScanoutOp o band t) rfl hwf ?_
  have hheld : (!(s.dev.out o).bandsDone.contains band || (s.dev.out o).heldBands.contains band || s.dev.flt.safe) = true := by
    rcases hnot with h | h | h <;> simp [h]
  unfold bandScanoutOp
  simp only [hcomp, hb, hheld, Bool.not_true, decide_false, Bool.or_self, Bool.false_eq_true, if_false, if_true]
  generalize hc : (s.dev.when true fun d => (d.outCount o 2).when (!(s.dev.out o).witnessHeld) fun d => d.outCount o 1) = c
  have hck : KeysKept bandCounters s.dev c ∧ c.sent = s.dev.sent := by
    rw [← hc]
    have hk : KeysKept bandCounters s.dev ((s.dev.outCount o 2).when (!(s.dev.out o).witnessHeld) fun d => d.outCount o 1) :=
      (outCount_kept s.dev ho (show 2 < 8 by omega)).trans (.when (outCount_kept _ ho (show 1 < 8 by omega)))
    exact ⟨hk, by
      cases (s.dev.out o).witnessHeld <;> rfl⟩
  generalize (c.heldBand o band t) = h
  obtain ⟨hkeys, hout, hsent⟩ := bandLeaves_rules c ho band t true h.1 h.2.1 h.2.2
  generalize c.bandLeaves o band t true h.1 h.2.1 h.2.2 = e at hkeys hout hsent
  have hx : (e.out o).witnessHeld = true ∧ (e.out o).witnessBands.any (fun e => e.1 == band) = true := by
    rw [hout]
    exact ⟨Bool.or_true _, smInsert_any ..⟩
  have hfinal : ∀ f : Dev, f = e.glyphCheck o band true → KeysKept bandCounters e f ∧ f.sent = e.sent ∧ (f.out o).witnessHeld = (e.out o).witnessHeld ∧
      (f.out o).witnessBands = (e.out o).witnessBands := fun f hf => by
    rw [hf, Dev.glyphCheck]
    dsimp only
    split
    · exact ⟨.refl e, rfl, rfl, rfl⟩
    · rw [if_pos rfl, out_modOut, if_pos rfl]
      exact ⟨.of_regs rfl, rfl, rfl, rfl⟩
  obtain ⟨hfk, hfs, hfh, hfb⟩ := hfinal _ rfl
  generalize e.glyphCheck o band true = f at hfk hfs hfh hfb
  rw [if_neg (by rw [bands_kept ((hck.1.trans hkeys).trans hfk) ho]; omega)]
  exact ⟨hfh.trans hx.1, by rw [hfb]; exact hx.2, h.2.2, by rw [hfs, hsent, hck.2]⟩

end Scanout

/-- The sink's values agree with the part's own of the last frame. -/
theorem sinkCrcReadback_agrees {s : State} {o a b c x y z : Nat} (hwf : Instr.wellFormed (.sinkCrcReadback o [a, b, c] [a, b, c, x, y, z]) = true)
    (hen : s.dev.flag .datSinkCrcEn o 0 = true) (hup : (s.dev.dp o).up = true) (hraster : (s.dev.out o).raster = true)
    (hwit : (s.dev.out o).unwitnessed = false) :
    To (.sinkCrcReadback o [a, b, c] [a, b, c, x, y, z]) s
      (s.dev.modOut o fun p => { p with sinkOk := true, sinkRun := 0, sinkResult := some ([a, b, c], [a, b, c], true) }) := by
  refine to_of (f := sinkReadbackOp o [a, b, c] [a, b, c, x, y, z]) rfl hwf ?_
  have hok : ([a, b, c] == [a, b, c, x, y, z].take 3 || [a, b, c] == [a, b, c, x, y, z].drop 3) = true := by simp
  unfold sinkReadbackOp
  simp only [hen, hup, hraster, hok, hwit, Bool.and_self, Bool.not_true, Bool.false_eq_true, if_false, if_true, Dev.when, bne_self_eq_false]
  rw [Dev.modOut, Dev.modOut, ← hwit]
  rfl

/-- Settles O19. -/
theorem frameCommandsComplete : Obligations.FrameCommandsComplete := by
  unfold Obligations.FrameCommandsComplete
  refine ⟨fun s o => frameCommitPoint_gives, fun s o err => frameStart_gives err, fun s o band t tiles px hwf hcomp hplate hbar hheld hlt => ?_,
    fun s o band hwf hcomp hlt hdone hheld => ?_, fun s o band t hwf hcomp hlt => bandScanout_composed hwf hcomp hlt,
    fun s o band t hwf hcomp hlt => bandScanout_held hwf hcomp hlt, fun s o a b c x y z => sinkCrcReadback_agrees,
    fun s o band v hwf hspare hstand hstage hcmp hval => ?_, fun s p o band v hwf hfail hdone hreset hplate hcomp hval => ?_,
    fun s p hp hfail hdone hrun => ?_⟩
  · refine to_of (f := bandComposeOp o band t tiles px) rfl hwf (if_pos ?_)
    simp [hcomp, hplate, hbar, hheld, hlt]
  · have hb : ¬ s.dev.bands o ≤ band := by omega
    refine to_of (f := bandDeadlineOp o band) rfl hwf ?_
    simp only [bandDeadlineOp, hcomp, hb, Bool.not_true, decide_false, Bool.false_or, List.contains_eq_mem, hdone, hheld, Bool.false_eq_true, if_false]
    have hpc : (s.dev.modOut o fun x => { x with heldBands := band :: x.heldBands }).plateComposes o = s.dev.plateComposes o := rfl
    rw [hpc]
    simp only [Bool.and_eq_true, Bool.not_eq_true']
    rfl
  · refine to_of (f := benchCompareOp o band v) rfl hwf ?_
    simp only [benchCompareOp, hspare, hstand, hcmp, Dev.benchExpected, hstage, hval, Option.isNone_none, Bool.and_self, Bool.not_true, Bool.false_eq_true,
      if_false, Dev.benchVerdict, beq_self_eq_true, if_true]
  · refine to_of (f := failbackCompareOp p o band v) rfl hwf ?_
    simp only [failbackCompareOp, hfail, hdone, hreset, hplate, hcomp, hval, Bool.not_false, beq_self_eq_true, Bool.and_self, Bool.not_true,
      Bool.false_eq_true, if_false, if_true]
  · exact to_of (f := failbackRunOp p) rfl (decide_eq_true hp) (if_pos (by simp [hfail, hdone, hrun]))

end Sys2Proof.Goals
end

section
/-!
PROOF. Memory keeps its canonical form: the operations of the device that every unit uses. One lemma per function of the model, in the order of the
model's files: from a device whose memory is in form the function gives one whose memory is.
-/
namespace Sys2Proof.Goals

open Sys2Proof Sys2Proof.Machine

variable {d : Dev}

theorem when_form {b : Bool} {f : Dev → Dev} (hd : d.mem.wf) (hf : ∀ e : Dev, e.mem.wf → (f e).mem.wf) : (d.when b f).mem.wf := by
  cases b
  · exact hd
  · exact hf d hd

theorem each_form {α : Type} {l : List α} {f : Dev → α → Dev} (hd : d.mem.wf) (hf : ∀ (e : Dev) (a : α), e.mem.wf → (f e a).mem.wf) :
    (d.each l f).mem.wf :=
  List.foldlRecOn (motive := fun e => e.mem.wf = true) l f hd fun e he a _ => hf e a he

theorem poke_form {a : Nat} {bs : Bytes} (hd : d.mem.wf) : (d.poke a bs).mem.wf := Dev.poke_wf bs d a hd

theorem zeroFill_form {a n : Nat} (hd : d.mem.wf) : (d.zeroFill a n).mem.wf := Dev.zeroFill_wf d a n hd

theorem audit_form {code : Nat} {data : Bytes} {port tenancy : Nat}
    (hd : d.mem.wf) : (d.audit code data port tenancy).mem.wf := Dev.audit_wf d code data port tenancy hd

theorem tells_form {e : Dev} (ht : Tells d e) (hd : d.mem.wf) : e.mem.wf := by
  rw [ht.eq]
  exact hd

theorem raise_form {rcpt : Session → Bool} {ev : Event} (hd : d.mem.wf) : (d.raise rcpt ev).mem.wf := tells_form (raise_tells d rcpt ev) hd

theorem ipTx_form {port : Nat} {v6 : Bool} {dst prio : Nat} {o : Out}
    (hd : d.mem.wf) : (d.ipTx port v6 dst prio o).mem.wf := tells_form (ipTx_tells ..) hd

theorem ethTx_form {port prio : Nat} {o : Out} (hd : d.mem.wf) : (d.ethTx port prio o).mem.wf := tells_form (ethTx_tells ..) hd

theorem signal_form {ep v : Nat} (hd : d.mem.wf) : (d.signal ep v).mem.wf := tells_form (signal_tells ..) hd

theorem sendEvent_form {s : Session} {no : Nat} {ev : Event} (hd : d.mem.wf) : (d.sendEvent s no ev).mem.wf := tells_form (sendEvent_tells ..) hd

theorem postEvent_form {port : Nat} {ev : Event} (hd : d.mem.wf) : (d.postEvent port ev).mem.wf := tells_form (postEvent_tells ..) hd

theorem snd_form {α : Type} {p : α × Dev} {a : α} {e : Dev} (hp : p = (a, e)) (hd : p.2.mem.wf) : e.mem.wf := by
  rw [hp] at hd
  exact hd

theorem foldl_form {α : Type} {l : List α} {f : Dev → α → Dev} (hd : d.mem.wf) (hf : ∀ (e : Dev) (a : α), e.mem.wf → (f e a).mem.wf) :
    (l.foldl f d).mem.wf :=
  each_form hd hf

theorem foldlSnd_form {α β : Type} {l : List α} {f : β × Dev → α → β × Dev} {p : β × Dev} (hd : p.2.mem.wf)
    (hf : ∀ (p : β × Dev) (a : α), p.2.mem.wf → (f p a).2.mem.wf) : (l.foldl f p).2.mem.wf :=
  List.foldlRecOn (motive := fun p => p.2.mem.wf = true) l f hd fun p hp a _ => hf p a hp

theorem iter_form {n : Nat} {f : Dev → Dev} (hd : d.mem.wf) (hf : ∀ e : Dev, e.mem.wf → (f e).mem.wf) : (iter n f d).mem.wf := by
  induction n generalizing d with
  | zero => exact hd
  | succ n ih => exact ih (hf d hd)

theorem ite_form {c : Prop} [Decidable c] {a b : Dev} (ha : a.mem.wf) (hb : b.mem.wf) : (if c then a else b).mem.wf := by
  split
  · exact ha
  · exact hb

theorem iteSnd_form {α : Type} {c : Prop} [Decidable c] {p q : α × Dev} (hp : p.2.mem.wf) (hq : q.2.mem.wf) : (if c then p else q).2.mem.wf := by
  split
  · exact hp
  · exact hq

theorem filterCells_form {f : Nat × Byte → Bool} (hd : d.mem.wf) : ({ d with mem := { d.mem with cells := d.mem.cells.filter f } } : Dev).mem.wf :=
  wiped_wf d.mem f hd

theorem setSrc_form {n : Nat} {x : Src} (hd : d.mem.wf) : (d.setSrc n x).mem.wf := by
  unfold Dev.setSrc
  exact hd

theorem modSrc_form {n : Nat} {f : Src → Src} (hd : d.mem.wf) : (d.modSrc n f).mem.wf := by
  unfold Dev.modSrc
  exact setSrc_form hd

theorem setDec_form {n : Nat} {x : Dec} (hd : d.mem.wf) : (d.setDec n x).mem.wf := by
  unfold Dev.setDec
  exact hd

theorem modDec_form {n : Nat} {f : Dec → Dec} (hd : d.mem.wf) : (d.modDec n f).mem.wf := by
  unfold Dev.modDec
  exact setDec_form hd

theorem setEng_form {n : Nat} {x : DecEng} (hd : d.mem.wf) : (d.setEng n x).mem.wf := by
  unfold Dev.setEng
  exact hd

theorem modEng_form {n : Nat} {f : DecEng → DecEng} (hd : d.mem.wf) : (d.modEng n f).mem.wf := by
  unfold Dev.modEng
  exact setEng_form hd

theorem setPipe_form {n : Nat} {x : Pipe} (hd : d.mem.wf) : (d.setPipe n x).mem.wf := by
  unfold Dev.setPipe
  exact hd

theorem modPipe_form {n : Nat} {f : Pipe → Pipe} (hd : d.mem.wf) : (d.modPipe n f).mem.wf := by
  unfold Dev.modPipe
  exact setPipe_form hd

theorem setOut_form {n : Nat} {x : Output} (hd : d.mem.wf) : (d.setOut n x).mem.wf := by
  unfold Dev.setOut
  exact hd

theorem modOut_form {n : Nat} {f : Output → Output} (hd : d.mem.wf) : (d.modOut n f).mem.wf := by
  unfold Dev.modOut
  exact setOut_form hd

theorem setPlate_form {n : Nat} {x : Plate} (hd : d.mem.wf) : (d.setPlate n x).mem.wf := by
  unfold Dev.setPlate
  exact hd

theorem modPlate_form {n : Nat} {f : Plate → Plate} (hd : d.mem.wf) : (d.modPlate n f).mem.wf := by
  unfold Dev.modPlate
  exact setPlate_form hd

theorem setLayer_form {n : Nat} {x : LayerSt} (hd : d.mem.wf) : (d.setLayer n x).mem.wf := by
  unfold Dev.setLayer
  exact hd

theorem modLayer_form {n : Nat} {f : LayerSt → LayerSt} (hd : d.mem.wf) : (d.modLayer n f).mem.wf := by
  unfold Dev.modLayer
  exact setLayer_form hd

theorem setWit_form {n : Nat} {x : Wit} (hd : d.mem.wf) : (d.setWit n x).mem.wf := by
  unfold Dev.setWit
  exact hd

theorem modWit_form {n : Nat} {f : Wit → Wit} (hd : d.mem.wf) : (d.modWit n f).mem.wf := by
  unfold Dev.modWit
  exact setWit_form hd

theorem setMon_form {n : Nat} {x : RcSt} (hd : d.mem.wf) : (d.setMon n x).mem.wf := by
  unfold Dev.setMon
  exact hd

theorem modMon_form {n : Nat} {f : RcSt → RcSt} (hd : d.mem.wf) : (d.modMon n f).mem.wf := by
  unfold Dev.modMon
  exact setMon_form hd

theorem setTen_form {n : Nat} {x : Ten} (hd : d.mem.wf) : (d.setTen n x).mem.wf := by
  unfold Dev.setTen
  exact hd

theorem modTen_form {n : Nat} {f : Ten → Ten} (hd : d.mem.wf) : (d.modTen n f).mem.wf := by
  unfold Dev.modTen
  exact setTen_form hd

theorem setFe_form {n : Nat} {x : FrontEnd} (hd : d.mem.wf) : (d.setFe n x).mem.wf := by
  unfold Dev.setFe
  exact hd

theorem modFe_form {n : Nat} {f : FrontEnd → FrontEnd} (hd : d.mem.wf) : (d.modFe n f).mem.wf := by
  unfold Dev.modFe
  exact setFe_form hd

theorem setTring_form {n : Nat} {x : RingSt} (hd : d.mem.wf) : (d.setTring n x).mem.wf := by
  unfold Dev.setTring
  exact hd

theorem modTring_form {n : Nat} {f : RingSt → RingSt} (hd : d.mem.wf) : (d.modTring n f).mem.wf := by
  unfold Dev.modTring
  exact setTring_form hd

theorem setHap_form {n : Nat} {x : Haptic} (hd : d.mem.wf) : (d.setHap n x).mem.wf := by
  unfold Dev.setHap
  exact hd

theorem modHap_form {n : Nat} {f : Haptic → Haptic} (hd : d.mem.wf) : (d.modHap n f).mem.wf := by
  unfold Dev.modHap
  exact setHap_form hd

theorem setEth_form {n : Nat} {x : EthPort} (hd : d.mem.wf) : (d.setEth n x).mem.wf := by
  unfold Dev.setEth
  exact hd

theorem modEth_form {n : Nat} {f : EthPort → EthPort} (hd : d.mem.wf) : (d.modEth n f).mem.wf := by
  unfold Dev.modEth
  exact setEth_form hd

theorem setMdk_form {n : Nat} {x : Mdk} (hd : d.mem.wf) : (d.setMdk n x).mem.wf := by
  unfold Dev.setMdk
  exact hd

theorem modMdk_form {n : Nat} {f : Mdk → Mdk} (hd : d.mem.wf) : (d.modMdk n f).mem.wf := by
  unfold Dev.modMdk
  exact setMdk_form hd

theorem setPcie_form {n : Nat} {x : Pcie} (hd : d.mem.wf) : (d.setPcie n x).mem.wf := by
  unfold Dev.setPcie
  exact hd

theorem modPcie_form {n : Nat} {f : Pcie → Pcie} (hd : d.mem.wf) : (d.modPcie n f).mem.wf := by
  unfold Dev.modPcie
  exact setPcie_form hd

theorem setDp_form {n : Nat} {x : DpLink} (hd : d.mem.wf) : (d.setDp n x).mem.wf := by
  unfold Dev.setDp
  exact hd

theorem modDp_form {n : Nat} {f : DpLink → DpLink} (hd : d.mem.wf) : (d.modDp n f).mem.wf := by
  unfold Dev.modDp
  exact setDp_form hd

theorem setTal_form {n : Nat} {x : Tally} (hd : d.mem.wf) : (d.setTal n x).mem.wf := by
  unfold Dev.setTal
  exact hd

theorem modTal_form {n : Nat} {f : Tally → Tally} (hd : d.mem.wf) : (d.modTal n f).mem.wf := by
  unfold Dev.modTal
  exact setTal_form hd

theorem setPrt_form {n : Nat} {x : PortSt} (hd : d.mem.wf) : (d.setPrt n x).mem.wf := by
  unfold Dev.setPrt
  exact hd

theorem modPrt_form {n : Nat} {f : PortSt → PortSt} (hd : d.mem.wf) : (d.modPrt n f).mem.wf := by
  unfold Dev.modPrt
  exact setPrt_form hd

theorem setRng_form {n : Nat} {x : Ring} (hd : d.mem.wf) : (d.setRng n x).mem.wf := by
  unfold Dev.setRng
  exact hd

theorem modRng_form {n : Nat} {f : Ring → Ring} (hd : d.mem.wf) : (d.modRng n f).mem.wf := by
  unfold Dev.modRng
  exact setRng_form hd

theorem setEvr_form {n : Nat} {x : EvtRing} (hd : d.mem.wf) : (d.setEvr n x).mem.wf := by
  unfold Dev.setEvr
  exact hd

theorem put_form {p : Par} {s v : Nat} (hd : d.mem.wf) : (d.put p s v).mem.wf := by
  unfold Dev.put
  exact hd

theorem putF_form {p : Par} {s v : Nat} (hd : d.mem.wf) : (d.putF p s v).mem.wf := by
  unfold Dev.putF
  exact hd

theorem count_form {p : Par} {s : Nat} {n : Nat} (hd : d.mem.wf) : (d.count p s n).mem.wf := by
  unfold Dev.count
  exact put_form hd

theorem count2_form {p : Par} {x y : Nat} {n : Nat} (hd : d.mem.wf) : (d.count2 p x y n).mem.wf := by
  unfold Dev.count2
  exact count_form hd

theorem fresh_form (hd : d.mem.wf) : d.fresh.2.mem.wf := by
  unfold Dev.fresh
  exact hd

theorem freshBytes_form {n : Nat} (hd : d.mem.wf) : (d.freshBytes n).2.mem.wf := by
  unfold Dev.freshBytes
  exact hd

theorem send_form {o : Out} (hd : d.mem.wf) : (d.send o).mem.wf := by
  unfold Dev.send
  exact hd

theorem busWrite_form {a : Nat} {b : Bytes} (hd : d.mem.wf) : (d.busWrite a b).mem.wf := by
  unfold Dev.busWrite
  exact send_form hd

theorem groupTx_form {port group : Nat} {join : Bool} (hd : d.mem.wf) : (d.groupTx port group join).mem.wf := by
  unfold Dev.groupTx
  split
  · exact ethTx_form hd
  · exact hd

theorem ncTx_form {cfg peer : Nat} {o : Out} (hd : d.mem.wf) : (d.ncTx cfg peer o).mem.wf := by
  unfold Dev.ncTx
  exact ipTx_form hd

theorem scribble_form {a n : Nat} (hd : d.mem.wf) : (d.scribble a n).mem.wf := by
  unfold Dev.scribble
  exact poke_form hd

theorem modSes_form {port : Nat} {f : Session → Session} (hd : d.mem.wf) : (d.modSes port f).mem.wf := by
  unfold Dev.modSes
  exact hd

theorem sesCount_form {port k : Nat} {n : Nat} (hd : d.mem.wf) : (d.sesCount port k n).mem.wf := by
  unfold Dev.sesCount
  exact when_form hd (fun _ => count2_form)

theorem drainEvents_form {fuel port : Nat} (hd : d.mem.wf) : (Dev.drainEvents fuel port d).mem.wf := by
  induction fuel generalizing d with
  | zero => exact hd
  | succ fuel ih =>
    rw [Dev.drainEvents]
    split
    · exact hd
    · split
      · exact hd
      · split
        · exact ih (sendEvent_form (modSes_form hd))
        · exact hd

theorem eventSpaceBack_form {port : Nat} (hd : d.mem.wf) : (d.eventSpaceBack port).mem.wf := by
  unfold Dev.eventSpaceBack
  dsimp only
  split
  · exact drainEvents_form hd
  · split
    · exact postEvent_form (modSes_form (drainEvents_form hd))
    · exact drainEvents_form hd

end Sys2Proof.Goals
end

section
/-!
PROOF. Memory keeps its form: sessions, packets and the time unit.
-/
namespace Sys2Proof.Goals

open Sys2Proof Sys2Proof.Machine

variable {d : Dev}

theorem refuse_form {st : Nat} (hd : d.mem.wf) : (refuse st d).2.mem.wf := by
  unfold refuse
  exact hd

theorem checked_form {cs : List (Bool × Nat)} {f : Dev → Answer} (hd : d.mem.wf) (hf : ∀ e : Dev, e.mem.wf → (f e).2.mem.wf) :
    (checked cs d f).2.mem.wf := by
  unfold checked
  split
  · exact hd
  · exact hf d hd

theorem retain_form {port : Nat} {r : Rec} (hd : d.mem.wf) : (d.retain port r).mem.wf := by
  unfold Dev.retain
  split
  · exact hd
  · exact hd

theorem modRec_form {port sid seq : Nat} {f : Rec → Rec} (hd : d.mem.wf) : (d.modRec port sid seq f).mem.wf := by
  unfold Dev.modRec
  split
  · exact hd
  · exact retain_form (modSes_form hd)

theorem phaseDone_form {port sid seq ph : Nat} (hd : d.mem.wf) : (d.phaseDone port sid seq ph).mem.wf := by
  unfold Dev.phaseDone
  exact modRec_form hd

theorem finish_form {port sid seq st ph : Nat} {squashed : Bool} {fault : Bool} (hd : d.mem.wf) :
    (d.finish port sid seq st ph squashed fault).mem.wf := by
  unfold Dev.finish
  exact modRec_form hd

theorem reply_form {port peer sid seq op st ph : Nat} {trunc bg : Bool} {body : Bytes} {via : Option Via} (hd : d.mem.wf) :
    (d.reply port peer sid seq op st ph trunc bg body via).mem.wf := by
  unfold Dev.reply
  split
  · split
    · split
      · exact ncTx_form hd
      · exact signal_form (setRng_form (send_form (ncTx_form hd)))
    · split
      · exact send_form hd
      · exact signal_form (setRng_form (send_form (send_form hd)))
  · split
    · split
      · exact ncTx_form hd
      · exact signal_form (setRng_form (send_form (ncTx_form hd)))
    · split
      · exact send_form hd
      · exact signal_form (setRng_form (send_form (send_form hd)))

theorem finishReply_form {port sid seq : Nat} {r : Res} (hd : d.mem.wf) : (d.finishReply port sid seq r).mem.wf := by
  unfold Dev.finishReply
  split
  · exact hd
  · next rec _ =>
    extract_lets d₁ d₂
    have h₂ : d₂.mem.wf := ite_form (modRec_form hd) (modRec_form hd)
    clear_value d₁ d₂
    split
    · exact h₂
    · exact reply_form h₂

theorem closeSession_form {port reason : Nat} (hd : d.mem.wf) : (d.closeSession port reason).mem.wf := by
  unfold Dev.closeSession
  split
  · exact hd
  · exact raise_form (each_form hd (fun _ _ => modRec_form))

theorem handshake_form {port peer sid op st : Nat} {body : Bytes} {via : Option Via} (hd : d.mem.wf) :
    (d.handshake port peer sid op st body via).mem.wf := by
  unfold Dev.handshake
  exact reply_form (when_form hd (fun _ => sesCount_form))

theorem helloOp_form {port peer role : Nat} {hostNonce : Bytes} {via : Option Via} (hd : d.mem.wf) :
    (helloOp port peer role hostNonce via d).mem.wf := by
  unfold helloOp
  split
  · exact hd
  · split
    · dsimp only
      split
      · exact handshake_form (sesCount_form hd)
      · exact handshake_form (sesCount_form hd)
    · dsimp only
      split
      · exact handshake_form (sesCount_form hd)
      · split
        · exact handshake_form (sesCount_form hd)
        · exact handshake_form (modPrt_form (freshBytes_form (fresh_form (sesCount_form hd))))

theorem authFail_form {port peer sid : Nat} {via : Option Via} (hd : d.mem.wf) : (authFail port peer sid via d).mem.wf := by
  unfold authFail
  exact raise_form (handshake_form (audit_form (modPrt_form hd)))

theorem authOp_form {port peer session : Nat} {hostMac : Bytes} {via : Option Via} (hd : d.mem.wf) :
    (authOp port peer session hostMac via d).mem.wf := by
  unfold authOp
  have hcount := sesCount_form (port := port) (k := 0) (n := 1) hd
  refine ite_form hd (ite_form (sesCount_form hcount) ?_)
  dsimp only
  split
  · refine ite_form (handshake_form hcount) (ite_form (authFail_form hcount) (handshake_form (when_form ?_ fun _ hd' => hd')))
    exact closeSession_form hcount
  · exact handshake_form hcount

theorem sessionTimeoutOp_form {port : Nat} (hd : d.mem.wf) : (sessionTimeoutOp port d).mem.wf := by
  unfold sessionTimeoutOp
  exact closeSession_form hd

theorem sessionAliveOp_form {port : Nat} (hd : d.mem.wf) : (sessionAliveOp port d).mem.wf := by
  unfold sessionAliveOp
  exact raise_form hd

theorem badPacketOp_form {port : Nat} (hd : d.mem.wf) : (badPacketOp port d).mem.wf := by
  unfold badPacketOp
  exact sesCount_form (sesCount_form hd)

theorem attemptLapseOp_form {port : Nat} (hd : d.mem.wf) : (attemptLapseOp port d).mem.wf := by
  unfold attemptLapseOp
  exact modPrt_form hd

theorem lockoutEndOp_form {port : Nat} (hd : d.mem.wf) : (lockoutEndOp port d).mem.wf := by
  unfold lockoutEndOp
  exact modPrt_form hd

theorem tick_form (hd : d.mem.wf) : d.tick.mem.wf := by
  unfold Dev.tick
  exact hd

theorem tsoSchedule_form {n : Nat} (hd : d.mem.wf) : (d.tsoSchedule n).mem.wf := by
  unfold Dev.tsoSchedule
  exact hd

theorem tsoEdgeOp_form {n : Nat} (hd : d.mem.wf) : (tsoEdgeOp n d).mem.wf := by
  unfold tsoEdgeOp
  split
  · exact tsoSchedule_form (send_form hd)
  · exact tsoSchedule_form hd

theorem tsoPulseEndOp_form {n : Nat} (hd : d.mem.wf) : (tsoPulseEndOp n d).mem.wf := by
  unfold tsoPulseEndOp
  split
  · exact send_form hd
  · exact hd

theorem tsoWritten_form {n : Nat} (hd : d.mem.wf) : (tsoWritten n d).mem.wf := by
  unfold tsoWritten
  dsimp only
  split
  · exact tsoPulseEndOp_form (tsoSchedule_form hd)
  · exact tsoSchedule_form hd

theorem stepClock_form {size : Int} {auto : Bool} (hd : d.mem.wf) : (d.stepClock size auto).mem.wf := by
  unfold Dev.stepClock
  refine raise_form (audit_form (each_form ?_ (fun _ _ => tsoSchedule_form)))
  exact hd

theorem timeStepOp_form {c : Ctx} {mode : Nat} {delta : Int} (hd : d.mem.wf) : (timeStepOp c mode delta d).2.mem.wf := by
  unfold timeStepOp
  refine checked_form hd (fun _ hd' => ?_)
  split
  · exact stepClock_form hd'
  · exact hd'

theorem servo_form {offset : Int} (hd : d.mem.wf) : (d.servo offset).mem.wf := by
  unfold Dev.servo
  exact hd

theorem enterHoldover_form (hd : d.mem.wf) : d.enterHoldover.mem.wf := by
  unfold Dev.enterHoldover
  exact raise_form hd

theorem enterLocked_form (hd : d.mem.wf) : d.enterLocked.mem.wf := by
  unfold Dev.enterLocked
  exact raise_form hd

theorem stepNeeded_form {beyond : Bool} (hd : d.mem.wf) : (d.stepNeeded beyond).mem.wf := by
  unfold Dev.stepNeeded
  split
  · split
    · exact hd
    · exact raise_form hd
  · exact hd

theorem exchangeState_form {offset : Int} (hd : d.mem.wf) : (d.exchangeState offset).mem.wf := by
  unfold Dev.exchangeState
  dsimp only
  split
  · exact ite_form hd (ite_form hd (stepClock_form hd))
  · exact ite_form hd (ite_form (ite_form hd (enterLocked_form hd)) hd)
  · exact ite_form hd (ite_form hd (ite_form hd hd))
  · exact hd
  · exact ite_form hd hd

theorem ptpOp_form {m : PtpMsg} (hd : d.mem.wf) : (ptpOp m d).mem.wf := by
  unfold ptpOp
  split
  · split
    · exact hd
    · refine exchangeState_form (servo_form ?_)
      split
      · exact hd
      · exact stepNeeded_form hd
  · exact hd
  · split
    · exact hd
    · split
      · exact hd
      · exact when_form hd (fun _ => raise_form)
  · exact hd

theorem announceTimeoutOp_form (hd : d.mem.wf) : (announceTimeoutOp d).mem.wf := by
  unfold announceTimeoutOp
  split
  · exact enterHoldover_form hd
  · exact enterHoldover_form hd
  · exact enterHoldover_form hd
  · exact hd
  · exact hd

theorem ptpRestart_form (hd : d.mem.wf) : (ptpRestart d).mem.wf := by
  unfold ptpRestart
  split
  · exact hd
  · exact enterHoldover_form hd
  · exact hd
  · exact hd
  · exact hd

theorem ptpSyncOp_form {port : Nat} (hd : d.mem.wf) : (ptpSyncOp port d).mem.wf := by
  unfold ptpSyncOp
  refine when_form hd (fun _ hd' => ?_)
  split
  · exact ethTx_form hd'
  · exact send_form hd'

theorem trustExpireOp_form (hd : d.mem.wf) : (trustExpireOp d).mem.wf := by
  unfold trustExpireOp
  split
  · exact hd
  · exact hd

theorem setTsi_form {n : Nat} {x : TsiSt} (hd : d.mem.wf) : (d.setTsi n x).mem.wf := by
  unfold Dev.setTsi
  exact hd

theorem tsiEdgeOp_form {n : Nat} {rise : Bool} (hd : d.mem.wf) : (tsiEdgeOp n rise d).mem.wf := by
  unfold tsiEdgeOp
  split
  · dsimp only
    split
    · exact hd
    · split
      · exact count_form hd
      · split
        · exact when_form (setTsi_form hd) (fun _ => raise_form)
        · exact when_form (setTsi_form hd) (fun _ => raise_form)
  · dsimp only
    split
    · exact hd
    · split
      · exact count_form hd
      · split
        · exact when_form (setTsi_form hd) (fun _ => raise_form)
        · exact when_form (setTsi_form hd) (fun _ => raise_form)

theorem tsiPop_form {n : Nat} (hd : d.mem.wf) : (d.tsiPop n).mem.wf := by
  unfold Dev.tsiPop
  exact setTsi_form hd

theorem tsiWritten_form {c : Ctx} {n old : Nat} (hd : d.mem.wf) : (tsiWritten c n old d).mem.wf := by
  unfold tsiWritten
  split
  · exact setTsi_form hd
  · exact hd

end Sys2Proof.Goals
end

section
/-!
PROOF. Memory keeps its form: sources, packets of media and ingest.
-/
namespace Sys2Proof.Goals

open Sys2Proof Sys2Proof.Machine

variable {d : Dev}

theorem srcEvent_form {n code : Nat} {data : Bytes} {on : Bool} {gen : Option Nat} (hd : d.mem.wf) : (d.srcEvent n code data on gen).mem.wf := by
  unfold Dev.srcEvent
  exact raise_form hd

theorem srcCount_form {n k : Nat} {by_ : Nat} (hd : d.mem.wf) : (d.srcCount n k by_).mem.wf := by
  unfold Dev.srcCount
  exact count2_form hd

theorem decCount_form {n k : Nat} {by_ : Nat} (hd : d.mem.wf) : (d.decCount n k by_).mem.wf := by
  unfold Dev.decCount
  exact count2_form hd

theorem formatEvent_form {n : Nat} {on : Bool} (hd : d.mem.wf) : (d.formatEvent n on).mem.wf := by
  unfold Dev.formatEvent
  exact srcEvent_form hd

theorem resumedEvent_form {n : Nat} (hd : d.mem.wf) : (d.resumedEvent n).mem.wf := by
  unfold Dev.resumedEvent
  exact srcEvent_form hd

theorem enterLost_form {n : Nat} (hd : d.mem.wf) : (d.enterLost n).mem.wf := by
  unfold Dev.enterLost
  dsimp only
  split
  · exact srcEvent_form (when_form (modSrc_form hd) (fun _ => formatEvent_form))
  · exact srcEvent_form (when_form (modSrc_form hd) (fun _ => formatEvent_form))
  · exact hd
  · exact hd
  · exact hd

theorem enterFormat_form {n : Nat} {oor : Bool} {f : Option Format} (hd : d.mem.wf) : (d.enterFormat n oor f).mem.wf := by
  unfold Dev.enterFormat
  exact when_form (when_form (modSrc_form hd) (fun _ => resumedEvent_form)) (fun _ => formatEvent_form)

theorem outOfRange_form {n : Nat} (hd : d.mem.wf) : (d.outOfRange n).mem.wf := by
  unfold Dev.outOfRange
  split
  · exact modSrc_form hd
  · split
    · exact hd
    · exact enterFormat_form hd

theorem formatOf_form {n : Nat} {f : Format} (hd : d.mem.wf) : (d.formatOf n f).2.mem.wf := by
  unfold Dev.formatOf
  dsimp only
  split
  · exact hd
  · exact modSrc_form hd
  · split
    · exact modSrc_form hd
    · exact modSrc_form (enterFormat_form (modSrc_form hd))
  · split
    · exact resumedEvent_form (modSrc_form hd)
    · exact modSrc_form (enterFormat_form (modSrc_form hd))
  · split
    · exact formatEvent_form (modSrc_form hd)
    · exact modSrc_form hd

theorem accepted_form {n : Nat} {ing : Ns} (hd : d.mem.wf) : (d.accepted n ing).2.mem.wf := by
  unfold Dev.accepted
  exact srcCount_form (modSrc_form hd)

theorem hpdPulse_form {m : Nat} (hd : d.mem.wf) : (d.hpdPulse m).mem.wf := by
  unfold Dev.hpdPulse
  split
  · exact hd
  · exact send_form (modSrc_form hd)

theorem hpdPulseEndOp_form {m : Nat} (hd : d.mem.wf) : (hpdPulseEndOp m d).mem.wf := by
  unfold hpdPulseEndOp
  split
  · exact hd
  · split
    · exact send_form (modSrc_form hd)
    · exact hd

theorem membership_form {port group : Nat} (hd : d.mem.wf) : (d.membership port group).mem.wf := by
  unfold Dev.membership
  dsimp only
  split
  · exact groupTx_form (setEth_form hd)
  · split
    · exact groupTx_form (setEth_form hd)
    · split
      · exact groupTx_form (setEth_form hd)
      · exact hd

theorem igmpRepeatOp_form {port group : Nat} (hd : d.mem.wf) : (igmpRepeatOp port group d).mem.wf := by
  unfold igmpRepeatOp
  dsimp only
  split
  · exact groupTx_form (setEth_form hd)
  · exact hd

theorem igmpQueryOp_form {port group : Nat} (hd : d.mem.wf) : (igmpQueryOp port group d).mem.wf := by
  unfold igmpQueryOp
  exact each_form hd (fun _ _ => groupTx_form)

theorem poolTake_form {owner obj bytes : Nat} {e : Dev} (he : d.poolTake owner obj bytes = some e) (hd : d.mem.wf) : e.mem.wf := by
  unfold Dev.poolTake at he
  dsimp only at he
  split at he
  · rw [← Option.some.inj he]
    exact modTen_form hd
  · cases he

theorem poolFree_form {owner obj : Nat} (hd : d.mem.wf) : (d.poolFree owner obj).mem.wf := by
  unfold Dev.poolFree
  exact modTen_form hd

theorem overcommit_form (hd : d.mem.wf) : d.overcommit.mem.wf := by
  unfold Dev.overcommit
  refine each_form hd (fun _ _ hd' => ?_)
  dsimp only
  split
  · exact hd'
  · exact raise_form (modEng_form hd')

theorem place_form {n cause : Nat} (hd : d.mem.wf) : (d.place n cause).mem.wf := by
  unfold Dev.place
  refine overcommit_form ?_
  split
  · split
    · exact modDec_form hd
    · exact srcEvent_form (decCount_form (modDec_form hd))
  · exact modDec_form hd

theorem placement_form {n : Nat} (hd : d.mem.wf) : (d.placement n).mem.wf := by
  unfold Dev.placement
  dsimp only
  split
  · exact place_form hd
  · split
    · exact place_form hd
    · split
      · exact place_form hd
      · split
        · split
          · exact modDec_form hd
          · exact place_form hd
        · split
          · exact place_form hd
          · exact hd

theorem reserveDpb_form {n : Nat} {s : Sps} (hd : d.mem.wf) : (d.reserveDpb n s).mem.wf := by
  unfold Dev.reserveDpb
  split
  · exact modDec_form (poolTake_form ‹_› hd)
  · exact srcEvent_form (modDec_form (poolFree_form hd))

theorem activate_form {n : Nat} {s : Sps} (hd : d.mem.wf) : (d.activate n s).mem.wf := by
  unfold Dev.activate
  refine placement_form ?_
  split
  · exact reserveDpb_form (modDec_form hd)
  · exact modDec_form hd

theorem queueAccept_form {n : Nat} {p : AccPic} (hd : d.mem.wf) : (d.queueAccept n p).mem.wf := by
  unfold Dev.queueAccept
  split
  · exact hd
  · dsimp only
    split
    · exact modDec_form hd
    · exact srcEvent_form (decCount_form (decCount_form (modDec_form hd)))

theorem modAcc_form {n seq : Nat} {f : AccPic → AccPic} (hd : d.mem.wf) : (d.modAcc n seq f).mem.wf := by
  unfold Dev.modAcc
  exact modDec_form hd

theorem resetDecode_form {n : Nat} (hd : d.mem.wf) : (d.resetDecode n).mem.wf := by
  unfold Dev.resetDecode
  exact overcommit_form hd

theorem clearSrcCounters_form {n : Nat} (hd : d.mem.wf) : (d.clearSrcCounters n).mem.wf := by
  unfold Dev.clearSrcCounters
  exact when_form (each_form (each_form hd (fun _ _ => put_form)) (fun _ _ => put_form)) (fun _ hd' => each_form hd' (fun _ _ => put_form))

theorem reassign_form {n : Nat} (hd : d.mem.wf) : (d.reassign n).mem.wf := by
  unfold Dev.reassign
  exact when_form (setSrc_form (clearSrcCounters_form (resetDecode_form (put_form hd)))) (fun _ => hpdPulse_form)

theorem disableSrc_form {n : Nat} (hd : d.mem.wf) : (d.disableSrc n).mem.wf := by
  unfold Dev.disableSrc
  exact setSrc_form (modDec_form (resetDecode_form (put_form hd)))

theorem taintReset_form {n : Nat} (hd : d.mem.wf) : (d.taintReset n).mem.wf := by
  unfold Dev.taintReset
  split
  · exact modDec_form hd
  · exact hd

theorem freezeRun_form {n check : Nat} {cap : Ns} (hd : d.mem.wf) : (d.freezeRun n check cap).mem.wf := by
  unfold Dev.freezeRun
  exact modSrc_form hd

theorem frozenOp_form {n : Nat} (hd : d.mem.wf) : (frozenOp n d).mem.wf := by
  unfold frozenOp
  dsimp only
  split
  · exact hd
  · split
    · exact hd
    · exact srcEvent_form (modSrc_form hd)

theorem lastStamp_form {n : Nat} {st : Stamp} (hd : d.mem.wf) : (d.lastStamp n st).mem.wf := by
  unfold Dev.lastStamp
  exact modSrc_form hd

theorem lossTimeoutOp_form {n : Nat} (hd : d.mem.wf) : (lossTimeoutOp n d).mem.wf := by
  unfold lossTimeoutOp
  exact enterLost_form hd

theorem publish_form {n : Nat} {p : Pic} (hd : d.mem.wf) : (d.publish n p).mem.wf := by
  unfold Dev.publish
  exact lastStamp_form (modDec_form hd)

theorem finishUncompressed_form {n : Nat} {st : Stamp} {transport check : Nat} {sentinels : List (Option Nat)} {grid : List Nat} {fmt : Format}
    {mark : Bool} (hd : d.mem.wf) : (d.finishUncompressed n st transport check sentinels grid fmt mark).mem.wf := by
  unfold Dev.finishUncompressed
  exact publish_form (decCount_form (freezeRun_form (when_form (modSrc_form hd) (fun _ => srcEvent_form))))

theorem heartbeat_form {n : Nat} {ing : Ns} {pay : Bytes} (hd : d.mem.wf) : (d.heartbeat n ing pay).2.mem.wf := by
  unfold Dev.heartbeat
  split
  · exact hd
  · split
    · exact decCount_form hd
    · exact when_form (setSrc_form hd) (fun _ => srcEvent_form)

theorem modHead_form {n : Nat} {f : PicBuf → PicBuf} (hd : d.mem.wf) : (d.modHead n f).mem.wf := by
  unfold Dev.modHead
  exact modSrc_form hd

theorem acceptRtp_form {n : Nat} {p : PicBuf} (hd : d.mem.wf) : (d.acceptRtp n p).mem.wf := by
  unfold Dev.acceptRtp
  dsimp only
  split
  · exact modHead_form (outOfRange_form (modSrc_form hd))
  · split
    · refine queueAccept_form (modHead_form (accepted_form ?_))
      split
      · exact modSrc_form (modSrc_form hd)
      · exact formatOf_form (modSrc_form hd)
    · exact placement_form (queueAccept_form (modHead_form (accepted_form (when_form (when_form (modSrc_form (modSrc_form hd))
        (fun _ => resumedEvent_form)) (fun _ => formatEvent_form)))))

theorem releaseSlice_form {n i : Nat} (hd : d.mem.wf) : (d.releaseSlice n i).mem.wf := by
  unfold Dev.releaseSlice
  split
  · exact hd
  · split
    · dsimp only
      split
      · exact acceptRtp_form hd
      · split
        · exact acceptRtp_form hd
        · exact modAcc_form (modHead_form (when_form (acceptRtp_form hd) (fun _ => srcCount_form)))
    · dsimp only
      split
      · exact hd
      · split
        · exact hd
        · exact modAcc_form (modHead_form (when_form hd (fun _ => srcCount_form)))

theorem leaveHead_form {n : Nat} (hd : d.mem.wf) : (d.leaveHead n).mem.wf := by
  unfold Dev.leaveHead
  split
  · exact hd
  · split
    · dsimp only
      split
      · exact hd
      · refine modSrc_form ?_
        split
        · exact modAcc_form (modDec_form (when_form (srcCount_form hd) (fun _ => srcCount_form)))
        · exact modDec_form (when_form (srcCount_form hd) (fun _ => srcCount_form))
    · dsimp only
      split
      · exact each_form hd (fun _ _ => releaseSlice_form)
      · refine modSrc_form ?_
        split
        · exact modAcc_form (modDec_form (when_form (srcCount_form (each_form hd (fun _ _ => releaseSlice_form))) (fun _ => srcCount_form)))
        · exact modDec_form (when_form (srcCount_form (each_form hd (fun _ _ => releaseSlice_form))) (fun _ => srcCount_form))

theorem drainRtp_form {fuel n : Nat} (hd : d.mem.wf) : (Dev.drainRtp fuel n d).mem.wf := by
  induction fuel generalizing d with
  | zero => exact hd
  | succ fuel ih =>
    rw [Dev.drainRtp]
    split
    · exact hd
    · dsimp only
      split
      · exact ih (leaveHead_form hd)
      · split
        · exact hd
        · exact each_form hd (fun _ _ => releaseSlice_form)

theorem drain_form {n : Nat} (hd : d.mem.wf) : (d.drain n).mem.wf := by
  unfold Dev.drain
  exact drainRtp_form hd

theorem jbExpireOp_form {n ts : Nat} (hd : d.mem.wf) : (jbExpireOp n ts d).mem.wf := by
  unfold jbExpireOp
  split
  · exact drain_form (modSrc_form hd)
  · exact hd

theorem filePkt_form {n e : Nat} {k : RtpPkt} {ing : Ns} (hd : d.mem.wf) : (d.filePkt n e k ing).mem.wf := by
  unfold Dev.filePkt
  extract_lets d₁ d₂ d₃
  have h₁ : d₁.mem.wf := modSrc_form hd
  have h₂ : d₂.mem.wf := by
    unfold d₂
    split
    · exact h₁
    · refine ite_form h₁ ?_
      split
      next acc e he =>
      have hbeat : e.mem.wf := snd_form he (heartbeat_form h₁)
      split
      · exact hbeat
      · exact modSrc_form hbeat
  have h₃ : d₃.mem.wf := modSrc_form h₂
  clear_value d₁ d₂ d₃
  exact ite_form (ite_form h₃ (enterFormat_form h₃)) h₂

theorem makeRoom_form {n : Nat} {k : RtpPkt} (hd : d.mem.wf) : (d.makeRoom n k).1.mem.wf := by
  unfold Dev.makeRoom
  split
  · exact hd
  · split
    · exact srcCount_form hd
    · split
      · split
        · exact srcCount_form (leaveHead_form hd)
        · exact srcCount_form (modSrc_form hd)
      · exact srcCount_form (leaveHead_form hd)

theorem numbered_form {n e : Nat} {delta : Int} {k : RtpPkt} {ing : Ns} (hd : d.mem.wf) : (d.numbered n e delta k ing).mem.wf := by
  have hroom := makeRoom_form (n := n) (k := k) hd
  have hhigh : (if 0 < delta then (d.makeRoom n k).1.modSrc n fun s => { s with highest := some e, rawHigh := k.seq, ssrc := some k.ssrc }
      else (d.makeRoom n k).1).mem.wf := ite_form (modSrc_form hroom) hroom
  exact ite_form (srcCount_form hd) (ite_form (srcCount_form hd)
    (ite_form (drain_form (filePkt_form (when_form hhigh (fun _ => srcCount_form)))) hhigh))

theorem restart_form {n : Nat} {held : List (RtpPkt × Ns)} (hd : d.mem.wf) : (d.restart n held).mem.wf := by
  unfold Dev.restart
  refine each_form (srcEvent_form (modSrc_form (srcCount_form (each_form hd (fun _ _ hd' => ?_))))) (fun _ _ => numbered_form)
  split
  · split
    · exact leaveHead_form hd'
    · exact modSrc_form hd'
  · exact hd'

theorem dropStray_form {n : Nat} (hd : d.mem.wf) : (d.dropStray n).mem.wf := by
  unfold Dev.dropStray
  exact modSrc_form (srcCount_form hd)

theorem rtpPacket_form {n : Nat} {k : RtpPkt} {ing : Ns} (hd : d.mem.wf) : (d.rtpPacket n k ing).mem.wf := by
  unfold Dev.rtpPacket
  extract_lets e d₁ delta cand follows
  have he : e.mem.wf := srcCount_form hd
  have h₁ : d₁.mem.wf := dropStray_form he
  clear_value e d₁ delta cand follows
  refine ite_form (srcCount_form he) ?_
  split
  · exact numbered_form he
  · exact ite_form (restart_form h₁) (ite_form (numbered_form h₁) (ite_form (ite_form (restart_form he) (modSrc_form he)) (modSrc_form
      (dropStray_form he))))

theorem rtpFrame_form {port : Nat} {vlan : Option Nat} {ipv6 fragment : Bool} {dst sender udp : Nat} {k : RtpPkt} (hd : d.mem.wf) :
    (d.rtpFrame port vlan ipv6 fragment dst sender udp k).mem.wf := by
  unfold Dev.rtpFrame
  split
  · split
    · exact srcCount_form hd
    · exact hd
  · dsimp only
    split
    · exact rtpPacket_form hd
    · exact hd

theorem dpiFrameOp_form {m : Nat} {f : DpiFrame} (hd : d.mem.wf) : (dpiFrameOp m f d).mem.wf := by
  unfold dpiFrameOp
  split
  · exact hd
  · split
    · exact hd
    · split
      · exact outOfRange_form (modSrc_form (srcCount_form hd))
      · dsimp only
        split
        · exact placement_form (accepted_form (formatOf_form (modSrc_form (srcCount_form hd))))
        · exact finishUncompressed_form (placement_form (accepted_form (formatOf_form (modSrc_form (srcCount_form hd)))))

end Sys2Proof.Goals
end

section
/-!
PROOF. Memory keeps its form: decode, the plates and composition.
-/
namespace Sys2Proof.Goals

open Sys2Proof Sys2Proof.Machine

variable {d : Dev}

theorem tainted_form {n gen seq cause : Nat} (hd : d.mem.wf) : (d.tainted n gen seq cause).mem.wf := by
  unfold Dev.tainted
  exact srcEvent_form hd

theorem taintUpdate_form {n gen seq : Nat} {h : PicHead} {concealed : Bool} {cause : Nat} (hd : d.mem.wf) :
    (d.taintUpdate n gen seq h concealed cause).2.mem.wf := by
  unfold Dev.taintUpdate
  split
  · split
    · exact when_form (modDec_form hd) (fun _ => tainted_form)
    · exact modDec_form hd
  · split
    · dsimp only
      split
      · exact hd
      · exact srcEvent_form (decCount_form (modDec_form hd))
    · dsimp only
      split
      · exact hd
      · split
        · split
          · exact srcEvent_form (decCount_form (modDec_form hd))
          · exact modDec_form hd
        · split
          · exact srcEvent_form (decCount_form (modDec_form hd))
          · exact modDec_form hd

theorem outputProcess_form {fuel depth n : Nat} (hd : d.mem.wf) : (Dev.outputProcess fuel depth n d).mem.wf := by
  induction fuel generalizing d with
  | zero => exact hd
  | succ fuel ih =>
    rw [Dev.outputProcess]
    dsimp only
    split
    · exact hd
    · split
      · exact hd
      · refine ih ?_
        split
        · exact publish_form (modDec_form hd)
        · exact lastStamp_form (modDec_form (modDec_form hd))

theorem emit_form {n : Nat} {p : Pic} {flush : Bool} (hd : d.mem.wf) : (d.emit n p flush).mem.wf := by
  unfold Dev.emit
  refine outputProcess_form (modDec_form ?_)
  split
  · exact outputProcess_form hd
  · exact hd

theorem leaveUndecoded_form {n : Nat} {p : AccPic} {h : PicHead} {k : Start} (hd : d.mem.wf) : (d.leaveUndecoded n p h k).mem.wf := by
  unfold Dev.leaveUndecoded
  split
  · split
    · exact decCount_form hd
    · exact emit_form (when_form (modSrc_form (decCount_form hd)) (fun _ => srcEvent_form))
  · exact decCount_form (when_form (modSrc_form hd) (fun _ => srcEvent_form))
  · exact decCount_form (when_form (modSrc_form hd) (fun _ => srcEvent_form))
  · exact decCount_form (when_form (modSrc_form hd) (fun _ => srcEvent_form))

theorem startPicture_form {n : Nat} {h : PicHead} (hd : d.mem.wf) : (d.startPicture n h).mem.wf := by
  unfold Dev.startPicture
  split
  · exact hd
  · next p rest _ =>
    have hp : (match p.sps with | some s => d.activate n s | none => d.placement n).mem.wf := by
      split
      · exact activate_form hd
      · exact placement_form hd
    exact ite_form (modDec_form hp) (ite_form (modDec_form hp) (leaveUndecoded_form (modDec_form hp)))

theorem oneSlice_form {n : Nat} {p : AccPic} {r : SliceDec} (hd : d.mem.wf) : (d.oneSlice n p r).mem.wf := by
  unfold Dev.oneSlice
  split
  · exact hd
  · refine modDec_form (decCount_form ?_)
    split
    · exact decCount_form hd
    · exact decCount_form hd
    · exact hd
    · exact hd

theorem finishPicture_form {n : Nat} {check : Nat} {sentinels : List (Option Nat)} {grid : List Nat} (hd : d.mem.wf) :
    (d.finishPicture n check sentinels grid).mem.wf := by
  unfold Dev.finishPicture
  dsimp only
  split
  · refine emit_form ?_
    split
    · refine decCount_form (decCount_form (decCount_form (freezeRun_form (when_form (modSrc_form (modDec_form ?_)) (fun _ => srcEvent_form)))))
      split
      · exact taintUpdate_form (modDec_form hd)
      · exact modDec_form hd
    · refine modDec_form ?_
      split
      · exact taintUpdate_form (modDec_form hd)
      · exact modDec_form hd
  · exact modDec_form hd

theorem busy_form {e ns : Nat} (hd : d.mem.wf) : (d.busy e ns).mem.wf := by
  unfold Dev.busy
  exact modEng_form hd

theorem sliceDecodedOp_form {r : SliceDec} (hd : d.mem.wf) : (sliceDecodedOp r d).mem.wf := by
  unfold sliceDecodedOp
  extract_lets n d₁ d₂
  have h₁ : d₁.mem.wf := by
    unfold d₁
    split
    · exact hd
    · exact ite_form (startPicture_form hd) hd
  have h₂ : d₂.mem.wf := by
    unfold d₂
    split
    · exact busy_form h₁
    · exact h₁
  clear_value d₁ d₂
  refine ite_form (decCount_form hd) ?_
  split
  · exact h₁
  · next p _ =>
    extract_lets d₃
    have h₃ : d₃.mem.wf := oneSlice_form h₂
    clear_value d₃
    exact ite_form h₁ (ite_form (finishPicture_form h₃) h₃)

theorem concealRest_form {n : Nat} (hd : d.mem.wf) : (d.concealRest n).mem.wf := by
  unfold Dev.concealRest
  split
  · exact hd
  · exact finishPicture_form (modDec_form (decCount_form hd))

theorem engineOut_form {e : Nat} (hd : d.mem.wf) : (d.engineOut e).mem.wf := by
  unfold Dev.engineOut
  exact each_form hd (fun _ _ hd' => place_form (concealRest_form hd'))

theorem engineBack_form {e : Nat} (hd : d.mem.wf) : (d.engineBack e).mem.wf := by
  unfold Dev.engineBack
  exact each_form hd (fun _ _ => modDec_form)

theorem retag_form {first last tag : Nat} (hd : d.mem.wf) : (d.retag first last tag).mem.wf := by
  unfold Dev.retag
  exact hd

theorem outCount_form {o k : Nat} {by_ : Nat} (hd : d.mem.wf) : (d.outCount o k by_).mem.wf := by
  unfold Dev.outCount
  exact count2_form hd

theorem putList_form {p : Par} {lo n : Nat} {l : List (Nat × Nat)} (hd : d.mem.wf) : (d.putList p lo n l).mem.wf := by
  unfold Dev.putList
  exact each_form hd (fun _ _ => putF_form)

theorem putLayer_form {n : Nat} {v : LayerVals} (hd : d.mem.wf) : (d.putLayer n v).mem.wf := by
  unfold Dev.putLayer
  exact putList_form (putF_form (putF_form (putF_form (putF_form (putF_form (putF_form hd))))))

theorem layerEvent_form {o n code : Nat} {data : Bytes} {on : Bool} (hd : d.mem.wf) : (d.layerEvent o n code data on).mem.wf := by
  unfold Dev.layerEvent
  exact raise_form hd

theorem shedAhead_form {n seq : Nat} (hd : d.mem.wf) : (d.shedAhead n seq).mem.wf := by
  unfold Dev.shedAhead
  dsimp only
  split
  · exact count_form (modDec_form hd)
  · exact hd

theorem hideSources_form (hd : d.mem.wf) : d.hideSources.mem.wf := by
  unfold Dev.hideSources
  refine each_form hd (fun _ _ hd' => ?_)
  dsimp only
  split
  · exact hd'
  · exact modDec_form hd'

theorem standIn_form {p : Nat} (hd : d.mem.wf) : (d.standIn p).mem.wf := by
  unfold Dev.standIn
  exact hd

theorem spareFree_form (hd : d.mem.wf) : d.spareFree.mem.wf := by
  unfold Dev.spareFree
  split
  · split
    · exact standIn_form hd
    · exact hd
  · exact hd

theorem failover_form {p cause : Nat} (hd : d.mem.wf) : (d.failover p cause).mem.wf := by
  unfold Dev.failover
  refine ite_form hd (raise_form (spareFree_form ?_))
  exact hd

theorem spareLost_form (hd : d.mem.wf) : d.spareLost.mem.wf := by
  unfold Dev.spareLost
  refine raise_form ?_
  dsimp only
  split
  · exact hd
  · exact hd

theorem failback_form {p : Nat} (hd : d.mem.wf) : (d.failback p).mem.wf := by
  unfold Dev.failback
  refine spareFree_form (raise_form (when_form ?_ (fun _ => raise_form)))
  exact hd

theorem failbackDue_form {p : Nat} (hd : d.mem.wf) : (d.failbackDue p).mem.wf := by
  unfold Dev.failbackDue
  dsimp only
  split
  · exact modPlate_form hd
  · exact hd

theorem failbackRunOp_form {p : Nat} (hd : d.mem.wf) : (failbackRunOp p d).mem.wf := by
  unfold failbackRunOp
  exact failbackDue_form hd

theorem sliceShown_form {src slice seq : Nat} (hd : d.mem.wf) : (d.sliceShown src slice seq).2.mem.wf := by
  unfold Dev.sliceShown
  split
  · dsimp only
    split
    · exact hd
    · split
      · split
        · exact snd_form ‹_› (fresh_form hd)
        · exact hd
      · exact hd

theorem stampFor_form {n : Nat} {v : LayerVals} {t : TileIn} (hd : d.mem.wf) : (d.stampFor n v t).2.mem.wf := by
  unfold Dev.stampFor
  split
  · refine foldlSnd_form hd (fun _ _ hd' => ?_)
    split
    · split
      · exact snd_form ‹_› (sliceShown_form hd')
  · exact hd

theorem verdict_form {o : Nat} {tRef : Ns} {t : TileIn} {n : Nat} (hd : d.mem.wf) : (d.verdict o tRef t n).2.mem.wf := by
  unfold Dev.verdict
  dsimp only
  split
  · exact stampFor_form hd
  · exact hd

theorem becomeStale_form {o : Nat} {v : Verdict} {why : Why} (hd : d.mem.wf) : (d.becomeStale o v why).mem.wf := by
  unfold Dev.becomeStale
  split
  · exact hd
  · exact layerEvent_form (modLayer_form hd)

theorem becomeFresh_form {o n src : Nat} (hd : d.mem.wf) : (d.becomeFresh o n src).mem.wf := by
  unfold Dev.becomeFresh
  split
  · exact hd
  · exact layerEvent_form (modLayer_form hd)

theorem fetchRuns_form {o band : Nat} {t : TileIn} {n : Nat} (hd : d.mem.wf) : (d.fetchRuns o band t n).mem.wf := by
  unfold Dev.fetchRuns
  exact when_form (when_form (modLayer_form hd) (fun _ => layerEvent_form)) (fun _ => layerEvent_form)

theorem decideTile_form {o band : Nat} {tRef : Ns} {t : TileIn} (hd : d.mem.wf) : (d.decideTile o band tRef t).2.mem.wf :=
  foldlSnd_form hd (fun _ _ => verdict_form)

theorem composeBand_form {o band : Nat} {tRef : Ns} {tiles : List TileIn} {px : List BandPx} (hd : d.mem.wf) :
    (d.composeBand o band tRef tiles px).mem.wf := by
  unfold Dev.composeBand
  refine modOut_form (each_form (outCount_form (outCount_form (each_form (foldlSnd_form hd (fun _ _ => decideTile_form))
    (fun _ _ hd' => each_form hd' (fun _ _ => fetchRuns_form))))) (fun _ _ hd' => ?_))
  dsimp only
  split
  · split
    · exact becomeStale_form hd'
    · exact hd'
  · exact becomeFresh_form hd'

theorem bandComposeOp_form {o band : Nat} {tRef : Ns} {tiles : List TileIn} {px : List BandPx} (hd : d.mem.wf) :
    (bandComposeOp o band tRef tiles px d).mem.wf := by
  unfold bandComposeOp
  split
  · exact composeBand_form hd
  · exact hd

end Sys2Proof.Goals
end

section
/-!
PROOF. Memory keeps its form: encode, the recorder and commits.
-/
namespace Sys2Proof.Goals

open Sys2Proof Sys2Proof.Machine

variable {d : Dev}

theorem streamEvent_form {mon : Bool} {i code : Nat} {data : Bytes} (hd : d.mem.wf) : (d.streamEvent mon i code data).mem.wf := by
  unfold Dev.streamEvent
  split
  · exact raise_form hd
  · exact raise_form hd

theorem placeOne_form {mon : Bool} {i : Nat} {want : Bool} {e : Option Nat} (hd : d.mem.wf) : (d.placeOne mon i want e).mem.wf := by
  unfold Dev.placeOne
  extract_lets rc set d'
  have hset : ∀ f : RcSt → RcSt, (set d f).mem.wf := fun f => ite_form (modMon_form hd) (modWit_form hd)
  have hd' : d'.mem.wf := hset _
  clear_value rc set d'
  refine ite_form (ite_form (hset _) hd) ?_
  split
  · exact ite_form hd' (streamEvent_form hd')
  · exact ite_form (streamEvent_form hd') hd'
  · exact ite_form (streamEvent_form hd') hd'
  · exact hd'

theorem placeStreams_form (hd : d.mem.wf) : d.placeStreams.mem.wf := by
  unfold Dev.placeStreams
  exact foldlSnd_form (placeOne_form (placeOne_form (placeOne_form (placeOne_form (placeOne_form (placeOne_form (placeOne_form
    (placeOne_form hd)))))))) (fun _ _ => placeOne_form)

theorem codeStream_form {mon : Bool} {i : Nat} {rows : List CodedRow} (hd : d.mem.wf) : (d.codeStream mon i rows).2.2.mem.wf := by
  unfold Dev.codeStream
  exact hd

theorem witTx_form {o : Nat} {video : Bool} {x : Out} (hd : d.mem.wf) : (d.witTx o video x).mem.wf := by
  unfold Dev.witTx
  exact when_form hd (fun _ => ipTx_form)

theorem monTx_form {m : Nat} {x : Out} (hd : d.mem.wf) : (d.monTx m x).mem.wf := by
  unfold Dev.monTx
  exact when_form hd (fun _ => ipTx_form)

theorem witCount_form {o k : Nat} {by_ : Nat} (hd : d.mem.wf) : (d.witCount o k by_).mem.wf := by
  unfold Dev.witCount
  exact count2_form hd

theorem putRecord_form {o type wlevel rseq frame : Nat} {ref : Ns} {flags epoch : Nat} {sections : List (Nat × Bytes)} {au : Bytes} {prev : Bytes}
    (hd : d.mem.wf) : (d.putRecord o type wlevel rseq frame ref flags epoch sections au prev).mem.wf := by
  unfold Dev.putRecord
  exact when_form (modWit_form hd) (fun _ => witTx_form)

theorem startSegment_form {o : Nat} (hd : d.mem.wf) : (d.startSegment o).mem.wf := by
  unfold Dev.startSegment
  exact putRecord_form (modWit_form hd)

theorem chainRecord_form {o type wlevel frame : Nat} {ref : Ns} {flags epoch : Nat} {sections : List (Nat × Bytes)} {au : Bytes} (hd : d.mem.wf) :
    (d.chainRecord o type wlevel frame ref flags epoch sections au).mem.wf := by
  unfold Dev.chainRecord
  refine putRecord_form ?_
  split
  · exact hd
  · exact startSegment_form hd

theorem eventRecord_form {o code : Nat} (hd : d.mem.wf) : (d.eventRecord o code).mem.wf := by
  unfold Dev.eventRecord
  exact chainRecord_form hd

theorem recorderLost_form {o : Nat} (hd : d.mem.wf) : (d.recorderLost o).mem.wf := by
  unfold Dev.recorderLost
  split
  · exact hd
  · exact raise_form (eventRecord_form (modWit_form hd))

theorem recorderOn_form {o : Nat} (hd : d.mem.wf) : (d.recorderOn o).mem.wf := by
  unfold Dev.recorderOn
  split
  · exact hd
  · refine when_form (eventRecord_form (modWit_form ?_)) (fun _ => recorderLost_form)
    split
    · exact hd
    · exact startSegment_form hd

theorem recorderOff_form {o : Nat} (hd : d.mem.wf) : (d.recorderOff o).mem.wf := by
  unfold Dev.recorderOff
  split
  · exact eventRecord_form (modWit_form hd)
  · exact hd

theorem chainPend_form {o : Nat} {p : WPend} {coded : Option (Bytes × Bool)} (hd : d.mem.wf) : (d.chainPend o p coded).mem.wf := by
  unfold Dev.chainPend
  dsimp only
  generalize he : (d.chainRecord o 1 p.wlevel p.frame p.ref _ p.epoch p.sections _).witCount o 0 = e
  have hchained : e.mem.wf := by
    rw [← he]
    exact witCount_form (chainRecord_form hd)
  exact ite_form (ite_form (modWit_form hchained) hchained) (when_form (modWit_form (witCount_form hchained)) (fun _ => raise_form))

theorem flushPend_form {fuel o : Nat} (hd : d.mem.wf) : (Dev.flushPend fuel o d).mem.wf := by
  induction fuel generalizing d with
  | zero => exact hd
  | succ fuel ih =>
    rw [Dev.flushPend]
    split
    · exact hd
    · split
      · exact hd
      · exact ih (chainPend_form (modWit_form hd))

theorem flush_form {o : Nat} (hd : d.mem.wf) : (d.flush o).mem.wf := by
  unfold Dev.flush
  exact flushPend_form hd

theorem frameRecord_form {o : Nat} {ref : Ns} (hd : d.mem.wf) : (d.frameRecord o ref).mem.wf := by
  unfold Dev.frameRecord
  split
  · exact hd
  · exact flush_form (modWit_form (modOut_form (recorderOn_form hd)))

theorem witPictureOp_form {o : Nat} {rows : List CodedRow} {au : Bytes} (hd : d.mem.wf) : (witPictureOp o rows au d).mem.wf := by
  unfold witPictureOp
  split
  · exact hd
  · split
    · exact hd
    · exact flush_form (witTx_form (chainPend_form (when_form (witCount_form (witCount_form (modWit_form hd))) (fun _ => streamEvent_form))))

theorem witNotCodedOp_form {o cause : Nat} (hd : d.mem.wf) : (witNotCodedOp o cause d).mem.wf := by
  unfold witNotCodedOp
  split
  · exact hd
  · split
    · exact hd
    · exact flush_form (modWit_form hd)

theorem monPictureOp_form {m : Nat} {rows : List CodedRow} (hd : d.mem.wf) : (monPictureOp m rows d).mem.wf :=
  have hcoded := codeStream_form (mon := true) (i := m) (rows := rows) hd
  ite_form hd (monTx_form (when_form (setMon_form hcoded) (fun _ => streamEvent_form)))

theorem monFrame_form {o : Nat} (hd : d.mem.wf) : (d.monFrame o).mem.wf := by
  unfold Dev.monFrame
  refine each_form hd (fun _ _ hd' => ?_)
  split
  · exact modMon_form hd'
  · exact hd'

theorem ckptWriteOp_form {o : Nat} (hd : d.mem.wf) : (ckptWriteOp o d).mem.wf := by
  unfold ckptWriteOp
  exact modWit_form hd

theorem recSignedOp_form {o rseq : Nat} (hd : d.mem.wf) : (recSignedOp o rseq d).mem.wf := by
  unfold recSignedOp
  split
  · exact hd
  · exact witTx_form (modWit_form hd)

theorem ackTimeoutOp_form {o : Nat} (hd : d.mem.wf) : (ackTimeoutOp o d).mem.wf := by
  unfold ackTimeoutOp
  split
  · exact recorderLost_form hd
  · exact hd

theorem resend_form {o rseq kind : Nat} (hd : d.mem.wf) : (d.resend o rseq kind).2.mem.wf := by
  unfold Dev.resend
  split
  · exact hd
  · split
    · split
      · dsimp only
        split
        · exact witTx_form (witCount_form (witTx_form (witCount_form hd)))
        · exact witTx_form (witCount_form hd)
      · exact witTx_form (witCount_form hd)
    · split
      · dsimp only
        split
        · exact witTx_form (witCount_form hd)
        · exact hd
      · exact hd

theorem gapRecord_form {o first last kind : Nat} (hd : d.mem.wf) : (d.gapRecord o first last kind).mem.wf := by
  unfold Dev.gapRecord
  exact raise_form (modWit_form (witCount_form (chainRecord_form hd)))

theorem witAckOp_form {port udp : Nat} {a : WitnessAck} (hd : d.mem.wf) : (witAckOp port udp a d).mem.wf := by
  unfold witAckOp
  dsimp only
  split
  · exact hd
  · split
    · exact witCount_form hd
    · split
      · exact witCount_form hd
      · refine each_form (foldlSnd_form (when_form (modWit_form hd) (fun _ hd' => raise_form (eventRecord_form hd'))) (fun _ _ hd' => ?_))
          (fun _ _ => gapRecord_form)
        split
        · exact resend_form hd'
        · exact resend_form hd'

theorem witnessQueryOp_form {c : Ctx} {o : Nat} (hd : d.mem.wf) : (witnessQueryOp c o d).2.mem.wf := by
  unfold witnessQueryOp
  exact checked_form hd (fun _ => id)

theorem linkEvent_form {link rate lanes : Nat} {on : Bool} (hd : d.mem.wf) : (d.linkEvent link rate lanes on).mem.wf := by
  unfold Dev.linkEvent
  exact raise_form hd

theorem dpDown_form {o : Nat} (hd : d.mem.wf) : (d.dpDown o).mem.wf := by
  unfold Dev.dpDown
  exact when_form (setDp_form hd) (fun _ => linkEvent_form)

theorem dpTrain_form {o : Nat} (hd : d.mem.wf) : (d.dpTrain o).mem.wf := by
  unfold Dev.dpTrain
  dsimp only
  split
  · exact modDp_form (dpDown_form hd)
  · exact dpDown_form hd

theorem putOut_form {o : Nat} {v : OutVals} (hd : d.mem.wf) : (d.putOut o v).mem.wf := by
  unfold Dev.putOut
  exact putList_form (putF_form (putF_form (putF_form hd)))

theorem computeExpected_form {o bank : Nat} {pending : Bool} (hd : d.mem.wf) : (d.computeExpected o bank pending).mem.wf := by
  unfold Dev.computeExpected
  exact poke_form hd

theorem enableOut_form {o : Nat} (hd : d.mem.wf) : (d.enableOut o).mem.wf := by
  unfold Dev.enableOut
  refine computeExpected_form ?_
  have hcounts := each_form (l := List.range 8) (f := fun d k => d.put .witStat (Par.witStat.info.elem o k) 0)
    (each_form (l := List.range 8) (f := fun d k => d.put .pltOutStat (Par.pltOutStat.info.elem o k) 0) hd (fun _ _ => put_form))
      (fun _ _ => put_form)
  generalize Dev.each (Dev.each d _ _) _ _ = e at hcounts ⊢
  split
  · exact modOut_form (put_form hcounts)
  · exact modOut_form (poke_form (filterCells_form (modOut_form (put_form hcounts))))

theorem applyOut_form {o : Nat} {v : OutVals} {mediator : Bool} (hd : d.mem.wf) : (d.applyOut o v mediator).mem.wf := by
  unfold Dev.applyOut
  exact when_form (when_form (when_form (when_form (when_form (modOut_form (when_form (putOut_form hd) (fun _ => enableOut_form)))
    (fun _ => audit_form)) (fun _ => audit_form)) (fun _ => dpTrain_form)) (fun _ => computeExpected_form)) (fun _ => placeStreams_form)

theorem applyLayer_form {o mask left n : Nat} {v : LayerVals} (hd : d.mem.wf) : (d.applyLayer o mask left n v).mem.wf := by
  unfold Dev.applyLayer
  dsimp only
  split
  · split
    · exact modLayer_form (putLayer_form (when_form (modOut_form hd) (fun _ => modOut_form)))
    · split
      · exact modOut_form (modOut_form hd)
      · exact modOut_form hd
  · split
    · exact modLayer_form (putLayer_form (when_form (modOut_form hd) (fun _ => modOut_form)))
    · split
      · exact modOut_form (modOut_form hd)
      · exact modOut_form hd

theorem applyCommit_form {o : Nat} {a : ArmedCommit} (hd : d.mem.wf) : (d.applyCommit o a).mem.wf := by
  unfold Dev.applyCommit
  refine modOut_form (outCount_form (each_form ?_ (fun _ _ => applyLayer_form)))
  split
  · exact applyOut_form hd
  · exact hd

theorem applyCommits_form {o : Nat} (hd : d.mem.wf) : (d.applyCommits o).mem.wf := by
  unfold Dev.applyCommits
  exact each_form hd (fun _ _ => applyCommit_form)

theorem commitsDone_form (hd : d.mem.wf) : d.commitsDone.mem.wf := by
  unfold Dev.commitsDone
  refine each_form hd (fun _ _ hd' => ?_)
  split
  · exact hd'
  · exact finish_form (raise_form hd')

theorem applyCarts_form {o : Nat} (hd : d.mem.wf) : (d.applyCarts o).mem.wf := by
  unfold Dev.applyCarts
  dsimp only
  split
  · exact hd
  · generalize he : Dev.computeExpected _ o _ false = e
    have hexpected : e.mem.wf := by
      rw [← he]
      exact computeExpected_form (modOut_form hd)
    exact each_form hexpected (fun _ _ => raise_form)

theorem cartsDone_form (hd : d.mem.wf) : d.cartsDone.mem.wf := by
  unfold Dev.cartsDone
  exact each_form hd (fun _ _ => finish_form)

theorem settleCommits_form (hd : d.mem.wf) : d.settleCommits.mem.wf := by
  unfold Dev.settleCommits
  refine cartsDone_form (commitsDone_form (each_form hd (fun _ _ hd' => ?_)))
  split
  · exact hd'
  · refine applyCarts_form ?_
    split
    · exact applyCommits_form hd'
    · exact hd'

theorem arm_form {port session seq ten : Nat} {mediator : Bool} {p : Plan} (hd : d.mem.wf) : (d.arm port session seq ten mediator p).mem.wf := by
  unfold Dev.arm
  exact hd

theorem layerCommitOp_form {c : Ctx} {mask : Nat} (hd : d.mem.wf) : (layerCommitOp c mask d).2.mem.wf := by
  unfold layerCommitOp
  exact checked_form hd (fun _ => arm_form)

theorem cartWriteOp_form {c : Ctx} {o off : Nat} {data : Bytes} (hd : d.mem.wf) : (cartWriteOp c o off data d).2.mem.wf := by
  unfold cartWriteOp
  exact checked_form hd (fun _ => poke_form)

theorem cartLutOp_form {c : Ctx} {o bank : Nat} {entries : List Nat} (hd : d.mem.wf) : (cartLutOp c o bank entries d).2.mem.wf := by
  unfold cartLutOp
  exact checked_form hd (fun _ => poke_form)

theorem cartGlyphOp_form {c : Ctx} {o bank : Nat} {images : Bytes} (hd : d.mem.wf) : (cartGlyphOp c o bank images d).2.mem.wf := by
  unfold cartGlyphOp
  exact checked_form hd (fun _ => poke_form)

theorem cartDescOp_form {c : Ctx} {o bank ctl : Nat} {rects : List Nat} (hd : d.mem.wf) : (cartDescOp c o bank ctl rects d).2.mem.wf := by
  unfold cartDescOp
  exact checked_form hd (fun _ => poke_form)

theorem cartCommitOp_form {c : Ctx} {mask bank : Nat} (hd : d.mem.wf) : (cartCommitOp c mask bank d).2.mem.wf := by
  unfold cartCommitOp
  exact checked_form hd (fun _ hd' => each_form hd' (fun _ _ => computeExpected_form))

theorem takePic_form {o n : Nat} {v : LayerVals} (hd : d.mem.wf) : (d.takePic o n v).mem.wf := by
  unfold Dev.takePic
  dsimp only
  split
  · exact modLayer_form hd
  · split
    · exact modLayer_form hd
    · split
      · exact modLayer_form (modLayer_form hd)
      · split
        · exact modLayer_form (modLayer_form hd)
        · exact when_form (modLayer_form (modLayer_form hd)) (fun _ => layerEvent_form)

theorem sliceLead_form {o : Nat} (hd : d.mem.wf) : (d.sliceLead o).mem.wf := by
  unfold Dev.sliceLead
  dsimp only
  split
  · exact put_form hd
  · split
    · exact put_form hd
    · exact put_form (put_form hd)

theorem select_form {o : Nat} (hd : d.mem.wf) : (d.select o).mem.wf := by
  unfold Dev.select
  refine hideSources_form (modOut_form (each_form (each_form (sliceLead_form (each_form hd (fun _ _ hd' => ?_))) (fun _ _ hd' => ?_))
    (fun _ _ hd' => ?_)))
  · split
    · exact takePic_form hd'
    · exact modLayer_form hd'
  · dsimp only
    split
    · exact modLayer_form hd'
    · exact hd'
  · split
    · exact becomeFresh_form hd'
    · exact hd'

end Sys2Proof.Goals
end

section
/-!
PROOF. Memory keeps its form: touch, haptics and audio.
-/
namespace Sys2Proof.Goals

open Sys2Proof Sys2Proof.Machine

variable {d : Dev}

theorem putBytes_form {a : Nat} {b : Bytes} (hd : d.mem.wf) : (d.putBytes a b).mem.wf := by
  unfold Dev.putBytes
  split
  · exact busWrite_form hd
  · exact poke_form hd

theorem touchRecord_form {r : Nat} {p : TouchRep} (hd : d.mem.wf) : (d.touchRecord r p).mem.wf := by
  unfold Dev.touchRecord
  dsimp only
  split
  · exact count2_form hd
  · split
    · exact setTring_form (count2_form hd)
    · exact when_form (when_form (setTring_form (put_form (putBytes_form hd))) (fun _ => raise_form)) (fun _ => raise_form)

theorem reportTouch_form {t kind : Nat} {c : Contact} {noisy : Bool} (hd : d.mem.wf) : (d.reportTouch t kind c noisy).mem.wf := by
  unfold Dev.reportTouch
  split
  · exact hd
  · split
    · exact hd
    · exact touchRecord_form hd

theorem hopTest_form {t : Nat} (hd : d.mem.wf) : (d.hopTest t).mem.wf := by
  unfold Dev.hopTest
  dsimp only
  split
  · split
    · exact raise_form (count2_form (setFe_form hd))
    · exact setFe_form hd
  · split
    · exact raise_form (count2_form (setFe_form hd))
    · exact setFe_form hd

theorem baselineEvent_form {t cause : Nat} (hd : d.mem.wf) : (d.baselineEvent t cause).mem.wf := by
  unfold Dev.baselineEvent
  exact raise_form hd

theorem enableFe_form {t : Nat} (hd : d.mem.wf) : (d.enableFe t).mem.wf := by
  unfold Dev.enableFe
  exact setFe_form hd

theorem disableFe_form {t : Nat} (hd : d.mem.wf) : (d.disableFe t).mem.wf := by
  unfold Dev.disableFe
  exact modFe_form hd

theorem storeBases_form {units : List Nat} (hd : d.mem.wf) : (d.storeBases units).mem.wf := by
  unfold Dev.storeBases
  exact each_form hd (fun _ _ hd' => baselineEvent_form hd')

theorem cancelTouches_form {t : Nat} {f : Contact → Bool} (hd : d.mem.wf) : (d.cancelTouches t f).mem.wf := by
  unfold Dev.cancelTouches
  exact modFe_form (each_form hd (fun _ _ => reportTouch_form))

theorem finishRecal_form {t : Nat} (hd : d.mem.wf) : (d.finishRecal t).mem.wf := by
  unfold Dev.finishRecal
  refine each_form (baselineEvent_form (setFe_form (cancelTouches_form hd))) (fun _ _ hd' => ?_)
  split
  · exact hd'
  · exact finishReply_form hd'

theorem recalibrateOp_form {c : Ctx} {feMask selfMask : Nat} (hd : d.mem.wf) : (recalibrateOp c feMask selfMask d).2.mem.wf := by
  unfold recalibrateOp
  refine checked_form hd (fun _ hd' => ?_)
  split
  · split
    · exact each_form hd' (fun _ _ => modFe_form)
    · exact each_form hd' (fun _ _ => modFe_form)
  · split
    · exact modFe_form (each_form hd' (fun _ _ => modFe_form))
    · exact modFe_form (each_form hd' (fun _ _ => modFe_form))

theorem recalFrame_form {t : Nat} {vals : List (Nat × Int)} (hd : d.mem.wf) : (d.recalFrame t vals).mem.wf := by
  unfold Dev.recalFrame
  dsimp only
  split
  · exact hd
  · split
    · exact finishRecal_form (setFe_form hd)
    · exact setFe_form hd

theorem placeTouch_form {ds : List (Nat × Int)} {rel : Int} {senses drives s v : Nat} (hd : d.mem.wf) :
    (d.placeTouch ds rel senses drives s v).2.mem.wf := by
  unfold Dev.placeTouch
  split
  · exact hd
  · exact hd

theorem trackTouch_form {t : Nat} {ds : List (Nat × Int)} {noisy : Bool} {c : Contact} (hd : d.mem.wf) : (d.trackTouch t ds noisy c).mem.wf := by
  unfold Dev.trackTouch
  split
  · dsimp only
    split
    · exact modFe_form (reportTouch_form hd)
    · exact modFe_form (reportTouch_form (placeTouch_form hd))
  · dsimp only
    split
    · exact modFe_form (reportTouch_form hd)
    · exact modFe_form (reportTouch_form (placeTouch_form hd))

theorem startTouch_form {t : Nat} {ds : List (Nat × Int)} {noisy : Bool} {k : Nat} (hd : d.mem.wf) : (d.startTouch t ds noisy k).mem.wf := by
  unfold Dev.startTouch
  dsimp only
  split
  · exact hd
  · split
    · exact count2_form (modFe_form (placeTouch_form hd))
    · exact reportTouch_form (modFe_form (placeTouch_form hd))

theorem driftNode_form {t : Nat} {e : Nat × Int} (hd : d.mem.wf) : (d.driftNode t e).mem.wf := by
  unfold Dev.driftNode
  extract_lets fe far due
  clear_value far due
  refine ite_form ?_ hd
  split
  next v e he =>
  have hfresh : e.mem.wf := snd_form he (fresh_form hd)
  exact ite_form hfresh (modFe_form hfresh)

theorem firstScan_form {t : Nat} {vals : List (Nat × Int)} (hd : d.mem.wf) : (d.firstScan t vals).mem.wf := by
  unfold Dev.firstScan
  split
  · exact baselineEvent_form (setFe_form hd)
  · exact hd

theorem suspectTest_form {t total : Nat} {ds : List (Nat × Int)} (hd : d.mem.wf) : (d.suspectTest t total ds).mem.wf := by
  unfold Dev.suspectTest
  dsimp only
  split
  · exact baselineEvent_form (modFe_form (cancelTouches_form hd))
  · exact hd

theorem touchScanOp_form {t : Nat} {f : ScanFrame} (hd : d.mem.wf) : (touchScanOp t f d).mem.wf := by
  unfold touchScanOp
  split
  · exact hd
  · refine hopTest_form (recalFrame_form (each_form ?_ (fun _ _ => driftNode_form)))
    split
    · exact suspectTest_form (firstScan_form (modFe_form (count2_form hd)))
    · exact modFe_form (each_form (each_form (suspectTest_form (firstScan_form (modFe_form (count2_form hd)))) (fun _ _ => trackTouch_form))
        (fun _ _ => startTouch_form))

theorem touchStuckOp_form {t id : Nat} (hd : d.mem.wf) : (touchStuckOp t id d).mem.wf := by
  unfold touchStuckOp
  split
  · exact hd
  · split
    · exact modFe_form hd
    · split
      · exact modFe_form hd
      · exact raise_form (modFe_form hd)

theorem groupFrame_form {ds : List (Nat × Int)} {noisy : Bool} {g : Nat} (hd : d.mem.wf) : (d.groupFrame ds noisy g).mem.wf := by
  unfold Dev.groupFrame
  dsimp only
  generalize groupPos _ _ _ = q
  cases q
  all_goals
    dsimp only
    split
    · exact ite_form (modFe_form (reportTouch_form hd)) (modFe_form (reportTouch_form hd))
    · exact ite_form (reportTouch_form (modFe_form hd)) hd

theorem selfScanOp_form {f : SelfFrame} (hd : d.mem.wf) : (selfScanOp f d).mem.wf := by
  unfold selfScanOp
  split
  · exact hd
  · dsimp only
    split
    · refine hopTest_form (recalFrame_form (each_form ?_ (fun _ _ => driftNode_form)))
      split
      · exact suspectTest_form (firstScan_form (modFe_form (count2_form hd)))
      · exact modFe_form (each_form (suspectTest_form (firstScan_form (modFe_form (count2_form hd)))) (fun _ _ => groupFrame_form))
    · refine modFe_form (recalFrame_form (each_form ?_ (fun _ _ => driftNode_form)))
      split
      · exact suspectTest_form (firstScan_form (modFe_form (count2_form hd)))
      · exact modFe_form (each_form (suspectTest_form (firstScan_form (modFe_form (count2_form hd)))) (fun _ _ => groupFrame_form))

theorem ringEnabled_form {r : Nat} (hd : d.mem.wf) : (d.ringEnabled r).mem.wf := by
  unfold Dev.ringEnabled
  exact each_form hd (fun _ _ => modFe_form)

theorem withdrawTouches_form {r : Nat} {keeps : Nat → Contact → Bool} (hd : d.mem.wf) : (d.withdrawTouches r keeps).mem.wf := by
  unfold Dev.withdrawTouches
  exact each_form hd (fun _ _ hd' => modFe_form (each_form hd' (fun _ _ => reportTouch_form)))

theorem startPlay_form {v : Nat} (hd : d.mem.wf) : (d.startPlay v).mem.wf := by
  unfold Dev.startPlay
  split
  · exact hd
  · exact send_form hd

theorem hapDone_form {v waveform cause : Nat} (hd : d.mem.wf) : (d.hapDone v waveform cause).mem.wf := by
  unfold Dev.hapDone
  exact raise_form hd

theorem flushPlays_form {v cause : Nat} (hd : d.mem.wf) : (d.flushPlays v cause).mem.wf := by
  unfold Dev.flushPlays
  exact modHap_form (each_form hd (fun _ _ => hapDone_form))

theorem hapticPlayOp_form {c : Ctx} {v waveform amplitude rep : Nat} (hd : d.mem.wf) : (hapticPlayOp c v waveform amplitude rep d).2.mem.wf := by
  unfold hapticPlayOp
  refine checked_form hd (fun _ hd' => ?_)
  split
  · exact hd'
  · dsimp only
    split
    · exact startPlay_form (modHap_form hd')
    · exact modHap_form hd'

theorem hapticEndOp_form {v : Nat} (hd : d.mem.wf) : (hapticEndOp v d).mem.wf := by
  unfold hapticEndOp
  split
  · exact hd
  · exact startPlay_form (hapDone_form (count2_form (modHap_form hd)))

theorem trackLostOp_form {v freq : Nat} (hd : d.mem.wf) : (trackLostOp v freq d).mem.wf := by
  unfold trackLostOp
  dsimp only
  split
  · exact hd
  · exact raise_form (count2_form (setHap_form hd))

theorem inputBlock_form {i : Nat} (hd : d.mem.wf) : (d.inputBlock i).2.mem.wf := by
  unfold Dev.inputBlock
  dsimp only
  split
  · exact hd
  · split
    · split
      · exact count2_form hd
      · exact count2_form (put_form hd)
    · split
      · exact count2_form hd
      · exact count2_form (put_form hd)

theorem alertEvent_form {on : Bool} (hd : d.mem.wf) : (d.alertEvent on).mem.wf := by
  unfold Dev.alertEvent
  exact raise_form hd

theorem alertBlock_form (hd : d.mem.wf) : d.alertBlock.2.mem.wf := by
  unfold Dev.alertBlock
  extract_lets rd held a since was d₁ e wide n
  have he : e.mem.wf := when_form (d := d₁) hd (fun _ => alertEvent_form)
  clear_value held e
  exact iteSnd_form hd (iteSnd_form (when_form hd fun _ hd' => count2_form hd') (iteSnd_form (count2_form he) (count2_form (put_form he))))

theorem mixSample_form {ins : List (Nat × List Int)} {alert : List Int} {j : Nat} (hd : d.mem.wf) : (d.mixSample ins alert j).2.mem.wf := by
  unfold Dev.mixSample
  exact hd

theorem audioBlockOp_form (hd : d.mem.wf) : (audioBlockOp d).mem.wf := by
  unfold audioBlockOp
  refine ite_form hd (ite_form (each_form hd (fun _ _ hd' => ite_form hd' (send_form hd'))) ?_)
  dsimp only
  have hin : ∀ (l : List Nat) (x : List (Nat × List Int) × Dev), x.2.mem.wf → (l.foldl (fun (l, d) i =>
      if d.flag .audInCfg i 31 then (let (b, d) := d.inputBlock i; (l ++ [(i, b)], d)) else (l, d)) x).2.mem.wf :=
    fun l x hx => foldlSnd_form hx (fun _ _ hd' => iteSnd_form (inputBlock_form hd') hd')
  have hmix : ∀ (l : List Nat) (ins alert) (x : List (List Int) × Dev), x.2.mem.wf → (l.foldl (fun (l, d) j =>
      let (s, d) := d.mixSample ins alert j; (l ++ [s], d)) x).2.mem.wf :=
    fun l ins alert x hx => foldlSnd_form hx (fun _ _ => mixSample_form)
  exact each_form (hmix _ _ _ _ (alertBlock_form (hin _ _ hd)))
    (fun _ _ hd' => ite_form hd' (send_form hd'))

theorem alertIdleOp_form (hd : d.mem.wf) : (alertIdleOp d).mem.wf := by
  unfold alertIdleOp
  split
  · exact alertEvent_form hd
  · exact hd

theorem portSlotsChanged_form {port old new : Nat} (hd : d.mem.wf) : (d.portSlotsChanged port old new).mem.wf := by
  unfold Dev.portSlotsChanged
  exact when_form (when_form hd (fun _ hd' => raise_form (audit_form hd'))) (fun _ => raise_form)

theorem consoleNight_form (hd : d.mem.wf) : d.consoleNight.mem.wf := by
  unfold Dev.consoleNight
  exact each_form (each_form hd (fun _ _ hd' => modFe_form (cancelTouches_form hd'))) (fun _ _ => flushPlays_form)

end Sys2Proof.Goals
end

section
/-!
PROOF. Memory keeps its form: the serial links and the option area.
-/
namespace Sys2Proof.Goals

open Sys2Proof Sys2Proof.Machine

variable {d : Dev}

theorem ethLinkDownOp_form {p : Nat} (hd : d.mem.wf) : (ethLinkDownOp p d).mem.wf := by
  unfold ethLinkDownOp
  split
  · exact hd
  · exact linkEvent_form (when_form (count2_form (modEth_form hd)) (fun _ => id))

theorem ethDrain_form {p : Nat} (hd : d.mem.wf) : (d.ethDrain p).mem.wf := by
  unfold Dev.ethDrain
  exact each_form (modEth_form hd) (fun _ _ => ethTx_form)

theorem ethLinkUpOp_form {p : Nat} (hd : d.mem.wf) : (ethLinkUpOp p d).mem.wf := by
  unfold ethLinkUpOp
  split
  · exact hd
  · exact each_form (ethDrain_form (linkEvent_form (modEth_form hd))) (fun _ _ => groupTx_form)

theorem reloadLatency_form {p : Nat} (hd : d.mem.wf) : (d.reloadLatency p).mem.wf := by
  unfold Dev.reloadLatency
  exact put_form (put_form hd)

theorem ethCfgWritten_form {p old : Nat} (hd : d.mem.wf) : (ethCfgWritten p old d).mem.wf := by
  unfold ethCfgWritten
  exact when_form (when_form hd (fun _ => ethLinkDownOp_form)) (fun _ => reloadLatency_form)

theorem arpRetryOp_form {p ip : Nat} (hd : d.mem.wf) : (arpRetryOp p ip d).mem.wf := by
  unfold arpRetryOp
  dsimp only
  split
  · exact hd
  · split
    · exact ethTx_form (modEth_form hd)
    · exact count2_form (modEth_form hd)

theorem neighborAgeOp_form {p ip : Nat} (hd : d.mem.wf) : (neighborAgeOp p ip d).mem.wf := by
  unfold neighborAgeOp
  split
  · exact modEth_form hd
  · exact hd

theorem neighbourRx_form {p ip mac : Nat} {isRequest : Bool} {target : Nat} (hd : d.mem.wf) : (neighbourRx p ip mac isRequest target d).mem.wf := by
  unfold neighbourRx
  refine when_form ?_ (fun _ => ethTx_form)
  split
  · exact each_form (modEth_form hd) (fun _ _ => ethTx_form)
  · exact hd

theorem ethTxTimeoutOp_form {p : Nat} (hd : d.mem.wf) : (ethTxTimeoutOp p d).mem.wf := by
  unfold ethTxTimeoutOp
  split
  · exact hd
  · exact count2_form (modEth_form hd)

theorem pcieLinkUpOp_form {h : Nat} (hd : d.mem.wf) : (pcieLinkUpOp h d).mem.wf := by
  unfold pcieLinkUpOp
  split
  · exact hd
  · exact linkEvent_form (modPcie_form hd)

theorem pcieResetOp_form {h : Nat} {kind : PcieReset} (hd : d.mem.wf) : (pcieResetOp h kind d).mem.wf := by
  unfold pcieResetOp
  dsimp only
  generalize he : Dev.setPcie _ h _ = e
  have hclosed : e.mem.wf := by
    rw [← he]
    exact setPcie_form (each_form hd (fun _ _ => closeSession_form))
  exact when_form (iteSnd_form (fresh_form (iteSnd_form (fresh_form hclosed) hclosed)) (iteSnd_form (fresh_form hclosed) hclosed))
    (fun _ => linkEvent_form)

theorem ringCfgOp_form {h page ring : Nat} {evt : Bool} {c : RingCfg} (hd : d.mem.wf) : (ringCfgOp h page ring evt c d).mem.wf := by
  unfold ringCfgOp
  extract_lets n vec log
  exact ite_form hd (ite_form (ite_form (ite_form hd (setEvr_form hd)) (eventSpaceBack_form (setEvr_form hd)))
    (ite_form hd (ite_form (ite_form hd (setRng_form hd)) (setRng_form hd))))

theorem msixUnmaskOp_form {h v : Nat} (hd : d.mem.wf) : (msixUnmaskOp h v d).mem.wf := by
  unfold msixUnmaskOp
  exact when_form (setPcie_form hd) (fun _ => send_form)

theorem mdkCount_form {p k : Nat} {n : Nat} (hd : d.mem.wf) : (d.mdkCount p k n).mem.wf := by
  unfold Dev.mdkCount
  exact count2_form hd

theorem mdkEnter_form {p : Nat} {st : MdkSt} (hd : d.mem.wf) : (d.mdkEnter p st).mem.wf := by
  unfold Dev.mdkEnter
  dsimp only
  split
  · split
    · exact when_form (when_form (setMdk_form hd) (fun _ => mdkCount_form)) (fun _ => mdkCount_form)
    · exact linkEvent_form (when_form (when_form (setMdk_form hd) (fun _ => mdkCount_form)) (fun _ => mdkCount_form))
  · split
    · exact when_form (when_form (setMdk_form hd) (fun _ => mdkCount_form)) (fun _ => mdkCount_form)
    · exact linkEvent_form (when_form (when_form (setMdk_form hd) (fun _ => mdkCount_form)) (fun _ => mdkCount_form))

theorem mdkPump_form {p : Nat} (hd : d.mem.wf) : (d.mdkPump p).mem.wf := by
  unfold Dev.mdkPump
  dsimp only
  split
  · exact hd
  · refine each_form ?_ (fun _ _ hd' => mdkCount_form (send_form (setMdk_form hd')))
    split
    · exact send_form (mdkEnter_form hd)
    · exact hd

theorem mdkSend_form {p ftype : Nat} {body : Bytes} (hd : d.mem.wf) : (d.mdkSend p ftype body).mem.wf := by
  unfold Dev.mdkSend
  dsimp only
  split
  · exact mdkPump_form (setMdk_form hd)
  · exact hd

theorem mdkAck_form {p : Nat} (hd : d.mem.wf) : (d.mdkAck p).mem.wf := by
  unfold Dev.mdkAck
  exact send_form (setMdk_form hd)

theorem mdkNak_form {p : Nat} (hd : d.mem.wf) : (d.mdkNak p).mem.wf := by
  unfold Dev.mdkNak
  exact mdkCount_form (send_form (setMdk_form hd))

theorem mdkResend_form {p seq : Nat} (hd : d.mem.wf) : (d.mdkResend p seq).mem.wf := by
  unfold Dev.mdkResend
  dsimp only
  split
  · exact hd
  · split
    · exact mdkEnter_form (modMdk_form hd)
    · exact mdkCount_form (each_form (setMdk_form hd) (fun _ _ => send_form))

theorem mdkFrameOp_form {p : Nat} {f : MdkFrame} (hd : d.mem.wf) : (mdkFrameOp p f d).mem.wf := by
  unfold mdkFrameOp
  extract_lets m d₁ nak d₂
  have h₁ : d₁.mem.wf := mdkCount_form (modMdk_form hd)
  have hnak : (nak d₁).mem.wf := ite_form h₁ (mdkNak_form h₁)
  have h₂ : d₂.mem.wf := modMdk_form h₁
  clear_value m d₁ nak d₂
  exact ite_form (when_form hd fun _ hd' => mdkCount_form hd') <| ite_form hd <| ite_form hnak <|
    ite_form (ite_form (mdkNak_form h₁) (when_form h₂ fun _ hd' => mdkAck_form hd')) (ite_form hnak (mdkAck_form h₁))

theorem mdkLinkctlOp_form {p : Nat} {ack : Bool} {seq : Nat} (hd : d.mem.wf) : (mdkLinkctlOp p ack seq d).mem.wf := by
  unfold mdkLinkctlOp
  split
  · dsimp only
    split
    · exact hd
    · exact mdkPump_form (setMdk_form hd)
  · dsimp only
    split
    · exact hd
    · split
      · exact mdkResend_form hd
      · exact hd

theorem mdkAckTimerOp_form {p : Nat} (hd : d.mem.wf) : (mdkAckTimerOp p d).mem.wf := by
  unfold mdkAckTimerOp
  split
  · exact mdkAck_form hd
  · exact hd

theorem mdkNakRepeatOp_form {p : Nat} (hd : d.mem.wf) : (mdkNakRepeatOp p d).mem.wf := by
  unfold mdkNakRepeatOp
  split
  · exact mdkNak_form hd
  · exact hd

theorem mdkReplayTimeoutOp_form {p : Nat} (hd : d.mem.wf) : (mdkReplayTimeoutOp p d).mem.wf := by
  unfold mdkReplayTimeoutOp
  split
  · exact hd
  · split
    · exact mdkResend_form hd
    · exact hd

theorem mdkActive_form {p : Nat} (hd : d.mem.wf) : (d.mdkActive p).mem.wf := by
  unfold Dev.mdkActive
  refine mdkPump_form ?_
  split
  · exact mdkEnter_form (modMdk_form hd)
  · exact mdkResend_form (mdkEnter_form (modMdk_form hd))

theorem mdkRx_form {p : Nat} (hd : d.mem.wf) : (d.mdkRx p).mem.wf := by
  unfold Dev.mdkRx
  dsimp only
  split
  · split
    · exact mdkActive_form hd
    · exact hd
  · split
    · exact mdkActive_form hd
    · exact hd
  · split
    · exact hd
    · exact mdkEnter_form hd
  · exact hd
  · exact hd
  · exact hd

theorem mdkBlockLockOp_form {p lanes : Nat} {aligned : Bool} {inv skew : Nat} (hd : d.mem.wf) :
    (mdkBlockLockOp p lanes aligned inv skew d).mem.wf := by
  unfold mdkBlockLockOp
  split
  · exact hd
  · exact mdkRx_form (modMdk_form hd)

theorem mdkPeerRxUpOp_form {p : Nat} {up : Bool} (hd : d.mem.wf) : (mdkPeerRxUpOp p up d).mem.wf := by
  unfold mdkPeerRxUpOp
  split
  · exact hd
  · exact mdkRx_form (modMdk_form hd)

theorem mdkStartupOp_form {p : Nat} (hd : d.mem.wf) : (mdkStartupOp p d).mem.wf := by
  unfold mdkStartupOp
  dsimp only
  split
  · exact when_form (setMdk_form hd) (fun _ => send_form)
  · exact hd

theorem mdkRecoveryTimeoutOp_form {p : Nat} (hd : d.mem.wf) : (mdkRecoveryTimeoutOp p d).mem.wf := by
  unfold mdkRecoveryTimeoutOp
  split
  · exact mdkEnter_form hd
  · exact hd

theorem mdkIdleTimerOp_form {p : Nat} (hd : d.mem.wf) : (mdkIdleTimerOp p d).mem.wf := by
  unfold mdkIdleTimerOp
  dsimp only
  split
  · exact when_form (send_form (setMdk_form hd)) (fun _ => mdkEnter_form)
  · exact hd

theorem mdkEidleOp_form {p : Nat} (hd : d.mem.wf) : (mdkEidleOp p d).mem.wf := by
  unfold mdkEidleOp
  dsimp only
  split
  · exact when_form (setMdk_form hd) (fun _ => mdkEnter_form)
  · exact hd

theorem mdkBurst_form {p : Nat} (hd : d.mem.wf) : (d.mdkBurst p).mem.wf := by
  unfold Dev.mdkBurst
  split
  · exact mdkPump_form (send_form (mdkEnter_form hd))
  · exact hd

theorem mdkCfgWritten_form {p old : Nat} (hd : d.mem.wf) : (mdkCfgWritten p old d).mem.wf := by
  unfold mdkCfgWritten
  dsimp only
  split
  · exact hd
  · split
    · exact mdkEnter_form hd
    · exact mdkEnter_form (mdkEnter_form hd)

theorem dpHpdAssertOp_form {o : Nat} {edid : Bytes} (hd : d.mem.wf) : (dpHpdAssertOp o edid d).mem.wf := by
  unfold dpHpdAssertOp
  exact dpTrain_form (modDp_form (each_form hd (fun _ _ => put_form)))

theorem dpHpdIrqOp_form {o : Nat} {lockLost : Bool} (hd : d.mem.wf) : (dpHpdIrqOp o lockLost d).mem.wf := by
  unfold dpHpdIrqOp
  split
  · exact dpTrain_form hd
  · exact hd

theorem dpHpdDeassertOp_form {o : Nat} (hd : d.mem.wf) : (dpHpdDeassertOp o d).mem.wf := by
  unfold dpHpdDeassertOp
  exact dpDown_form (modDp_form hd)

theorem dpRetryOp_form {o : Nat} (hd : d.mem.wf) : (dpRetryOp o d).mem.wf := by
  unfold dpRetryOp
  split
  · exact hd
  · exact dpTrain_form hd

theorem dpTrainingDoneOp_form {o : Nat} {rate lanes : Option Nat} (hd : d.mem.wf) : (dpTrainingDoneOp o rate lanes d).mem.wf := by
  unfold dpTrainingDoneOp
  split
  · exact hd
  · split
    · split
      · exact linkEvent_form (modDp_form hd)
      · exact modDp_form hd
    · exact modDp_form hd

theorem eyeScanOp_form {c : Ctx} {lane dwell dest : Nat} (hd : d.mem.wf) : (eyeScanOp c lane dwell dest d).2.mem.wf := by
  unfold eyeScanOp
  exact checked_form hd (fun _ => id)

theorem eyeScanDoneOp_form {q : Nat} {counts : Bytes} (hd : d.mem.wf) : (eyeScanDoneOp q counts d).mem.wf := by
  unfold eyeScanDoneOp
  split
  · exact hd
  · exact finish_form (poke_form hd)

theorem writeOptions_form {word : Nat} (hd : d.mem.wf) : (d.writeOptions word).mem.wf := by
  unfold Dev.writeOptions
  exact audit_form (poke_form hd)

end Sys2Proof.Goals
end

section
/-!
PROOF. Memory keeps its form: chains and the image pipeline.
-/
namespace Sys2Proof.Goals

open Sys2Proof Sys2Proof.Machine

variable {d : Dev}

theorem routesCheck_form (hd : d.mem.wf) : d.routesCheck.mem.wf := by
  unfold Dev.routesCheck
  refine each_form hd (fun _ _ hd' => ?_)
  split
  · exact hd'
  · dsimp only
    split
    · exact raise_form (enterLost_form hd')
    · split
      · exact raise_form hd'
      · exact hd'

theorem topology_form (hd : d.mem.wf) : d.topology.mem.wf := by
  unfold Dev.topology
  exact routesCheck_form (when_form hd (fun _ => raise_form))

theorem cutLink_form {p : Nat} (hd : d.mem.wf) : (d.cutLink p).mem.wf := by
  unfold Dev.cutLink
  split
  · exact hd
  · exact topology_form (when_form hd (fun _ => id))

theorem chainUnicast_form {ftype dst : Nat} {body : Bytes} (hd : d.mem.wf) : (d.chainUnicast ftype dst body).mem.wf := by
  unfold Dev.chainUnicast
  split
  · exact hd
  · split
    · exact mdkSend_form hd
    · exact hd

theorem chainBroadcast_form {ports : List Nat} {ftype : Nat} {body : Bytes} (hd : d.mem.wf) : (d.chainBroadcast ports ftype body).mem.wf := by
  unfold Dev.chainBroadcast
  split
  · exact hd
  · exact each_form hd (fun _ _ => mdkSend_form)

theorem discoverSendOp_form (hd : d.mem.wf) : (discoverSendOp d).mem.wf := by
  unfold discoverSendOp
  exact chainBroadcast_form hd

theorem firstSight_form {src bid : Nat} (hd : d.mem.wf) : (d.firstSight src bid).2.mem.wf := by
  unfold Dev.firstSight
  exact hd

theorem chainForward_form {port dst src ttl bid ftype : Nat} {body : Bytes} (hd : d.mem.wf) :
    (d.chainForward port dst src ttl bid ftype body).mem.wf := by
  unfold Dev.chainForward
  split
  · exact hd
  · split
    · exact when_form hd (fun _ => mdkSend_form)
    · split
      · exact mdkSend_form hd
      · exact hd

theorem discoverRxOp_form {port chainId position role ttl bid : Nat}
    (hd : d.mem.wf) : (discoverRxOp port chainId position role ttl bid d).mem.wf := by
  unfold discoverRxOp
  refine ite_form hd ?_
  extract_lets body direct good was d₁ x d₂ y d₃ keep z d₄
  have h₂ : d₂.mem.wf := cutLink_form hd
  have h₃ : d₃.mem.wf := ite_form hd hd
  have h₄ : d₄.mem.wf := h₃
  clear_value d₁ d₂ d₃ d₄
  refine ite_form (when_form h₂ fun _ hd' => raise_form hd') (ite_form (topology_form h₃) ?_)
  split
  next first e he =>
  exact when_form (topology_form (snd_form he (firstSight_form h₄))) fun _ => chainForward_form

theorem linkCutOp_form {port : Nat} (hd : d.mem.wf) : (linkCutOp port d).mem.wf := by
  unfold linkCutOp
  exact topology_form (cutLink_form hd)

theorem withPorts_form {f : Dev → Dev} (hd : d.mem.wf) (hf : ∀ e : Dev, e.mem.wf → (f e).mem.wf) : (d.withPorts f).mem.wf :=
  when_form (each_form (hf d hd) (fun _ _ hd' => ite_form hd' (cutLink_form hd'))) (fun _ => discoverSendOp_form)

theorem layoutApplied_form (hd : d.mem.wf) : d.layoutApplied.mem.wf := by
  unfold Dev.layoutApplied
  split
  · exact hd
  · split
    · exact hd
    · dsimp only
      split
      · exact raise_form (finish_form hd)
      · exact hd

theorem readyRx_form {pos : Nat} {r : Machine.Ready} (hd : d.mem.wf) : (d.readyRx pos r).mem.wf := by
  unfold Dev.readyRx
  split
  · dsimp only
    split
    · split
      · exact layoutApplied_form hd
      · exact finishReply_form hd
    · exact hd
  · dsimp only
    split
    · split
      · exact layoutApplied_form hd
      · split
        · exact finishReply_form hd
        · exact hd
    · exact hd

theorem readySendOp_form (hd : d.mem.wf) : (readySendOp d).mem.wf := by
  unfold readySendOp
  split
  · exact hd
  · refine each_form hd (fun _ _ hd' => ?_)
    split
    · exact readyRx_form hd'
    · exact chainUnicast_form hd'

theorem sendLayout_form {pos : Nat} {image : Bytes} (hd : d.mem.wf) : (d.sendLayout pos image).mem.wf := by
  unfold Dev.sendLayout
  exact chainUnicast_form hd

theorem goTake_form {g : Go} (hd : d.mem.wf) : (d.goTake g).mem.wf := by
  unfold Dev.goTake
  dsimp only
  split
  · exact hd
  · split
    · exact hd
    · exact hd

theorem takebackRx_form {g : Go} (hd : d.mem.wf) : (d.takebackRx g).mem.wf := by
  unfold Dev.takebackRx
  split
  · exact raise_form hd
  · exact hd

theorem noteExclusion_form {k : Nat} {ex : List (Nat × Option Nat)} (hd : d.mem.wf) : (d.noteExclusion k ex).mem.wf := by
  unfold Dev.noteExclusion
  refine each_form hd (fun _ _ hd' => ?_)
  split
  · split
    · exact when_form hd' (fun _ => raise_form)
    · exact when_form hd' (fun _ => raise_form)

theorem goSendOp_form (hd : d.mem.wf) : (goSendOp d).mem.wf := by
  unfold goSendOp
  split
  · exact hd
  · dsimp only
    split
    · split
      · exact hd
      · refine when_form ?_ (fun _ => id)
        split
        · exact each_form (noteExclusion_form (goTake_form (chainBroadcast_form hd))) (fun _ _ => sendLayout_form)
        · exact noteExclusion_form (goTake_form (chainBroadcast_form hd))
    · split
      · exact hd
      · refine when_form ?_ (fun _ => id)
        split
        · exact each_form (noteExclusion_form (goTake_form (chainBroadcast_form hd))) (fun _ _ => sendLayout_form)
        · exact noteExclusion_form (goTake_form (chainBroadcast_form hd))

theorem applyLayout_form (hd : d.mem.wf) : d.applyLayout.mem.wf := by
  unfold Dev.applyLayout
  split
  · exact hd
  · exact when_form hd (fun _ => arm_form)

theorem takeover_form {k : Nat} (hd : d.mem.wf) : (d.takeover k).mem.wf := by
  unfold Dev.takeover
  dsimp only
  split
  · exact raise_form hd
  · exact hd

theorem takebackCount_form {included : Bool} (hd : d.mem.wf) : (d.takebackCount included).mem.wf := by
  unfold Dev.takebackCount
  dsimp only
  split
  · exact hd
  · exact hd

theorem barrierDeadlineOp_form (hd : d.mem.wf) : (barrierDeadlineOp d).mem.wf := by
  unfold barrierDeadlineOp
  refine ite_form hd ?_
  extract_lets k got g excl missed was wasActing x d₁ step d₂ y d₃ d₄ d₅
  have h₂ : d₂.mem.wf := when_form (d := d₁) hd fun _ => stepClock_form
  clear_value d₂
  have h₃ : d₃.mem.wf := by
    unfold d₃
    split
    · exact ite_form (finishReply_form h₂) h₂
    · exact h₂
  have h₄ : d₄.mem.wf := when_form h₃ fun _ => raise_form
  clear_value g d₃ d₄
  have h₅ : d₅.mem.wf := by
    unfold d₅
    split
    · exact takebackRx_form (when_form (when_form h₄ fun _ hd' => applyLayout_form hd') fun _ hd' => hd')
    · exact h₄
  clear_value d₅
  exact takeover_form (takebackCount_form h₅)

theorem listenExpireOp_form (hd : d.mem.wf) : (listenExpireOp d).mem.wf := by
  unfold listenExpireOp
  split
  · exact hd
  · exact hd

theorem takebackReachedOp_form (hd : d.mem.wf) : (takebackReachedOp d).mem.wf := by
  unfold takebackReachedOp
  split
  · exact hd
  · exact hd

theorem summarySendOp_form (hd : d.mem.wf) : (summarySendOp d).mem.wf := by
  unfold summarySendOp
  split
  · exact hd
  · split
    · exact hd
    · split
      · exact chainUnicast_form hd
      · exact hd

theorem chainQueryOp_form {c : Ctx} {first : Nat} (hd : d.mem.wf) : (chainQueryOp c first d).2.mem.wf := by
  unfold chainQueryOp
  exact checked_form hd (fun _ => id)

theorem chainRoleOp_form {c : Ctx} {role position chainId : Nat} (hd : d.mem.wf) : (chainRoleOp c role position chainId d).2.mem.wf := by
  unfold chainRoleOp
  refine checked_form hd (fun e hd' => ?_)
  dsimp only
  generalize he : Dev.writeOptions _ 2 = e'
  have hoptions : e'.mem.wf := by
    rw [← he]
    exact writeOptions_form hd'
  exact topology_form (ite_form (put_form hoptions) (ite_form hoptions (put_form hoptions)))

theorem resetReqSendOp_form {pos : Nat} (hd : d.mem.wf) : (resetReqSendOp pos d).mem.wf := by
  unfold resetReqSendOp
  dsimp only
  have hfresh := fresh_form hd
  generalize d.fresh = v at hfresh ⊢
  refine ite_form (raise_form (chainUnicast_form ?_)) hd
  exact hfresh

theorem forwardSlices_form {n : Nat} {units : List Nat} {st : Stamp} {whole : Option Stamp} (hd : d.mem.wf) :
    (d.forwardSlices n units st whole).mem.wf := by
  unfold Dev.forwardSlices
  refine each_form hd (fun _ _ hd' => ?_)
  split
  · refine chainUnicast_form (each_form hd' (fun _ _ hd'' => ?_))
    dsimp only
    split
    · exact chainUnicast_form hd''
    · exact hd''
  · refine each_form hd' (fun _ _ hd'' => ?_)
    dsimp only
    split
    · exact chainUnicast_form hd''
    · exact hd''

theorem forwarding_form {before : Dev} {n : Nat} {units : List Nat} (hd : d.mem.wf) : (before.forwarding d n units).mem.wf := by
  unfold Dev.forwarding
  dsimp only
  split
  · exact forwardSlices_form hd
  · exact hd

theorem sliceRx_form {route row0 nrows : Nat} {whole : Bool} {stamp : Bytes} (hd : d.mem.wf) : (d.sliceRx route row0 nrows whole stamp).mem.wf := by
  unfold Dev.sliceRx
  split
  · split
    · dsimp only
      split
      · exact publish_form (freezeRun_form (accepted_form (when_form (modSrc_form (modDec_form hd)) (fun _ => resumedEvent_form))))
      · exact modDec_form hd
    · dsimp only
      split
      · exact publish_form (freezeRun_form (accepted_form (when_form (modSrc_form (modDec_form hd)) (fun _ => resumedEvent_form))))
      · exact modDec_form hd
  · exact hd

theorem setMirrors_form {l : Layout} (hd : d.mem.wf) : (d.setMirrors l).mem.wf := by
  unfold Dev.setMirrors
  refine each_form hd (fun _ _ hd' => ?_)
  split
  · dsimp only
    split
    · exact disableSrc_form (put_form hd')
    · split
      · exact hd'
      · exact reassign_form (put_form (fresh_form (put_form hd')))
  · dsimp only
    split
    · exact hd'
    · split
      · exact hd'
      · exact reassign_form (put_form (fresh_form (put_form hd')))

theorem stageLayout_form {l : Layout} (hd : d.mem.wf) : (d.stageLayout l).mem.wf := by
  unfold Dev.stageLayout
  dsimp only
  generalize he : Dev.setMirrors _ l = e
  have hmirrors : e.mem.wf := by
    rw [← he]
    exact setMirrors_form hd
  split
  · exact hmirrors
  · exact hmirrors

theorem ipuCount_form {c k : Nat} {by_ : Nat} (hd : d.mem.wf) : (d.ipuCount c k by_).mem.wf := by
  unfold Dev.ipuCount
  exact count2_form hd

theorem ipuEvent_form {c k : Nat} {data : Bytes} (hd : d.mem.wf) : (d.ipuEvent c k data).mem.wf := by
  unfold Dev.ipuEvent
  exact raise_form hd

theorem modSet_form {c e : Nat} {f : CamSet → CamSet} (hd : d.mem.wf) : (d.modSet c e f).mem.wf := by
  unfold Dev.modSet
  exact modPipe_form hd

theorem setReceived_form {c e : Nat} (hd : d.mem.wf) : (d.setReceived c e).mem.wf := by
  unfold Dev.setReceived
  split
  · exact hd
  · split
    · exact hd
    · split
      · exact modPipe_form hd
      · exact modSet_form hd

theorem closeEarly_form {c x : Nat} (hd : d.mem.wf) : (d.closeEarly c x).mem.wf := by
  unfold Dev.closeEarly
  exact modPipe_form (when_form hd (fun _ => ipuCount_form))

theorem dropEarly_form {c : Nat} {f : EarlyExp → Bool} (hd : d.mem.wf) : (d.dropEarly c f).mem.wf := by
  unfold Dev.dropEarly
  exact modPipe_form (ipuCount_form hd)

theorem closeExposure_form {c x : Nat} (hd : d.mem.wf) : (d.closeExposure c x).mem.wf := by
  unfold Dev.closeExposure
  split
  · exact closeEarly_form hd
  · exact setReceived_form (modSet_form (when_form hd (fun _ => ipuCount_form)))

theorem takeCam_form {c n : Nat} (hd : d.mem.wf) : (d.takeCam c n).mem.wf := by
  unfold Dev.takeCam
  exact when_form (modPipe_form hd) (fun _ => enterFormat_form)

theorem overrunSet_form {c : Nat} {s : CamSet} (hd : d.mem.wf) : (d.overrunSet c s).mem.wf := by
  unfold Dev.overrunSet
  split
  · exact hd
  · exact when_form (modPipe_form (ipuCount_form (modSet_form hd))) (fun _ => ipuEvent_form)

theorem csiFsOp_form {c vc fn : Nat} (hd : d.mem.wf) : (csiFsOp c vc fn d).mem.wf := by
  unfold csiFsOp
  refine ite_form hd ?_
  dsimp only
  generalize he : d.modPipe c _ = e
  have hport : e.mem.wf := he ▸ modPipe_form hd
  split
  · exact hport
  · next x _ =>
    generalize hf : Dev.dropEarly _ c _ = f
    have hclosed : f.mem.wf := hf ▸ dropEarly_form (modPipe_form (closeExposure_form hport))
    split
    · split
      · exact modPipe_form (dropEarly_form hclosed)
      · exact when_form (modPipe_form (modPipe_form (takeCam_form hclosed))) (fun _ => overrunSet_form)
    · split
      · exact modSet_form hclosed
      · exact ite_form (modPipe_form (ipuCount_form hclosed)) (modPipe_form hclosed)

theorem csiLineOp_form {c : Nat} {l : CsiLine} (hd : d.mem.wf) : (csiLineOp c l d).mem.wf := by
  unfold csiLineOp
  extract_lets e cam seen
  have he : e.mem.wf := ipuCount_form hd
  have hseen : ∀ (n : Nat) {f : Dev}, f.mem.wf → (seen n f).mem.wf := by
    intro n f hf
    unfold seen
    split
    · exact ipuCount_form hf
    · exact hf
  clear_value e cam seen
  refine ite_form hd (ite_form (ipuCount_form he) (ite_form ?_ ?_))
  · split
    · exact ite_form (modSet_form he) he
    · exact he
  · split
    · exact he
    · split
      · split
        · exact modPipe_form (hseen _ he)
        · exact ite_form he (modPipe_form he)
      · exact modSet_form (hseen _ (when_form he fun _ hd' => overrunSet_form hd'))

theorem csiFeOp_form {c vc : Nat} (hd : d.mem.wf) : (csiFeOp c vc d).mem.wf := by
  unfold csiFeOp
  split
  · exact hd
  · split
    · exact hd
    · split
      · exact closeExposure_form hd
      · exact modPipe_form (ipuCount_form hd)

theorem csiTimeoutOp_form {c x : Nat} (hd : d.mem.wf) : (csiTimeoutOp c x d).mem.wf := by
  unfold csiTimeoutOp
  exact closeExposure_form hd

theorem ipuExposeOp_form {c : Ctx} {pipe tag : Nat} {sets : List Exposure} (hd : d.mem.wf) : (ipuExposeOp c pipe tag sets d).2.mem.wf := by
  unfold ipuExposeOp
  exact checked_form hd (fun _ hd' => modPipe_form (each_form hd' (fun _ _ => ipuEvent_form)))

theorem exposeTimeoutOp_form {c tag : Nat} (hd : d.mem.wf) : (exposeTimeoutOp c tag d).mem.wf := by
  unfold exposeTimeoutOp
  dsimp only
  split
  · exact ipuEvent_form (modPipe_form hd)
  · exact hd

theorem unprovenStamp_form (hd : d.mem.wf) : d.unprovenStamp.2.mem.wf := by
  unfold Dev.unprovenStamp
  exact hd

theorem tapFrame_form {c : Nat} {held : List Nat} {st : Stamp} (hd : d.mem.wf) : (d.tapFrame c held st).mem.wf := by
  unfold Dev.tapFrame
  refine each_form hd (fun _ _ hd' => ?_)
  split
  · exact ipuCount_form hd'
  · exact modPipe_form (scribble_form hd')

theorem frameDoneOp_form {c : Nat} {f : CamFrame} (hd : d.mem.wf) : (frameDoneOp c f d).mem.wf := by
  unfold frameDoneOp
  split
  · dsimp only
    split
    · exact modPipe_form hd
    · refine ipuEvent_form (modPipe_form (ipuCount_form (when_form (modPipe_form ?_) (fun _ => ipuEvent_form))))
      split
      · refine tapFrame_form (finishUncompressed_form (placement_form (when_form ?_ (fun _ => ipuEvent_form))))
        split
        · exact ipuEvent_form (modPipe_form (accepted_form (formatOf_form (modPipe_form hd))))
        · exact modPipe_form (accepted_form (formatOf_form (modPipe_form hd)))
      · refine finishUncompressed_form (placement_form (when_form ?_ (fun _ => ipuEvent_form)))
        split
        · exact ipuEvent_form (modPipe_form (accepted_form (formatOf_form (modPipe_form hd))))
        · exact modPipe_form (accepted_form (formatOf_form (modPipe_form hd)))
  · exact hd

theorem ipuReprocessOp_form {c : Ctx} {tap pipe copy inAddr outAddr outFmt : Nat} {config : Bytes} (hd : d.mem.wf) :
    (ipuReprocessOp c tap pipe copy inAddr outAddr outFmt config d).2.mem.wf := by
  unfold ipuReprocessOp
  exact checked_form hd (fun _ hd' => phaseDone_form (modPipe_form hd'))

theorem reprocessDoneOp_form {c : Nat} (hd : d.mem.wf) : (reprocessDoneOp c d).mem.wf := by
  unfold reprocessDoneOp
  split
  · exact hd
  · refine finishReply_form (each_form (modPipe_form (scribble_form ?_)) (fun _ _ => modPipe_form))
    split
    · exact fresh_form hd
    · exact unprovenStamp_form hd

theorem portCfgWritten_form {c old : Nat} (hd : d.mem.wf) : (portCfgWritten c old d).mem.wf := by
  unfold portCfgWritten
  dsimp only
  split
  · exact hd
  · exact modPipe_form hd

end Sys2Proof.Goals
end

section
/-!
PROOF. Memory keeps its form: the boundary unit, resets and faults.
-/
namespace Sys2Proof.Goals

open Sys2Proof Sys2Proof.Machine

variable {d : Dev}

theorem setRegion_form {m r w : Nat} (hd : d.mem.wf) : (d.setRegion m r w).mem.wf := by
  unfold Dev.setRegion
  exact hd

theorem debugDenied_form {entry : Bytes} (hd : d.mem.wf) : (d.debugDenied entry).mem.wf := by
  unfold Dev.debugDenied
  dsimp only
  split
  · exact audit_form (freshBytes_form (audit_form hd))
  · exact audit_form hd

theorem report_form {v : Viol} (hd : d.mem.wf) : (d.report v).mem.wf := by
  unfold Dev.report
  refine when_form (raise_form ?_) (fun _ => debugDenied_form)
  split
  · exact hd
  · exact hd

theorem notice_form {v : Viol} (hd : d.mem.wf) : (d.notice v).mem.wf := by
  unfold Dev.notice
  dsimp only
  split
  · exact hd
  · exact report_form hd

theorem denied_form {m a region : Nat} {kind : AccKind} {claim : Nat} {byTag : Bool} (hd : d.mem.wf) :
    (d.denied m a region kind claim byTag).mem.wf := by
  unfold Dev.denied
  split
  · split
    · split
      · exact notice_form (snd_form ‹_› (fresh_form hd))
      · exact report_form (snd_form ‹_› (fresh_form hd))
  · exact report_form hd

theorem decodeError_form {m a : Nat} {kind : AccKind} (hd : d.mem.wf) : (d.decodeError m a kind).mem.wf := by
  unfold Dev.decodeError
  exact count2_form (report_form hd)

theorem setDebugRegions_form (hd : d.mem.wf) : d.setDebugRegions.mem.wf := by
  unfold Dev.setDebugRegions
  exact each_form hd (fun _ _ => setRegion_form)

theorem endService_form {cause : Nat} (hd : d.mem.wf) : (d.endService cause).mem.wf := by
  unfold Dev.endService
  split
  · exact hd
  · exact raise_form (audit_form (setDebugRegions_form hd))

theorem wipe_form {level : Nat} (hd : d.mem.wf) : (d.wipe level).mem.wf := wiped_wf d.mem _ hd

theorem coreReset_form (hd : d.mem.wf) : d.coreReset.mem.wf := by
  unfold Dev.coreReset
  exact hd

theorem powerUp_form (hd : d.mem.wf) : d.powerUp.mem.wf := by
  unfold Dev.powerUp
  split
  · exact hd
  · exact send_form hd

theorem resetTo_form {cause level : Nat} (hd : d.mem.wf) : (d.resetTo cause level).mem.wf := by
  unfold Dev.resetTo
  refine send_form ?_
  split
  · exact coreReset_form (endService_form hd)
  · exact powerUp_form (wipe_form (endService_form hd))

theorem takeReset_form {cause level : Nat} (hd : d.mem.wf) : (d.takeReset cause level).mem.wf := by
  unfold Dev.takeReset
  split
  · exact resetTo_form hd
  · exact resetTo_form hd

theorem stretchEndOp_form (hd : d.mem.wf) : (stretchEndOp d).mem.wf := by
  unfold stretchEndOp
  split
  · exact hd
  · split
    · exact send_form hd
    · exact hd

theorem loadRole_form {w : Nat} (hd : d.mem.wf) : (d.loadRole w).mem.wf := by
  unfold Dev.loadRole
  dsimp only
  split
  · exact hd
  · exact put_form hd

theorem loadWords_form {ws : List Nat} (hd : d.mem.wf) : (d.loadWords ws).mem.wf := by
  unfold Dev.loadWords
  exact each_form (put_form (put_form (put_form (loadRole_form (put_form (put_form (put_form hd))))))) (fun _ _ => modPcie_form)

theorem optionLoadOp_form (hd : d.mem.wf) : (optionLoadOp d).mem.wf := by
  unfold optionLoadOp
  dsimp only
  generalize he : Dev.loadWords d _ = e
  have hloaded : e.mem.wf := he ▸ loadWords_form hd
  exact ite_form hd (send_form hloaded)

theorem coldPowerOnOp_form (hd : d.mem.wf) : (coldPowerOnOp d).mem.wf := by
  unfold coldPowerOnOp
  exact takeReset_form hd

theorem supplyDropOp_form (hd : d.mem.wf) : (supplyDropOp d).mem.wf := by
  unfold supplyDropOp
  split
  · exact hd
  · exact takeReset_form hd

theorem resetPinOp_form {lowNs : Nat} (hd : d.mem.wf) : (resetPinOp lowNs d).mem.wf := by
  unfold resetPinOp
  split
  · split
    · refine takeReset_form (snd_form ‹_› ?_)
      split
      · exact fresh_form hd
      · exact hd
    · refine snd_form ‹_› ?_
      split
      · exact fresh_form hd
      · exact hd

theorem watchdogOp_form {coreIdx : Nat} (hd : d.mem.wf) : (watchdogOp coreIdx d).mem.wf := by
  unfold watchdogOp
  split
  · exact hd
  · exact takeReset_form hd

theorem lockstepOp_form (hd : d.mem.wf) : (lockstepOp d).mem.wf := by
  unfold lockstepOp
  exact takeReset_form hd

theorem safeResetOp_form (hd : d.mem.wf) : (safeResetOp d).mem.wf := by
  unfold safeResetOp
  split
  · exact takeReset_form hd
  · exact hd

theorem thermalReleaseOp_form (hd : d.mem.wf) : (thermalReleaseOp d).mem.wf := by
  unfold thermalReleaseOp
  exact hd

theorem pgoodOp_form (hd : d.mem.wf) : (pgoodOp d).mem.wf := by
  unfold pgoodOp
  split
  · exact hd
  · exact hd

theorem pgoodTimeoutOp_form (hd : d.mem.wf) : (pgoodTimeoutOp d).mem.wf := by
  unfold pgoodTimeoutOp
  split
  · exact send_form (send_form hd)
  · exact hd

theorem faultEvent_form {k object : Nat} {data : Bytes} {on : Bool} (hd : d.mem.wf) : (d.faultEvent k object data on).mem.wf := by
  unfold Dev.faultEvent
  exact raise_form hd

theorem logFault_form {f : FaultRec} (hd : d.mem.wf) : (d.logFault f).mem.wf := by
  unfold Dev.logFault
  exact audit_form hd

theorem ipuOut_form (hd : d.mem.wf) : d.ipuOut.mem.wf := by
  unfold Dev.ipuOut
  refine each_form hd (fun _ _ hd' => ?_)
  dsimp only
  split
  · exact enterLost_form (modPipe_form hd')
  · exact modPipe_form hd'

theorem witOut_form (hd : d.mem.wf) : d.witOut.mem.wf := by
  unfold Dev.witOut
  exact each_form hd (fun _ _ => modWit_form)

theorem dpoOut_form {o : Nat} (hd : d.mem.wf) : (d.dpoOut o).mem.wf := by
  unfold Dev.dpoOut
  split
  · exact audit_form (modOut_form (dpDown_form hd))
  · exact dpDown_form hd

theorem outOfService_form {unit sub : Nat} (hd : d.mem.wf) : (d.outOfService unit sub).mem.wf := by
  refine ite_form (failover_form hd) <| ite_form (spareLost_form hd) <| ite_form (engineOut_form hd) <| ite_form (placeStreams_form hd) <|
    ite_form (witOut_form hd) <| ite_form (ipuOut_form hd) <| ite_form (modFe_form (cancelTouches_form hd)) <|
    ite_form (raise_form (modHap_form (flushPlays_form hd))) <| ite_form hd <| ite_form (ethLinkDownOp_form hd) <|
    ite_form (withPorts_form hd (fun _ => mdkEnter_form)) <| ite_form (pcieResetOp_form hd) <| ite_form ?_ <| ite_form (dpoOut_form hd) hd
  split
  · exact enterLost_form hd
  · exact hd

theorem blockOut_form {b : Nat} (hd : d.mem.wf) : (d.blockOut b).mem.wf := by
  unfold Dev.blockOut
  split
  · exact each_form hd (fun _ _ => outOfService_form)
  · split
    · exact each_form hd (fun _ _ => flushPlays_form)
    · exact outOfService_form hd

theorem backInService_form {b : Nat} (hd : d.mem.wf) : (d.backInService b).mem.wf := by
  unfold Dev.backInService
  split
  · exact spareFree_form (raise_form hd)
  · split
    · exact hd
    · split
      · exact engineBack_form hd
      · split
        · exact placeStreams_form hd
        · split
          · dsimp only
            split
            · exact withPorts_form hd (fun _ => mdkEnter_form)
            · exact hd
          · split
            · exact dpTrain_form hd
            · exact hd

theorem blockReset_form {b : Nat} {cmd : Bool} (hd : d.mem.wf) : (d.blockReset b cmd).mem.wf := by
  unfold Dev.blockReset
  exact when_form hd (fun _ => blockOut_form)

theorem blockResetDoneOp_form {b : Nat} (hd : d.mem.wf) : (blockResetDoneOp b d).mem.wf := by
  unfold blockResetDoneOp
  split
  · exact hd
  · refine when_form (when_form ?_ (fun _ => modPlate_form)) (fun _ => backInService_form)
    split
    · exact zeroFill_form hd
    · exact hd

theorem deferRelease_form {b : Nat} (hd : d.mem.wf) : (d.deferRelease b).mem.wf := by
  unfold Dev.deferRelease
  exact faultEvent_form hd

theorem blkSrstOp_form {value : Nat} (hd : d.mem.wf) : (blkSrstOp value d).mem.wf := by
  unfold blkSrstOp
  refine each_form hd (fun _ _ hd' => ?_)
  dsimp only
  split
  · exact hd'
  · split
    · exact when_form hd' (fun _ => blockOut_form)
    · split
      · exact backInService_form (when_form hd' (fun _ => modPlate_form))
      · exact deferRelease_form (when_form hd' (fun _ => modPlate_form))

theorem pllLockOp_form {pll : Nat} (hd : d.mem.wf) : (pllLockOp pll d).mem.wf := by
  unfold pllLockOp
  exact each_form hd (fun _ _ hd' => backInService_form hd')

theorem enterSafe_form (hd : d.mem.wf) : d.enterSafe.mem.wf := by
  unfold Dev.enterSafe
  split
  · exact hd
  · exact faultEvent_form hd

theorem quarantine_form {unit sub : Nat} (hd : d.mem.wf) : (d.quarantine unit sub).mem.wf := by
  unfold Dev.quarantine
  split
  · exact hd
  · split
    · exact outOfService_form (faultEvent_form hd)
    · exact blockReset_form (outOfService_form (faultEvent_form hd))

theorem respondLasting_form {f : FaultRec} (hd : d.mem.wf) : (d.respondLasting f).mem.wf := by
  unfold Dev.respondLasting
  split
  · exact takeReset_form (logFault_form hd)
  · split
    · exact put_form (logFault_form hd)
    · exact quarantine_form (logFault_form hd)

theorem nextFault_form (hd : d.mem.wf) : d.nextFault.mem.wf := by
  unfold Dev.nextFault
  split
  · exact hd
  · exact hd

theorem verdictOn_form {f : FaultRec} {v : Nat} (hd : d.mem.wf) : (d.verdictOn f v).mem.wf := by
  unfold Dev.verdictOn
  split
  · dsimp only
    split
    · exact respondLasting_form (faultEvent_form hd)
    · exact nextFault_form (respondLasting_form (faultEvent_form hd))
  · dsimp only
    split
    · exact logFault_form (faultEvent_form hd)
    · exact nextFault_form (logFault_form (faultEvent_form hd))

theorem countFault_form {unit : Nat} (hd : d.mem.wf) : (d.countFault unit).mem.wf := by
  unfold Dev.countFault
  exact hd

theorem reportFault_form {unit sub code : Nat} (hd : d.mem.wf) : (d.reportFault unit sub code).mem.wf := by
  unfold Dev.reportFault
  extract_lets unit' sub' e h f x d₁ d₂ y d₃
  have he : e.mem.wf := when_form hd fun _ => modPlate_form
  clear_value e
  have h₂ : d₂.mem.wf := faultEvent_form (d := d₁) he
  have h₃ : d₃.mem.wf := h₂
  clear_value h d₁ d₂ d₃
  refine ite_form he (ite_form (countFault_form he) (ite_form ?_ ?_))
  · split
    · exact verdictOn_form he
    · exact he
  · split
    · exact respondLasting_form (faultEvent_form h₂)
    · exact ite_form (enterSafe_form h₂) (ite_form h₃ (nextFault_form h₃))

theorem faultRetryOp_form {ok : Bool} (hd : d.mem.wf) : (faultRetryOp ok d).mem.wf := by
  unfold faultRetryOp
  split
  · split
    · exact verdictOn_form (when_form hd (fun _ hd' => startPlay_form (modHap_form hd')))
    · exact hd
  · exact hd

theorem criticalStateOp_form {sub code : Nat} (hd : d.mem.wf) : (criticalStateOp sub code d).mem.wf := by
  unfold criticalStateOp
  exact takeReset_form (logFault_form hd)

theorem clockTimeoutOp_form {pll : Nat} (hd : d.mem.wf) : (clockTimeoutOp pll d).mem.wf := by
  unfold clockTimeoutOp
  split
  · exact reportFault_form hd
  · exact hd

theorem overcurrentOp_form {v peak : Nat} (hd : d.mem.wf) : (overcurrentOp v peak d).mem.wf := by
  unfold overcurrentOp
  exact reportFault_form (count2_form (modHap_form (flushPlays_form hd)))

theorem faultReadOp_form {c : Ctx} (hd : d.mem.wf) : (faultReadOp c d).2.mem.wf := by
  unfold faultReadOp
  exact checked_form hd (fun _ => id)

theorem faultClearOp_form {c : Ctx} {w : Nat} (hd : d.mem.wf) : (faultClearOp c w d).2.mem.wf := by
  unfold faultClearOp
  exact checked_form hd (fun _ hd' => backInService_form (faultEvent_form (when_form hd' (fun _ => modHap_form))))

theorem resetOp_form {c : Ctx} {level block : Nat} (hd : d.mem.wf) : (resetOp c level block d).2.mem.wf := by
  unfold resetOp
  refine checked_form hd (fun _ hd' => ?_)
  split
  · exact blockReset_form hd'
  · exact hd'

theorem resetAfter_form {level : Nat} (hd : d.mem.wf) : (d.resetAfter level).mem.wf := by
  unfold Dev.resetAfter
  split
  · exact hd
  · exact takeReset_form hd

theorem tallyOp_form {ch : Nat} {msg : Bytes} (hd : d.mem.wf) : (tallyOp ch msg d).mem.wf := by
  unfold tallyOp
  dsimp only
  split
  · exact hd
  · split
    · exact count_form (put_form hd)
    · split
      · exact setTal_form (count_form (put_form hd))
      · split
        · exact setTal_form (count_form (put_form hd))
        · split
          · exact setTal_form (count_form (put_form hd))
          · split
            · exact when_form (modTal_form (setTal_form (count_form (put_form hd)))) (fun _ => raise_form)
            · exact when_form (modTal_form (setTal_form (count_form (put_form hd)))) (fun _ => raise_form)

theorem diagTallyOp_form {c : Ctx} {ch : Nat} (hd : d.mem.wf) : (diagTallyOp c ch d).2.mem.wf := by
  unfold diagTallyOp
  exact checked_form hd (fun _ => id)

end Sys2Proof.Goals
end

section
/-!
PROOF. Memory keeps its form: the scheduler, power and tenancies.
-/
namespace Sys2Proof.Goals

open Sys2Proof Sys2Proof.Machine

variable {d : Dev}

theorem bshEvent_form {k object : Nat} {data : Bytes} {on : Bool} (hd : d.mem.wf) : (d.bshEvent k object data on).mem.wf := by
  unfold Dev.bshEvent
  exact raise_form hd

theorem bshCount_form {k : Nat} {n : Nat} (hd : d.mem.wf) : (d.bshCount k n).mem.wf := by
  unfold Dev.bshCount
  exact count_form hd

theorem withLimit_form {f : Bushel → Bushel} (hd : d.mem.wf) : (d.withLimit f).mem.wf := by
  unfold Dev.withLimit
  dsimp only
  split
  · exact hd
  · exact bshEvent_form hd

theorem suspendSrc_form {n : Nat} (hd : d.mem.wf) : (d.suspendSrc n).mem.wf := by
  unfold Dev.suspendSrc
  exact raise_form (bshCount_form (modDec_form hd))

theorem resumeSrc_form {n : Nat} (hd : d.mem.wf) : (d.resumeSrc n).mem.wf := by
  unfold Dev.resumeSrc
  exact raise_form (taintReset_form (modDec_form hd))

theorem resumeForwarding_form (hd : d.mem.wf) : d.resumeForwarding.mem.wf := by
  unfold Dev.resumeForwarding
  refine each_form hd (fun _ _ hd' => ?_)
  split
  · exact hd'
  · exact resumeSrc_form hd'

theorem matchLevel_form {fuel : Nat} {l : List (Nat × Nat)} (hd : d.mem.wf) : (Dev.matchLevel fuel l d).mem.wf := by
  induction fuel generalizing d with
  | zero => exact hd
  | succ fuel ih =>
    rw [Dev.matchLevel]
    split
    · split
      · exact ih (suspendSrc_form hd)
      · exact hd
    · split
      · split
        · exact ih (resumeSrc_form hd)
        · exact hd
      · exact hd

theorem endAccount_form {endedNs : Nat} (hd : d.mem.wf) : (d.endAccount endedNs).mem.wf := by
  unfold Dev.endAccount
  refine ite_form hd ?_
  extract_lets x b e debt isOver d₁ d₂ d₃ d₄
  clear_value b e debt isOver
  have h₂ : d₂.mem.wf := put_form (bshCount_form (bshCount_form (bshCount_form (bshCount_form hd))))
  clear_value d₂
  split
  · exact h₂
  · exact bshEvent_form h₂

theorem accountingOp_form {f : Forecast} (hd : d.mem.wf) : (accountingOp f d).mem.wf := by
  unfold accountingOp
  refine matchLevel_form ?_
  split
  · split
    · split
      · exact resumeForwarding_form (withLimit_form (endAccount_form hd))
      · exact bshEvent_form (resumeForwarding_form (withLimit_form (endAccount_form hd)))
    · split
      · exact resumeForwarding_form (withLimit_form (endAccount_form hd))
      · exact bshEvent_form (resumeForwarding_form (withLimit_form (endAccount_form hd)))
  · split
    · exact resumeForwarding_form (withLimit_form (endAccount_form hd))
    · exact bshEvent_form (resumeForwarding_form (withLimit_form (endAccount_form hd)))

theorem energyTickOp_form {acts : List Activity} (hd : d.mem.wf) : (energyTickOp acts d).mem.wf := by
  unfold energyTickOp
  exact each_form hd (fun _ _ => id)

theorem latestStartOp_form {src cost cls : Nat} (hd : d.mem.wf) : (latestStartOp src cost cls d).mem.wf := by
  unfold latestStartOp
  extract_lets b cls'
  clear_value cls'
  exact ite_form hd (ite_form (ite_form hd (bshCount_form hd)) (ite_form hd (bshCount_form hd)))

theorem islandWakeOp_form {island : Nat} (hd : d.mem.wf) : (islandWakeOp island d).mem.wf := by
  unfold islandWakeOp
  split
  · exact hd
  · exact send_form (bshCount_form hd)

theorem pllRestartOp_form {pll : Nat} (hd : d.mem.wf) : (pllRestartOp pll d).mem.wf := by
  unfold pllRestartOp
  exact hd

theorem thermalOp_form {t : Temps} (hd : d.mem.wf) : (thermalOp t d).mem.wf := by
  unfold thermalOp
  extract_lets idx good bad d₁ was x d₂ e top b high
  have he : e.mem.wf := each_form (d := d₂) (each_form hd (fun _ _ => put_form)) (fun _ _ => bshEvent_form)
  clear_value e
  split
  next tMax place _ =>
  extract_lets trips d₃
  have h₃ : d₃.mem.wf := he
  clear_value d₃
  have hraised : ∀ (up down : Bool) (x y : Bushel) (data data' : Bytes), (if up = true then Dev.bshEvent { d₃ with bsh := x } 5 place data true
      else if down = true then Dev.bshEvent { d₃ with bsh := y } 5 place data' false else d₃).mem.wf :=
    fun _ _ _ _ _ _ => ite_form (bshEvent_form h₃) (ite_form (bshEvent_form h₃) h₃)
  exact ite_form (takeReset_form (hraised _ _ _ _ _ _)) (hraised _ _ _ _ _ _)

theorem bthermOp_form (hd : d.mem.wf) : (bthermOp d).mem.wf := by
  unfold bthermOp
  exact withLimit_form hd

theorem setVcore_form {mv : Nat} {raising : Bool} (hd : d.mem.wf) : (d.setVcore mv raising).mem.wf := by
  unfold Dev.setVcore
  split
  · exact send_form hd
  · exact hd

theorem powerDone_form {st : PowSt} {failed : Nat} (hd : d.mem.wf) : (d.powerDone st failed).mem.wf := by
  unfold Dev.powerDone
  dsimp only
  split
  · exact finish_form (bshEvent_form hd)
  · exact bshEvent_form hd

theorem powerPhase_form {ph : Nat} (hd : d.mem.wf) : (d.powerPhase ph).mem.wf := by
  unfold Dev.powerPhase
  dsimp only
  split
  · exact phaseDone_form hd
  · exact hd

theorem startWake_form {cmd : Option PowCmd} (hd : d.mem.wf) : (d.startWake cmd).mem.wf := by
  unfold Dev.startWake
  exact setVcore_form hd

theorem wake_form (hd : d.mem.wf) : d.wake.mem.wf := by
  unfold Dev.wake
  split
  · exact startWake_form hd
  · exact hd
  · exact hd
  · exact takeReset_form hd
  · exact hd
  · exact hd

theorem startEntry_form {standby : Bool} {cmd : Option PowCmd} (hd : d.mem.wf) : (d.startEntry standby cmd).mem.wf := by
  unfold Dev.startEntry
  exact hd

theorem outputNight_form {o : Nat} (hd : d.mem.wf) : (d.outputNight o).mem.wf := by
  unfold Dev.outputNight
  split
  · exact hd
  · exact dpDown_form (modOut_form (recorderOff_form hd))

theorem checkpointNow_form {o : Nat} (hd : d.mem.wf) : (d.checkpointNow o).mem.wf := by
  unfold Dev.checkpointNow
  dsimp only
  split
  · exact hd
  · exact ckptWriteOp_form (modWit_form hd)

theorem sourceNight_form {n : Nat} (hd : d.mem.wf) : (d.sourceNight n).mem.wf := by
  unfold Dev.sourceNight
  split
  · exact hd
  · split
    · exact modSrc_form hd
    · exact enterLost_form hd

theorem nightPhase2_form (hd : d.mem.wf) : d.nightPhase2.mem.wf := by
  unfold Dev.nightPhase2
  exact powerPhase_form (each_form (each_form (consoleNight_form (each_form hd (fun _ _ => outputNight_form))) (fun _ _ => checkpointNow_form))
    (fun _ _ => sourceNight_form))

theorem nightPhase3_form (hd : d.mem.wf) : d.nightPhase3.mem.wf := by
  unfold Dev.nightPhase3
  exact powerPhase_form hd

theorem enterStandby_form (hd : d.mem.wf) : d.enterStandby.mem.wf := by
  unfold Dev.enterStandby
  exact when_form (send_form (wipe_form (powerDone_form hd))) (fun _ => wake_form)

theorem nightPhase4_form (hd : d.mem.wf) : d.nightPhase4.mem.wf := by
  unfold Dev.nightPhase4
  refine powerDone_form (bshCount_form (setVcore_form (each_form hd (fun _ _ hd' => ?_))))
  split
  · exact hd'
  · exact ethLinkDownOp_form hd'

theorem afterTransition_form (hd : d.mem.wf) : d.afterTransition.mem.wf := by
  unfold Dev.afterTransition
  split
  · exact startWake_form hd
  · split
    · exact hd
    · split
      · dsimp only
        split
        · exact finish_form hd
        · exact startWake_form hd
      · dsimp only
        split
        · exact finish_form hd
        · exact startEntry_form hd

theorem nightEntryOp_form (hd : d.mem.wf) : (nightEntryOp d).mem.wf := by
  unfold nightEntryOp
  split
  · dsimp only
    split
    · exact hd
    · exact nightPhase2_form hd
  · split
    · dsimp only
      split
      · exact hd
      · exact nightPhase3_form hd
    · split
      · dsimp only
        split
        · exact hd
        · exact enterStandby_form hd
      · dsimp only
        split
        · exact hd
        · exact afterTransition_form (nightPhase4_form hd)

theorem wakeDone_form {failed : Nat} (hd : d.mem.wf) : (d.wakeDone failed).mem.wf := by
  unfold Dev.wakeDone
  exact afterTransition_form (powerDone_form (placeStreams_form (each_form hd (fun _ _ => modOut_form))))

theorem nightExitOp_form {failed : Nat} (hd : d.mem.wf) : (nightExitOp failed d).mem.wf := by
  unfold nightExitOp
  split
  · exact hd
  · split
    · split
      · exact hd
      · exact powerPhase_form hd
    · split
      · exact each_form (each_form (powerPhase_form hd) (fun _ _ => taintReset_form)) (fun _ _ => dpTrain_form)
      · exact wakeDone_form hd

theorem vcoreSettleOp_form {mv : Nat} {ok : Bool} (hd : d.mem.wf) : (vcoreSettleOp mv ok d).mem.wf := by
  unfold vcoreSettleOp
  split
  · exact hd
  · split
    · dsimp only
      split
      · exact hd
      · exact send_form hd
    · dsimp only
      split
      · exact hd
      · split
        · exact powerDone_form hd
        · exact hd

theorem wakeTimerOp_form (hd : d.mem.wf) : (wakeTimerOp d).mem.wf := by
  unfold wakeTimerOp
  split
  · exact hd
  · split
    · exact wake_form hd
    · exact hd

theorem powerStateOp_form {c : Ctx} {target : Nat} (hd : d.mem.wf) : (powerStateOp c target d).2.mem.wf := by
  unfold powerStateOp
  refine checked_form hd (fun e hd' => ?_)
  extract_lets cmd toward moving
  clear_value toward moving
  exact iteSnd_form hd' (iteSnd_form hd' (iteSnd_form (startWake_form hd') (startEntry_form hd')))

theorem tenEvent_form {n k : Nat} {data : Bytes} (hd : d.mem.wf) : (d.tenEvent n k data).mem.wf := by
  unfold Dev.tenEvent
  exact raise_form hd

theorem setRun_form {n : Nat} {r : TenRun} (hd : d.mem.wf) : (d.setRun n r).mem.wf := by
  unfold Dev.setRun
  exact modTen_form hd

theorem runPhase_form {n : Nat} {r : TenRun} {ph : Nat} (hd : d.mem.wf) : (d.runPhase n r ph).mem.wf := by
  unfold Dev.runPhase
  exact setRun_form (each_form hd (fun _ _ => phaseDone_form))

theorem endCmd_form {c : Nat × Nat × Nat} {r : Res} (hd : d.mem.wf) : (d.endCmd c r).mem.wf := by
  unfold Dev.endCmd
  split
  · exact hd
  · split
    · exact finish_form hd
    · exact finishReply_form hd

theorem endRun_form {n : Nat} {r : TenRun} {x : Res} (hd : d.mem.wf) : (d.endRun n r x).mem.wf := by
  unfold Dev.endRun
  exact each_form (modTen_form hd) (fun _ _ => endCmd_form)

theorem squashCmd_form {c : Nat × Nat × Nat} (hd : d.mem.wf) : (d.squashCmd c).mem.wf := by
  unfold Dev.squashCmd
  split
  · exact hd
  · exact endCmd_form (each_form (modSes_form hd) (fun _ _ => modPipe_form))

theorem passOutput_form {n o : Nat} {take_ : Bool} (hd : d.mem.wf) : (d.passOutput n o take_).mem.wf := by
  unfold Dev.passOutput
  exact putF_form (put_form hd)

theorem passCart_form {n o : Nat} {take_ : Bool} (hd : d.mem.wf) : (d.passCart n o take_).mem.wf := by
  unfold Dev.passCart
  split
  · exact put_form hd
  · split
    · exact put_form hd
    · exact hd

theorem withdrawShadow_form {n : Nat} (hd : d.mem.wf) : (d.withdrawShadow n).mem.wf := by
  unfold Dev.withdrawShadow
  exact each_form (each_form hd (fun _ _ => put_form)) (fun _ _ => put_form)

theorem withdrawOn_form {n o : Nat} (hd : d.mem.wf) : (d.withdrawOn n o).mem.wf := by
  unfold Dev.withdrawOn
  exact modOut_form (outCount_form (when_form (each_form hd (fun _ _ => putF_form)) (fun _ => putF_form)))

theorem runAt_form {n o : Nat} {r : TenRun} (hd : d.mem.wf) : (d.runAt n o r).mem.wf := by
  unfold Dev.runAt
  refine setRun_form ?_
  split
  · split
    · exact passCart_form (passOutput_form hd)
    · exact withdrawOn_form hd
  · split
    · exact passCart_form (passOutput_form hd)
    · exact withdrawOn_form hd
  · exact passOutput_form hd
  · exact when_form (when_form hd (fun _ => passOutput_form)) (fun _ => passCart_form)
  · exact hd
  · exact hd
  · exact hd

theorem tenAtCommit_form {o : Nat} (hd : d.mem.wf) : (d.tenAtCommit o).mem.wf := by
  unfold Dev.tenAtCommit
  exact each_form hd (fun _ _ hd' => each_form hd' (fun _ _ => runAt_form))

theorem disableAndLeave_form {s : Nat} (hd : d.mem.wf) : (d.disableAndLeave s).mem.wf := by
  unfold Dev.disableAndLeave
  dsimp only
  split
  · exact membership_form (disableSrc_form hd)
  · exact disableSrc_form hd

theorem silence_form {i : Nat} (hd : d.mem.wf) : (d.silence i).mem.wf := by
  unfold Dev.silence
  exact put_form hd

theorem silenceAlert_form (hd : d.mem.wf) : d.silenceAlert.mem.wf := by
  unfold Dev.silenceAlert
  extract_lets e
  have he : e.mem.wf := put_form hd
  clear_value e
  exact ite_form (alertEvent_form he) he

theorem ringsOff_form {n : Nat} (hd : d.mem.wf) : (d.ringsOff n).mem.wf := by
  unfold Dev.ringsOff
  exact put_form (setEvr_form (each_form hd (fun _ _ => setRng_form)))

theorem release_form {n : Nat} (hd : d.mem.wf) : (d.release n).mem.wf := by
  unfold Dev.release
  exact closeSession_form (ringsOff_form (withdrawTouches_form (each_form (when_form (each_form (each_form (modTen_form (each_form
    (placeStreams_form (each_form hd (fun _ _ => put_form))) (fun _ _ => disableAndLeave_form))) (fun _ _ hd' => modPipe_form (put_form hd')))
      (fun _ _ => silence_form)) (fun _ => silenceAlert_form)) (fun _ _ => flushPlays_form))))

theorem setTenSt_form {n : Nat} {st : TenSt} {closed : Bool} (hd : d.mem.wf) : (d.setTenSt n st closed).mem.wf := by
  unfold Dev.setTenSt
  exact modTen_form hd

theorem forgetTen_form {n : Nat} (hd : d.mem.wf) : (d.forgetTen n).mem.wf := by
  unfold Dev.forgetTen
  exact setPrt_form (setTen_form hd)

theorem removeAfterReset_form {n : Nat} {l : List ((Nat × Nat × Nat) × Nat)} (hd : d.mem.wf) : (d.removeAfterReset n l).mem.wf := by
  unfold Dev.removeAfterReset
  split
  · exact hd
  · exact closeSession_form (each_form (modTen_form (setTenSt_form hd)) (fun _ _ => finishReply_form))

theorem advance_form {n : Nat} {r : TenRun} (hd : d.mem.wf) : (d.advance n r).mem.wf := by
  unfold Dev.advance
  split
  · split
    · exact endRun_form (tenEvent_form (runPhase_form hd))
    · exact hd
  · split
    · exact endRun_form (tenEvent_form (runPhase_form hd))
    · exact hd
  · split
    · exact runPhase_form (withdrawShadow_form hd)
    · split
      · exact runPhase_form (release_form (withdrawShadow_form hd))
      · split
        · exact tenEvent_form (forgetTen_form (endRun_form (runPhase_form hd)))
        · exact hd
  · split
    · exact runPhase_form (withdrawShadow_form hd)
    · split
      · exact runPhase_form (release_form (withdrawShadow_form hd))
      · split
        · exact tenEvent_form (forgetTen_form (endRun_form (runPhase_form hd)))
        · exact hd
  · split
    · exact endRun_form (runPhase_form (setTenSt_form (raise_form hd)))
    · exact hd
  · split
    · exact endRun_form (raise_form (modTen_form (runPhase_form hd)))
    · exact hd
  · exact hd

theorem runNow_form {n : Nat} {r : TenRun} (hd : d.mem.wf) : (d.runNow n r).mem.wf := by
  unfold Dev.runNow
  refine each_form hd (fun _ _ hd' => ?_)
  split
  · exact runAt_form hd'
  · exact hd'

theorem tenSettle_form (hd : d.mem.wf) : d.tenSettle.mem.wf := by
  unfold Dev.tenSettle
  refine iter_form hd (fun _ hd' => each_form hd' (fun _ _ hd'' => each_form hd'' (fun _ _ hd''' => ?_)))
  dsimp only
  split
  · exact advance_form (runNow_form hd''')
  · exact runNow_form hd'''

theorem tenCreateOp_form {c : Ctx} {n cls : Nat} {grant : Bytes} (hd : d.mem.wf) : (tenCreateOp c n cls grant d).2.mem.wf := by
  unfold tenCreateOp
  exact checked_form hd (fun _ => setTen_form)

theorem tenConfigureOp_form {c : Ctx} {n : Nat} {g : Bytes} (hd : d.mem.wf) : (tenConfigureOp c n g d).2.mem.wf := by
  unfold tenConfigureOp
  refine checked_form hd (fun _ hd' => ?_)
  dsimp only
  split
  · exact tenEvent_form (modTen_form (when_form (each_form (each_form (withdrawTouches_form hd') (fun _ _ => flushPlays_form))
      (fun _ _ => silence_form)) (fun _ => silenceAlert_form)))
  · exact modTen_form (modTen_form (when_form (each_form (each_form (withdrawTouches_form hd') (fun _ _ => flushPlays_form))
      (fun _ _ => silence_form)) (fun _ => silenceAlert_form)))

theorem tearDown_form {n mode : Nat} {remove : Bool} {cmd : Nat × Nat × Nat} (hd : d.mem.wf) : (d.tearDown n mode remove cmd).mem.wf := by
  unfold Dev.tearDown
  split
  · split
    · exact setRun_form (each_form (modTen_form (setTenSt_form hd)) (fun _ _ => squashCmd_form))
    · exact modTen_form (setTenSt_form hd)
  · split
    · exact setRun_form (each_form (modTen_form (setTenSt_form hd)) (fun _ _ => squashCmd_form))
    · exact modTen_form (setTenSt_form hd)

theorem tenTearOp_form {c : Ctx} {n mode : Nat} {remove : Bool} (hd : d.mem.wf) : (tenTearOp c n mode remove d).2.mem.wf := by
  unfold tenTearOp
  refine checked_form hd (fun _ hd' => ?_)
  split
  · exact setRun_form hd'
  · split
    · exact setRun_form hd'
    · exact tearDown_form hd'

theorem tenFreezeOp_form {c : Ctx} {n : Nat} (hd : d.mem.wf) : (tenFreezeOp c n d).2.mem.wf := by
  unfold tenFreezeOp
  refine checked_form hd (fun _ hd' => ?_)
  split
  · exact setRun_form hd'
  · exact modTen_form (setTenSt_form (phaseDone_form hd'))

theorem freezeTimeoutOp_form {n : Nat} (hd : d.mem.wf) : (freezeTimeoutOp n d).mem.wf := by
  unfold freezeTimeoutOp
  split
  · exact endRun_form (setTenSt_form hd)
  · exact hd

theorem drainExpiredOp_form {n : Nat} (hd : d.mem.wf) : (drainExpiredOp n d).mem.wf := by
  unfold drainExpiredOp
  split
  · split
    · exact tenSettle_form (tenEvent_form (setRun_form (each_form hd (fun _ _ => squashCmd_form))))
    · exact hd
  · exact hd

theorem quiescedOp_form {n : Nat} (hd : d.mem.wf) : (quiescedOp n d).mem.wf := by
  unfold quiescedOp
  dsimp only
  split
  · split
    · exact hd
    · split
      · exact removeAfterReset_form (tenEvent_form (endRun_form (setTenSt_form (runPhase_form (zeroFill_form hd)))))
      · exact runPhase_form hd
  · exact hd

theorem hostRegion_form {n : Nat} {on : Bool} (hd : d.mem.wf) : (d.hostRegion n on).mem.wf := by
  unfold Dev.hostRegion
  exact setRegion_form hd

theorem reserveTen_form {n : Nat} (hd : d.mem.wf) : (d.reserveTen n).mem.wf := by
  unfold Dev.reserveTen
  exact hostRegion_form (retag_form (zeroFill_form hd))

theorem eraseTen_form {n : Nat} {r : TenRun} (hd : d.mem.wf) : (d.eraseTen n r).mem.wf := by
  unfold Dev.eraseTen
  exact setRun_form (modTen_form (hostRegion_form (retag_form (zeroFill_form hd))))

theorem createdTen_form {n : Nat} {r : TenRun} (hd : d.mem.wf) : (d.createdTen n r).mem.wf := by
  unfold Dev.createdTen
  exact runPhase_form (each_form (setPrt_form (setTenSt_form (runPhase_form (setTenSt_form (reserveTen_form hd))))) (fun _ _ => passCart_form))

theorem putSlots_form {l : List Slots} {b : Bytes} (hd : d.mem.wf) : (d.putSlots l b).mem.wf := by
  induction l generalizing d b with
  | nil => exact hd
  | cons x l ih => exact ih (each_form hd (fun _ _ => put_form))

theorem tenSaveOp_form {c : Ctx} {n dest maxLen : Nat} (hd : d.mem.wf) : (tenSaveOp c n dest maxLen d).2.mem.wf := by
  unfold tenSaveOp
  refine checked_form hd (fun _ hd' => ?_)
  split
  · exact hd'
  · exact busWrite_form hd'

theorem tenRestoreOp_form {c : Ctx} {n src len : Nat} {image : Bytes} (hd : d.mem.wf) : (tenRestoreOp c n src len image d).2.mem.wf := by
  unfold tenRestoreOp
  exact checked_form hd (fun _ hd' => setTen_form (phaseDone_form hd'))

theorem restoreSrc_form {n s : Nat} {b : Bytes} (hd : d.mem.wf) : (d.restoreSrc n s b).mem.wf := by
  unfold Dev.restoreSrc
  dsimp only
  split
  · exact membership_form (reassign_form (put_form (putSlots_form hd)))
  · exact reassign_form (put_form (putSlots_form hd))

theorem restoreLayer_form {n l : Nat} {moved : List (Nat × Nat)} {base : Nat} {b : Bytes} (hd : d.mem.wf) :
    (d.restoreLayer n l moved base b).mem.wf := by
  unfold Dev.restoreLayer
  exact put_form (put_form (putSlots_form hd))

theorem restoreCart_form {b : Bytes} (hd : d.mem.wf) : (d.restoreCart b).mem.wf := by
  unfold Dev.restoreCart
  split
  · exact poke_form (poke_form (poke_form hd))
  · exact poke_form hd

theorem restoreOther_form {n base : Nat} {s : Nat × Bytes} (hd : d.mem.wf) : (d.restoreOther n base s).mem.wf := by
  unfold Dev.restoreOther
  split
  · exact put_form (putSlots_form hd)
  · exact modPipe_form (portCfgWritten_form (putSlots_form hd))
  · dsimp only
    split
    · exact put_form (putSlots_form hd)
    · exact putSlots_form hd
  · exact restoreCart_form hd
  · exact hd

theorem restoredTen_form {n : Nat} {r : TenRun} (hd : d.mem.wf) : (d.restoredTen n r).mem.wf := by
  unfold Dev.restoredTen
  exact endRun_form (tenEvent_form (setPrt_form (modTen_form (placeStreams_form (each_form (each_form (each_form (each_form (each_form
    (runPhase_form (reserveTen_form hd)) (fun _ _ => restoreSrc_form)) (fun _ _ => restoreLayer_form)) (fun _ _ hd' => modMon_form
      (putSlots_form hd'))) (fun _ _ => restoreOther_form)) (fun _ _ => passCart_form))))))

theorem zeroFillOp_form {n : Nat} (hd : d.mem.wf) : (zeroFillOp n d).mem.wf := by
  unfold zeroFillOp
  split
  · exact hd
  · refine tenSettle_form ?_
    split
    · exact createdTen_form hd
    · exact restoredTen_form hd
    · exact eraseTen_form hd

theorem tenThawOp_form {c : Ctx} {n : Nat} (hd : d.mem.wf) : (tenThawOp c n d).2.mem.wf := by
  unfold tenThawOp
  refine checked_form hd (fun _ hd' => ?_)
  dsimp only
  split
  · split
    · exact raise_form (eventSpaceBack_form (setTenSt_form hd'))
    · split
      · exact eventSpaceBack_form (setTenSt_form hd')
      · exact modTen_form (each_form (when_form (phaseDone_form (eventSpaceBack_form (setTenSt_form hd'))) (fun _ => arm_form))
          (fun _ _ => computeExpected_form))
  · split
    · exact raise_form (setTenSt_form hd')
    · split
      · exact setTenSt_form hd'
      · exact modTen_form (each_form (when_form (phaseDone_form (setTenSt_form hd')) (fun _ => arm_form)) (fun _ _ => computeExpected_form))

end Sys2Proof.Goals
end

section
/-!
PROOF. Memory keeps its form: the memory system's upkeep and the frames of outputs.
-/
namespace Sys2Proof.Goals

open Sys2Proof Sys2Proof.Machine

variable {d : Dev}

theorem grantAt_form {t m qos : Nat} (hd : d.mem.wf) : (d.grantAt t m qos).mem.wf := by
  unfold Dev.grantAt
  exact when_form (when_form (count2_form hd) (fun _ => count2_form)) (fun _ => count2_form)

theorem routePart_form {m a qos : Nat} {kind : AccKind} {claim : Nat} (hd : d.mem.wf) : (d.routePart m a qos kind claim).2.mem.wf := by
  unfold Dev.routePart
  split
  · exact denied_form hd
  · dsimp only
    split
    · exact hd
    · exact decodeError_form (grantAt_form hd)

theorem modChan_form {c : Nat} {f : DramCh → DramCh} (hd : d.mem.wf) : (d.modChan c f).mem.wf := by
  unfold Dev.modChan
  exact hd

theorem markBeat_form {beat : Nat} {p : Bool} (hd : d.mem.wf) : (d.markBeat beat p).mem.wf := by
  unfold Dev.markBeat
  exact hd

theorem eccDram_form {c a : Nat} {e : EccResult} (hd : d.mem.wf) : (d.eccDram c a e).mem.wf := by
  unfold Dev.eccDram
  split
  · dsimp only
    split
    · exact hd
    · exact hd
  · dsimp only
    split
    · exact hd
    · exact count2_form hd
  · dsimp only
    split
    · exact hd
    · exact count2_form hd
  · dsimp only
    split
    · exact hd
    · exact faultEvent_form (put_form (count2_form (markBeat_form hd)))

theorem eccChart_form {a : Nat} {e : EccResult} (hd : d.mem.wf) : (d.eccChart a e).mem.wf := by
  unfold Dev.eccChart
  split
  · split
    · exact reportFault_form hd
    · exact markBeat_form hd
  · exact hd

theorem eccCart_form {a : Nat} {e : EccResult} (hd : d.mem.wf) : (d.eccCart a e).mem.wf := by
  unfold Dev.eccCart
  split
  · exact hd
  · exact hd

/-- A parameter fabric whose reads and writes keep memory's form. -/
def FabricForms (fab : Fabric) : Prop :=
  (∀ (d : Dev) (m a n : Nat), d.mem.wf → (fab.read d m a n).2.mem.wf) ∧ ∀ (d : Dev) (m a : Nat) (data : Bytes), d.mem.wf →
    (fab.write d m a data).2.mem.wf

theorem readAt_form {fab : Fabric} {m t a n : Nat} {e : EccResult} (hd : d.mem.wf) (hfab : FabricForms fab) : (d.readAt fab m t a n e).2.mem.wf := by
  unfold Dev.readAt
  split
  · split
    · exact hd
    · exact count2_form (eccDram_form hd)
  · split
    · exact hfab.1 _ _ _ _ hd
    · split
      · exact hd
      · split
        · exact eccChart_form hd
        · split
          · exact eccCart_form hd
          · exact hd

theorem writeMarks_form {a : Nat} {data : Bytes} {bad : Bool} (hd : d.mem.wf) : (d.each (beatsOf a data.length) fun d b =>
    if bad then d.markBeat b true else if a ≤ b ∧ b + 4 ≤ a + data.length then d.markBeat b false else d).mem.wf := by
  refine each_form hd (fun _ _ hd' => ?_)
  split
  · exact markBeat_form hd'
  · split
    · exact markBeat_form hd'
    · exact hd'

theorem writeAt_form {fab : Fabric} {m t a : Nat} {data : Bytes} {bad : Bool} (hd : d.mem.wf) (hfab : FabricForms fab) :
    (d.writeAt fab m t a data bad).2.mem.wf := by
  unfold Dev.writeAt
  dsimp only
  split
  · split
    · exact hd
    · exact poke_form (writeMarks_form hd)
  · split
    · exact poke_form (writeMarks_form hd)
    · split
      · exact hfab.2 _ _ _ _ hd
      · split
        · exact busWrite_form hd
        · split
          · split
            · exact poke_form hd
            · exact hd
          · exact poke_form hd

theorem readParts_form {fab : Fabric} {m qos claim : Nat} {kind : AccKind} {e : EccResult} {l : List (Nat × Nat)}
    (hd : d.mem.wf) (hfab : FabricForms fab) :
    (d.readParts fab m qos claim kind e l).2.mem.wf := by
  induction l generalizing d with
  | nil => exact hd
  | cons x l ih =>
    refine ih ?_
    have hr := routePart_form (m := m) (a := x.1) (qos := qos) (kind := kind) (claim := claim) hd
    split
    · exact hr
    · exact readAt_form (grantAt_form hr) hfab

theorem writeParts_form {fab : Fabric} {m claim : Nat} {data : Bytes} {bad : Bool} {l : List (Nat × Nat)} (hd : d.mem.wf) (hfab : FabricForms fab) :
    (d.writeParts fab m claim data bad l).2.mem.wf := by
  induction l generalizing d data with
  | nil => exact hd
  | cons x l ih =>
    refine ih ?_
    have hr := routePart_form (m := m) (a := x.1) (qos := d.qosOf m) (kind := .write) (claim := claim) hd
    split
    · exact hr
    · exact writeAt_form (grantAt_form hr) hfab

theorem memReadOp_form {fab : Fabric} {m addr len qos claim : Nat} {fetch : Bool} {e : EccResult} (hd : d.mem.wf) (hfab : FabricForms fab) :
    (memReadOp fab m addr len qos claim fetch e d).mem.wf := by
  unfold memReadOp
  split
  · exact hd
  · exact each_form (readParts_form hd hfab) (fun _ _ => send_form)

theorem memWriteOp_form {fab : Fabric} {m addr claim : Nat} {data : Bytes} {bad : Bool} (hd : d.mem.wf) (hfab : FabricForms fab) :
    (memWriteOp fab m addr claim data bad d).mem.wf := by
  unfold memWriteOp
  split
  · exact hd
  · exact each_form (writeParts_form hd hfab) (fun _ _ => send_form)

theorem channelFault_form {c cause : Nat} (hd : d.mem.wf) : (d.channelFault c cause).mem.wf := by
  unfold Dev.channelFault
  split
  · exact reportFault_form (faultEvent_form (modChan_form hd))
  · exact reportFault_form (faultEvent_form (modChan_form hd))

theorem caParityOp_form {c : Nat} {again : Bool} (hd : d.mem.wf) : (caParityOp c again d).mem.wf := by
  unfold caParityOp
  split
  · exact hd
  · split
    · exact channelFault_form hd
    · exact count2_form hd

theorem writeCrcOp_form {c : Nat} {again : Bool} (hd : d.mem.wf) : (writeCrcOp c again d).mem.wf := by
  unfold writeCrcOp
  split
  · exact hd
  · split
    · exact channelFault_form hd
    · exact count2_form hd

theorem refreshOp_form {c : Nat} (hd : d.mem.wf) : (refreshOp c d).mem.wf := by
  unfold refreshOp
  split
  · exact hd
  · split
    · exact modChan_form hd
    · split
      · exact count2_form (modChan_form hd)
      · exact hd

theorem zqOp_form {c rank : Nat} (hd : d.mem.wf) : (zqOp c rank d).mem.wf := by
  unfold zqOp
  split
  · exact hd
  · exact modChan_form hd

theorem panicOp_form {o : Nat} {raised : Bool} (hd : d.mem.wf) : (panicOp o raised d).mem.wf := by
  unfold panicOp
  split
  · dsimp only
    split
    · exact hd
    · exact each_form hd (fun _ _ => count2_form)
  · dsimp only
    split
    · exact each_form hd (fun _ _ => modChan_form)
    · exact hd

theorem patrolOp_form {a : Nat} {e : EccResult} (hd : d.mem.wf) : (patrolOp a e d).mem.wf := by
  unfold patrolOp
  dsimp only
  split
  · exact hd
  · split
    · split
      · exact count2_form hd
      · exact hd
    · split
      · exact count2_form (eccDram_form hd)
      · exact eccDram_form hd

theorem trainingOp_form {ok : Bool} {temp : Int} (hd : d.mem.wf) : (trainingOp ok temp d).mem.wf := by
  unfold trainingOp
  split
  · exact hd
  · split
    · exact hd
    · exact reportFault_form (audit_form hd)

theorem chartScrubOp_form {a : Nat} {e : EccResult} (hd : d.mem.wf) : (chartScrubOp a e d).mem.wf := by
  unfold chartScrubOp
  split
  · exact eccChart_form hd
  · exact hd

theorem cartScrubOp_form {a : Nat} {e : EccResult} (hd : d.mem.wf) : (cartScrubOp a e d).mem.wf := by
  unfold cartScrubOp
  split
  · exact eccCart_form hd
  · exact hd

theorem cartRepairOp_form {a : Nat} (hd : d.mem.wf) : (cartRepairOp a d).mem.wf := by
  unfold cartRepairOp
  dsimp only
  split
  · exact hd
  · exact hd

theorem retagOp_form {base limit tag : Nat} {fill : Bool} (hd : d.mem.wf) : (retagOp base limit tag fill d).mem.wf := by
  unfold retagOp
  split
  · exact hd
  · exact retag_form (when_form hd (fun _ => zeroFill_form))

theorem remapOp_form {m value : Nat} (hd : d.mem.wf) : (remapOp m value d).mem.wf := by
  unfold remapOp
  split
  · exact hd
  · exact hd

theorem bndCommitOp_form {m mask : Nat} (hd : d.mem.wf) : (bndCommitOp m mask d).mem.wf := by
  unfold bndCommitOp
  split
  · exact hd
  · exact each_form hd (fun _ _ hd' => each_form hd' (fun _ _ => id))

theorem failNow_form {unit cause : Nat} (hd : d.mem.wf) : (d.failNow unit cause).mem.wf := by
  unfold Dev.failNow
  dsimp only
  split
  · split
    · exact verdictOn_form (reportFault_form (fresh_form (when_form hd (fun _ => failover_form))))
    · exact reportFault_form (fresh_form (when_form hd (fun _ => failover_form)))
  · exact reportFault_form (fresh_form (when_form hd (fun _ => failover_form)))

theorem barrierAt_form {o : Nat} (hd : d.mem.wf) : (d.barrierAt o).mem.wf := by
  unfold Dev.barrierAt
  exact modOut_form hd

theorem applyAll_form {o : Nat} (hd : d.mem.wf) : (d.applyAll o).mem.wf := by
  unfold Dev.applyAll
  exact tenAtCommit_form (applyCarts_form (applyCommits_form hd))

theorem frameCommitOp_form {o : Nat} (hd : d.mem.wf) : (frameCommitOp o d).mem.wf := by
  unfold frameCommitOp
  split
  · exact hd
  · refine modOut_form (when_form (when_form (tenSettle_form (cartsDone_form (commitsDone_form ?_))) (fun _ => modOut_form))
      (fun _ hd' => outCount_form (select_form hd')))
    split
    · exact applyAll_form (barrierAt_form hd)
    · exact barrierAt_form hd

theorem lockFrame_form {o : Nat} {errNs : Int} (hd : d.mem.wf) : (d.lockFrame o errNs).mem.wf := by
  unfold Dev.lockFrame
  exact when_form (modOut_form (when_form hd (fun _ => outCount_form))) (fun _ => raise_form)

theorem frameLeft_form {o : Nat} (hd : d.mem.wf) : (d.frameLeft o).mem.wf := by
  unfold Dev.frameLeft
  exact frameRecord_form (when_form (modOut_form hd) (fun _ => monFrame_form))

theorem outputOff_form {o : Nat} (hd : d.mem.wf) : (d.outputOff o).mem.wf := by
  unfold Dev.outputOff
  split
  · exact placeStreams_form (recorderOff_form (modOut_form hd))
  · exact hd

theorem stopRaster_form {o : Nat} (hd : d.mem.wf) : (d.stopRaster o).mem.wf := by
  unfold Dev.stopRaster
  exact tenSettle_form (settleCommits_form (modOut_form hd))

theorem nextFrame_form {o : Nat} (hd : d.mem.wf) : (d.nextFrame o).mem.wf := by
  unfold Dev.nextFrame
  exact modOut_form hd

theorem takeBack_form {p : Nat} (hd : d.mem.wf) : (d.takeBack p).mem.wf := by
  unfold Dev.takeBack
  split
  · exact failback_form hd
  · exact hd

theorem frameStartOp_form {o : Nat} {errNs : Int} (hd : d.mem.wf) : (frameStartOp o errNs d).mem.wf := by
  unfold frameStartOp
  split
  · exact hd
  · dsimp only
    split
    · exact stopRaster_form (outputOff_form (frameLeft_form hd))
    · exact lockFrame_form (takeBack_form (nextFrame_form (outputOff_form (frameLeft_form hd))))

theorem glyphCheck_form {o band : Nat} {held : Bool} (hd : d.mem.wf) : (d.glyphCheck o band held).mem.wf := by
  unfold Dev.glyphCheck
  split
  · dsimp only
    split
    · exact hd
    · exact modOut_form hd
  · dsimp only
    split
    · exact hd
    · split
      · exact modOut_form (count_form (put_form hd))
      · exact when_form (raise_form (modOut_form (count_form (put_form hd)))) (fun _ => failNow_form)

theorem bandLeaves_form {o band : Nat} {tRef : Ns} {held : Bool} {ts : List (Nat × TileSt)} {px : List SentPx} {check : Nat} (hd : d.mem.wf) :
    (d.bandLeaves o band tRef held ts px check).mem.wf := by
  unfold Dev.bandLeaves
  exact send_form (count_form (put_form (modOut_form hd)))

theorem holdCopy_form {o : Nat} (hd : d.mem.wf) : (d.holdCopy o).mem.wf := by
  unfold Dev.holdCopy
  dsimp only
  split
  · exact modOut_form hd
  · exact hd

theorem bandScanoutOp_form {o band : Nat} {tRef : Ns} (hd : d.mem.wf) : (bandScanoutOp o band tRef d).mem.wf := by
  unfold bandScanoutOp
  split
  · exact hd
  · dsimp only
    split
    · split
      · exact holdCopy_form (glyphCheck_form (bandLeaves_form (when_form hd (fun _ hd' => when_form (outCount_form hd') (fun _ => outCount_form)))))
      · exact glyphCheck_form (bandLeaves_form (when_form hd (fun _ hd' => when_form (outCount_form hd') (fun _ => outCount_form))))
    · split
      · exact holdCopy_form (glyphCheck_form (bandLeaves_form (when_form hd (fun _ hd' => when_form (outCount_form hd') (fun _ => outCount_form)))))
      · exact glyphCheck_form (bandLeaves_form (when_form hd (fun _ hd' => when_form (outCount_form hd') (fun _ => outCount_form))))

theorem bandDeadlineOp_form {o band : Nat} (hd : d.mem.wf) : (bandDeadlineOp o band d).mem.wf := by
  unfold bandDeadlineOp
  dsimp only
  split
  · exact hd
  · split
    · exact reportFault_form (modOut_form hd)
    · exact modOut_form hd

theorem sinkReadbackOp_form {o : Nat} {sink own : List Nat} (hd : d.mem.wf) : (sinkReadbackOp o sink own d).mem.wf := by
  unfold sinkReadbackOp
  split
  · exact hd
  · exact when_form (when_form (modOut_form hd) (fun _ => raise_form)) (fun _ => raise_form)

theorem benchSpareFails_form (hd : d.mem.wf) : d.benchSpareFails.mem.wf := by
  unfold Dev.benchSpareFails
  exact failNow_form hd

theorem benchVerdict_form {o band : Nat} {ok : Bool} (hd : d.mem.wf) : (d.benchVerdict o band ok).mem.wf := by
  unfold Dev.benchVerdict
  extract_lets b d₁ e to_
  have he : e.mem.wf := outCount_form (d := d₁) hd
  clear_value e
  split
  · exact ite_form he he
  · exact ite_form he (ite_form he (benchSpareFails_form he))
  · exact ite_form (failNow_form he) (benchSpareFails_form he)

theorem benchCompareOp_form {o band crc : Nat} (hd : d.mem.wf) : (benchCompareOp o band crc d).mem.wf := by
  unfold benchCompareOp
  split
  · exact hd
  · split
    · exact hd
    · exact benchVerdict_form hd

theorem failbackCompareOp_form {p o band crc : Nat} (hd : d.mem.wf) : (failbackCompareOp p o band crc d).mem.wf := by
  unfold failbackCompareOp
  split
  · dsimp only
    split
    · exact hd
    · exact hd
  · split
    · dsimp only
      split
      · exact hd
      · exact failbackDue_form (modPlate_form hd)
    · dsimp only
      split
      · exact hd
      · exact failbackDue_form (modPlate_form hd)

end Sys2Proof.Goals
end

section
/-!
PROOF. Memory keeps its form: boot and security, and the parameters.
-/
namespace Sys2Proof.Goals

open Sys2Proof Sys2Proof.Machine

variable {d : Dev}

theorem measure_form {kind : Nat} {dg : Bytes} (hd : d.mem.wf) : (d.measure kind dg).mem.wf := by
  unfold Dev.measure
  exact audit_form hd

theorem auditBoot_form (hd : d.mem.wf) : d.auditBoot.mem.wf := by
  unfold Dev.auditBoot
  generalize auditSlots = k
  dsimp only
  generalize d.auditWalk k _ _ = walk
  obtain ⟨seq, chain, torn⟩ := walk
  exact when_form hd (fun _ hd' => raise_form (audit_form hd'))

theorem copyTamper_form {e : Nat} (hd : d.mem.wf) : (d.copyTamper e).mem.wf := by
  unfold Dev.copyTamper
  exact raise_form (audit_form hd)

theorem tamperBoot_form (hd : d.mem.wf) : d.tamperBoot.mem.wf := by
  unfold Dev.tamperBoot
  exact when_form (when_form (each_form hd (fun _ _ => copyTamper_form)) (fun _ => enterSafe_form)) (fun _ => endService_form)

theorem resetRecorded_form (hd : d.mem.wf) : d.resetRecorded.mem.wf := by
  unfold Dev.resetRecorded
  exact hd

theorem resetDone_form (hd : d.mem.wf) : d.resetDone.mem.wf := by
  unfold Dev.resetDone
  exact faultEvent_form (resetRecorded_form hd)

theorem releaseCart_form {img : Bytes} (hd : d.mem.wf) : (d.releaseCart img).mem.wf := by
  unfold Dev.releaseCart
  extract_lets d₁ e
  have he : e.mem.wf := setRegion_form (measure_form hd)
  clear_value e
  exact he

theorem startBursol_form {img : Bytes} {uploaded : Bool} (hd : d.mem.wf) : (d.startBursol img uploaded).mem.wf := by
  unfold Dev.startBursol
  exact resetDone_form (tamperBoot_form (setVcore_form (setDebugRegions_form (when_form (releaseCart_form (measure_form (measure_form (measure_form
    (measure_form (audit_form (auditBoot_form hd))))))) (fun _ => audit_form)))))

theorem bootFrom_form {bad : List (Nat × Nat)} {l : List Nat} (hd : d.mem.wf) : (d.bootFrom bad l).mem.wf := by
  induction l generalizing bad with
  | nil => exact hd
  | cons s l ih =>
    rw [Dev.bootFrom]
    split
    · exact each_form (startBursol_form hd) (fun _ _ => audit_form)
    · exact ih

theorem endByReset_form {port sid : Nat} {r : Rec} (hd : d.mem.wf) : (d.endByReset port sid r).mem.wf := by
  unfold Dev.endByReset
  split
  · exact finish_form (modRec_form hd)
  · exact finishReply_form (modRec_form hd)

theorem endInFlight_form (hd : d.mem.wf) : d.endInFlight.mem.wf := by
  unfold Dev.endInFlight
  refine each_form (each_form hd (fun _ _ hd' => each_form hd' (fun _ _ => endByReset_form))) (fun _ _ hd' => ?_)
  split
  · exact finish_form (modRec_form hd')
  · exact hd'

theorem stopRuns_form (hd : d.mem.wf) : d.stopRuns.mem.wf := by
  unfold Dev.stopRuns
  refine each_form hd (fun _ _ hd' => ?_)
  dsimp only
  split
  · split
    · exact setTen_form hd'
    · exact setTen_form hd'
  · split
    · exact hd'
    · exact setTen_form hd'

theorem restartBursol_form (hd : d.mem.wf) : d.restartBursol.mem.wf := by
  unfold Dev.restartBursol
  exact resetDone_form (tamperBoot_form (stopRuns_form (endInFlight_form (measure_form hd))))

theorem bursolStartOp_form (hd : d.mem.wf) : (bursolStartOp d).mem.wf := by
  unfold bursolStartOp
  split
  · exact hd
  · split
    · exact restartBursol_form hd
    · split
      · exact hd
      · exact bootFrom_form hd

theorem bootMailboxOp_form {addr len : Nat} {image : Bytes} (hd : d.mem.wf) : (bootMailboxOp addr len image d).mem.wf := by
  unfold bootMailboxOp
  split
  · exact hd
  · dsimp only
    split
    · exact startBursol_form hd
    · exact hd

theorem svnCommitOp_form (hd : d.mem.wf) : (svnCommitOp d).mem.wf := by
  unfold svnCommitOp
  dsimp only
  split
  · exact audit_form hd
  · exact hd

theorem stage_form {off : Nat} {data : Bytes} (hd : d.mem.wf) : (d.stage off data).mem.wf := by
  unfold Dev.stage
  exact hd

theorem setLifecycle_form {target port : Nat} {digest : Bytes} (hd : d.mem.wf) : (d.setLifecycle target port digest).mem.wf := by
  unfold Dev.setLifecycle
  extract_lets old x d₁ d₂ f y d₃
  have h₁ : d₁.mem.wf := hd
  have hf : f.mem.wf := setDebugRegions_form (raise_form (audit_form h₁))
  have h₃ : d₃.mem.wf := hf
  clear_value d₁ d₂ f d₃
  exact ite_form h₁ (ite_form (audit_form h₃) hf)

theorem applyDirective_form {b : Bytes} {port : Nat} (hd : d.mem.wf) : (d.applyDirective b port).mem.wf := by
  unfold Dev.applyDirective
  refine measure_form ?_
  split
  · split
    · exact audit_form hd
    · exact hd
  · split
    · exact audit_form hd
    · exact hd
  · split
    · split
      · exact audit_form hd
      · exact hd
    · split
      · exact audit_form hd
      · exact hd
  · exact setLifecycle_form hd

theorem firmwareDone_form {slot st : Nat} {b : Bytes} {port : Nat} (hd : d.mem.wf) : (d.firmwareDone slot st b port).mem.wf := by
  unfold Dev.firmwareDone
  exact raise_form (when_form hd (fun _ => audit_form))

theorem firmwareStageOp_form {c : Ctx} {off : Nat} {final : Bool} {data : Bytes} (hd : d.mem.wf) : (firmwareStageOp c off final data d).2.mem.wf := by
  unfold firmwareStageOp
  refine checked_form hd (fun d₀ hd' => ?_)
  extract_lets e b st dir slot st' f
  have he : e.mem.wf := stage_form hd'
  have hf : f.mem.wf := firmwareDone_form he
  clear_value e b st dir slot st' f
  exact iteSnd_form he (iteSnd_form (refuse_form hf) (iteSnd_form (applyDirective_form hf) hf))

theorem attestOp_form {nonce : Bytes} (hd : d.mem.wf) : (attestOp nonce d).2.mem.wf := by
  unfold attestOp
  exact checked_form hd (fun _ => id)

theorem auditReadOp_form {c : Ctx} {first count : Nat} (hd : d.mem.wf) : (auditReadOp c first count d).2.mem.wf := by
  unfold auditReadOp
  exact checked_form hd (fun _ => id)

theorem serviceChallengeOp_form {c : Ctx} (hd : d.mem.wf) : (serviceChallengeOp c d).2.mem.wf := by
  unfold serviceChallengeOp
  exact checked_form hd (fun _ => id)

theorem serviceEnterOp_form {c : Ctx} {r : Bytes} (hd : d.mem.wf) : (serviceEnterOp c r d).2.mem.wf := by
  unfold serviceEnterOp
  refine checked_form hd (fun _ hd' => ?_)
  dsimp only
  split
  · exact refuse_form (audit_form hd')
  · exact raise_form (setDebugRegions_form (measure_form (audit_form hd')))

theorem serviceExitOp_form {c : Ctx} (hd : d.mem.wf) : (serviceExitOp c d).2.mem.wf := by
  unfold serviceExitOp
  exact checked_form hd (fun _ => endService_form)

theorem eraseAo_form (hd : d.mem.wf) : d.eraseAo.mem.wf := by
  unfold Dev.eraseAo
  extract_lets e
  have he : e.mem.wf := each_form hd (fun _ _ => put_form)
  clear_value e
  exact he

theorem tamperOp_form {input : Nat} {assertion : Bool} (hd : d.mem.wf) : (tamperOp input assertion d).mem.wf := by
  unfold tamperOp
  extract_lets cfg ovf e x d₁ y d₂ d₃ d₄ d₅
  have h₂ : d₂.mem.wf := ite_form (copyTamper_form (d := d₁) hd) hd
  have h₅ : d₅.mem.wf := when_form (when_form (when_form h₂ fun _ hd' => eraseAo_form hd') fun _ hd' => ite_form (enterSafe_form hd') hd')
    fun _ hd' => ite_form (endService_form hd') hd'
  clear_value d₁ d₂ d₃ d₄ d₅
  exact ite_form hd (ite_form h₂ (when_form h₅ fun _ hd' => wake_form hd'))

theorem debugHaltOp_form {core : Nat} {halt : Bool} (hd : d.mem.wf) : (debugHaltOp core halt d).mem.wf := by
  unfold debugHaltOp
  split
  · split
    · exact hd
    · exact hd
  · exact hd

theorem afterRead_form {p : Par} {es : List Nat} (hd : d.mem.wf) : (d.afterRead p es).mem.wf := by
  unfold Dev.afterRead
  split
  · split
    · exact hd
    · exact hd
  · exact each_form hd (fun _ _ => tsiPop_form)
  · exact hd

theorem paramReadOp_form {c : Ctx} {par : Option Par} {inForce : Bool} {off n : Nat} (hd : d.mem.wf) :
    (paramReadOp c par inForce off n d).2.mem.wf := by
  unfold paramReadOp
  split
  · exact refuse_form hd
  · exact checked_form hd (fun _ => afterRead_form)

theorem putUnit_form {p : Par} {e u v : Nat} (hd : d.mem.wf) : (d.putUnit p e u v).mem.wf := by
  unfold Dev.putUnit
  split
  · exact hd
  · exact hd
  · exact modTal_form hd
  · exact hd
  · exact put_form hd
  · exact put_form hd

theorem putCovs_form {p : Par} {cs : List Cov} (hd : d.mem.wf) : (d.putCovs p cs).mem.wf := by
  unfold Dev.putCovs
  exact foldl_form hd (fun _ _ => putUnit_form)

theorem regroup_form {n : Nat} {old : Option (Nat × Nat)} (hd : d.mem.wf) : (d.regroup n old).mem.wf := by
  unfold Dev.regroup
  dsimp only
  split
  · exact hd
  · exact each_form hd (fun _ _ => membership_form)

theorem srcCfgWritten_form {c : Ctx} {n : Nat} {d0 : Dev} (hd : d.mem.wf) (hd0 : d0.mem.wf) : (d.srcCfgWritten c n d0).mem.wf := by
  unfold Dev.srcCfgWritten
  dsimp only
  split
  · exact put_form (disableAndLeave_form hd0)
  · split
    · exact regroup_form (reassign_form (put_form hd))
    · split
      · exact regroup_form (reassign_form hd)
      · exact hd

theorem srcFlowWritten_form {p : Par} {n : Nat} {d0 : Dev} (hd : d.mem.wf) : (d.srcFlowWritten p n d0).mem.wf := by
  unfold Dev.srcFlowWritten
  split
  · exact regroup_form (reassign_form hd)
  · exact hd

theorem proofWritten_form {n : Nat} {d0 : Dev} (hd : d.mem.wf) : (d.proofWritten n d0).mem.wf := by
  unfold Dev.proofWritten
  exact modSrc_form hd

theorem monWritten_form {c : Ctx} {m : Nat} {d0 : Dev} (hd : d.mem.wf) : (d.monWritten c m d0).mem.wf := by
  unfold Dev.monWritten
  exact placeStreams_form (when_form (when_form hd (fun _ => modMon_form)) (fun _ => modMon_form))

theorem witWritten_form {p : Par} {o : Nat} {d0 : Dev} (hd : d.mem.wf) : (d.witWritten p o d0).mem.wf := by
  unfold Dev.witWritten
  split
  · exact placeStreams_form (when_form (eventRecord_form hd) (fun _ => modWit_form))
  · exact modWit_form (eventRecord_form hd)
  · exact when_form (eventRecord_form hd) (fun _ => recorderLost_form)
  · exact eventRecord_form hd

theorem feWritten_form {t : Nat} {d0 : Dev} (hd : d.mem.wf) : (d.feWritten t d0).mem.wf := by
  unfold Dev.feWritten
  split
  · exact enableFe_form hd
  · exact disableFe_form hd
  · exact hd

theorem optionWritten_form {p : Par} (hd : d.mem.wf) : (d.optionWritten p).mem.wf := by
  unfold Dev.optionWritten
  split
  · exact writeOptions_form hd
  · exact writeOptions_form hd
  · exact writeOptions_form hd
  · exact writeOptions_form hd
  · exact writeOptions_form hd
  · exact hd

theorem poolGrown_form {d0 : Dev} (hd : d.mem.wf) : (d.poolGrown d0).mem.wf := by
  unfold Dev.poolGrown
  split
  · exact zeroFill_form hd
  · exact hd

theorem written_form {c : Ctx} {p : Par} {e : Nat} {d0 : Dev} {new : Nat} (hd : d.mem.wf) (hd0 : d0.mem.wf) : (d.written c p e d0 new).mem.wf := by
  by_cases hp : p = .memPartnerMib
  · subst hp
    exact poolGrown_form hd
  unfold Dev.written
  split
  · exact srcCfgWritten_form hd hd0
  · exact srcFlowWritten_form hd
  · exact srcFlowWritten_form hd
  · exact srcFlowWritten_form hd
  · exact srcFlowWritten_form hd
  · exact hpdPulse_form hd
  · exact proofWritten_form hd
  · exact modSrc_form hd
  · exact when_form hd (fun _ => put_form)
  · exact tsiWritten_form hd
  · exact tsoWritten_form hd
  · exact tsoWritten_form hd
  · exact tsoWritten_form hd
  · exact ptpRestart_form hd
  · exact monWritten_form hd
  · exact placeStreams_form (modMon_form hd)
  · exact witWritten_form hd
  · exact witWritten_form hd
  · exact witWritten_form hd
  · exact witWritten_form hd
  · exact witWritten_form hd
  · exact witWritten_form hd
  · exact witWritten_form hd
  · exact witWritten_form hd
  · exact witWritten_form hd
  · exact portCfgWritten_form hd
  · exact each_form hd (fun _ _ => failbackDue_form)
  · exact feWritten_form hd
  · exact feWritten_form hd
  · exact storeBases_form hd
  · exact when_form hd (fun _ => ringEnabled_form)
  · exact modTring_form hd
  · exact when_form hd (fun _ => flushPlays_form)
  · exact portSlotsChanged_form hd
  · exact when_form hd (fun _ => silenceAlert_form)
  · exact absurd rfl hp
  · exact when_form hd (fun _ => modTal_form)
  · exact ethCfgWritten_form hd
  · exact withPorts_form hd (fun _ => mdkCfgWritten_form)
  · exact takebackReachedOp_form hd
  · exact audit_form hd
  · exact optionWritten_form hd
  · exact optionWritten_form hd
  · exact optionWritten_form hd
  · exact optionWritten_form hd
  · exact optionWritten_form hd
  · exact hd

theorem writeElem_form {c : Ctx} {p : Par} {cs : List Cov} {e : Nat} (hd : d.mem.wf) : (d.writeElem c p cs e).mem.wf := by
  unfold Dev.writeElem
  exact written_form (putCovs_form hd) hd

theorem writeItem_form {c : Ctx} {it : ParItem} (hd : d.mem.wf) : (d.writeItem c it).mem.wf := by
  unfold Dev.writeItem
  split
  · exact hd
  · exact each_form hd (fun _ _ => writeElem_form)

theorem paramWriteOp_form {c : Ctx} {it : ParItem} (hd : d.mem.wf) : (paramWriteOp c it d).2.mem.wf := by
  unfold paramWriteOp
  dsimp only
  split
  · exact refuse_form hd
  · exact writeItem_form hd

theorem writeItems_form {c : Ctx} {l : List ParItem} {n : Nat} (hd : d.mem.wf) : (d.writeItems c l n).2.2.mem.wf := by
  induction l generalizing d n with
  | nil => exact hd
  | cons it l ih =>
    rw [Dev.writeItems]
    split
    · exact hd
    · exact ih (writeItem_form hd)

theorem paramMultiOp_form {c : Ctx} {its : List ParItem} (hd : d.mem.wf) : (paramMultiOp c its d).2.mem.wf :=
  iteSnd_form (writeItems_form hd) (iteSnd_form (writeItems_form hd) (writeItems_form hd))

end Sys2Proof.Goals
end

section
/-!
PROOF. Memory keeps its form: accesses by masters, the opcodes, packets and frames as they arrive.
-/
namespace Sys2Proof.Goals

open Sys2Proof Sys2Proof.Machine

variable {d : Dev}

theorem mapRead_form {m : Nat} {p : Par} {off n : Nat} (hd : d.mem.wf) : (d.mapRead m p off n).2.mem.wf := by
  unfold Dev.mapRead
  split
  · exact hd
  · exact afterRead_form hd

/-- What a read through the address map answers, its flag beside the bytes. -/
theorem mapRead_flag_form {m : Nat} {p : Par} {off n : Nat} (hd : d.mem.wf) :
    (let (b, d) := d.mapRead m p off n; ((b, false), d) : (Bytes × Bool) × Dev).2.mem.wf := by
  have h := mapRead_form (m := m) (p := p) (off := off) (n := n) hd
  generalize d.mapRead m p off n = r at h ⊢
  exact h

/-- The read of a slot with the decoder of parameter addresses as an argument: the kernel, let into the true one, would run it. -/
def slotReadAt (decode : Nat → Option Par) (d : Dev) (m a n : Nat) : (Bytes × Bool) × Dev :=
  let off := a % 256
  match decode a with
  | none => ((zeros n, false), d)
  | some p =>
    if p = .sysIndSel then
      if (p.info.covered off n).any (· != windowOf m) then ((zeros n, true), d)
      else (((List.range n).map fun i => d.selByte (off + i), false), d)
    else match windowData p with
      | some j =>
        if j ≠ windowOf m then ((zeros n, true), d)
        else
          let (slot, q, base) := d.window j
          let (t, d) := d.routePart m slot (d.qosOf m) .read 0
          match t, q with
          | none, _ => ((zeros n, true), d)
          | some _, none => ((zeros n, false), d)
          | some _, some q =>
            let (b, d) := d.mapRead m q (base + off) n
            ((b, false), d)
      | none =>
        let (b, d) := d.mapRead m p off n
        ((b, false), d)

theorem slotRead_decoded {decode : Nat → Option Par} (hdecode : decode = parOfSlot) : Dev.slotRead = slotReadAt decode := by
  delta Dev.slotRead slotReadAt
  rw [← hdecode] <;> rfl

theorem slotReadAt_form {decode : Nat → Option Par} {m a n : Nat} (hd : d.mem.wf) : (slotReadAt decode d m a n).2.mem.wf := by
  unfold slotReadAt
  generalize decode a = slot?
  cases slot? with
  | none => exact hd
  | some p =>
    refine iteSnd_form (iteSnd_form hd hd) ?_
    generalize windowData p = j?
    cases j? with
    | none => exact mapRead_flag_form hd
    | some j =>
      refine iteSnd_form hd ?_
      generalize d.window j = w
      obtain ⟨slot, q, base⟩ := w
      have hr := routePart_form (m := m) (a := slot) (qos := d.qosOf m) (kind := .read) (claim := 0) hd
      dsimp only
      generalize d.routePart m slot (d.qosOf m) .read 0 = r at hr ⊢
      obtain ⟨t, e⟩ := r
      cases t with
      | none => exact hr
      | some t =>
        cases q with
        | none => exact hr
        | some q => exact mapRead_flag_form hr

theorem slotRead_form {m a n : Nat} (hd : d.mem.wf) : (d.slotRead m a n).2.mem.wf := by
  rw [slotRead_decoded rfl]
  exact slotReadAt_form hd

theorem reservedWrite_form {p : Par} {c : Cov} (hd : d.mem.wf) : (d.reservedWrite p c).mem.wf := by
  unfold Dev.reservedWrite
  split
  · exact put_form hd
  · exact put_form hd
  · exact remapOp_form hd
  · exact hd
  · exact bndCommitOp_form hd
  · exact blkSrstOp_form hd
  · exact put_form hd
  · exact hd

theorem mapWrite_form {m : Nat} {p : Par} {off : Nat} {data : Bytes} (hd : d.mem.wf) : (d.mapWrite m p off data).2.mem.wf := by
  unfold Dev.mapWrite
  split
  · split
    · exact hd
    · exact each_form hd (fun _ _ => reservedWrite_form)
  · exact each_form hd (fun _ _ => writeElem_form)

/-- The write of a slot with the decoder of parameter addresses as an argument. -/
def slotWriteAt (decode : Nat → Option Par) (d : Dev) (m a : Nat) (data : Bytes) : Bool × Dev :=
  let off := a % 256
  match decode a with
  | none => (false, d)
  | some p =>
    if p = .sysIndSel then
      let cs := p.info.covs off data
      if cs.any fun c => c.e != windowOf m then (true, d)
      else (false, d.each cs fun d c => d.put p c.e (c.into (d.get p c.e)))
    else match windowData p with
      | some j =>
        if j ≠ windowOf m then (true, d)
        else
          let (slot, q, base) := d.window j
          let (t, d) := d.routePart m slot (d.qosOf m) .write 0
          match t, q with
          | none, _ => (true, d)
          | some _, none => (false, d)
          | some _, some q => d.mapWrite m q (base + off) data
      | none => d.mapWrite m p off data

theorem slotWrite_decoded {decode : Nat → Option Par} (hdecode : decode = parOfSlot) : Dev.slotWrite = slotWriteAt decode := by
  delta Dev.slotWrite slotWriteAt
  rw [← hdecode] <;> rfl

theorem slotWriteAt_form {decode : Nat → Option Par} {m a : Nat} {data : Bytes} (hd : d.mem.wf) : (slotWriteAt decode d m a data).2.mem.wf := by
  unfold slotWriteAt
  generalize decode a = slot?
  cases slot? with
  | none => exact hd
  | some p =>
    refine iteSnd_form (iteSnd_form hd (each_form hd (fun _ _ => put_form))) ?_
    generalize windowData p = j?
    cases j? with
    | none => exact mapWrite_form hd
    | some j =>
      refine iteSnd_form hd ?_
      generalize d.window j = w
      obtain ⟨slot, q, base⟩ := w
      have hr := routePart_form (m := m) (a := slot) (qos := d.qosOf m) (kind := .write) (claim := 0) hd
      dsimp only
      generalize d.routePart m slot (d.qosOf m) .write 0 = r at hr ⊢
      obtain ⟨t, e⟩ := r
      cases t with
      | none => exact hr
      | some t =>
        cases q with
        | none => exact hr
        | some q => exact mapWrite_form hr

theorem slotWrite_form {m a : Nat} {data : Bytes} (hd : d.mem.wf) : (d.slotWrite m a data).2.mem.wf := by
  rw [slotWrite_decoded rfl]
  exact slotWriteAt_form hd

/-- Reads of slots one after the other. -/
def readsBy (read : Dev → Nat → Nat → Nat → (Bytes × Bool) × Dev) (m : Nat) (d : Dev) : List (Nat × Nat) → (Bytes × Bool) × Dev
  | [] => (([], false), d)
  | (a, n) :: l =>
    let ((b, e), d) := read d m a n
    let ((b', e'), d) := readsBy read m d l
    ((b ++ b', e || e'), d)

theorem readsBy_form {read : Dev → Nat → Nat → Nat → (Bytes × Bool) × Dev} {m : Nat} {l : List (Nat × Nat)} (hd : d.mem.wf)
    (hread : ∀ (e : Dev) (a n : Nat), e.mem.wf → (read e m a n).2.mem.wf) : (readsBy read m d l).2.mem.wf := by
  induction l generalizing d with
  | nil => exact hd
  | cons x l ih =>
    rw [readsBy]
    exact ih (hread _ _ _ hd)

/-- The body of the recursion over slots, with the read of a slot kept closed: the kernel, let into it, would run the decoder of parameter addresses. -/
theorem fabricReads_body {m : Nat} {read : Dev → Nat → Nat → Nat → (Bytes × Bool) × Dev} (hread : read = Dev.slotRead) :
    Dev.fabricReads._f m = readsBy._f read m := by
  delta Dev.fabricReads._f
  rw [← hread] <;> rfl

theorem fabricReads_eq {m : Nat} {l : List (Nat × Nat)} : d.fabricReads m l = readsBy Dev.slotRead m d l := by
  delta Dev.fabricReads readsBy
  rw [fabricReads_body rfl]

theorem fabricReads_form {m : Nat} {l : List (Nat × Nat)} (hd : d.mem.wf) : (d.fabricReads m l).2.mem.wf := by
  rw [fabricReads_eq]
  exact readsBy_form hd fun _ _ _ hd' => slotRead_form hd'

/-- Writes of slots one after the other. -/
def writesBy (write : Dev → Nat → Nat → Bytes → Bool × Dev) (m : Nat) (d : Dev) (data : Bytes) : List (Nat × Nat) → Bool × Dev
  | [] => (false, d)
  | (a, n) :: l =>
    let (e, d) := write d m a (data.take n)
    let (e', d) := writesBy write m d (data.drop n) l
    (e || e', d)

theorem writesBy_form {write : Dev → Nat → Nat → Bytes → Bool × Dev} {m : Nat} {data : Bytes} {l : List (Nat × Nat)} (hd : d.mem.wf)
    (hwrite : ∀ (e : Dev) (a : Nat) (data : Bytes), e.mem.wf → (write e m a data).2.mem.wf) : (writesBy write m d data l).2.mem.wf := by
  induction l generalizing d data with
  | nil => exact hd
  | cons x l ih =>
    rw [writesBy]
    exact ih (hwrite _ _ _ hd)

theorem fabricWrites_body {m : Nat} {write : Dev → Nat → Nat → Bytes → Bool × Dev} (hwrite : write = Dev.slotWrite) :
    Dev.fabricWrites._f m = writesBy._f write m := by
  delta Dev.fabricWrites._f
  rw [← hwrite] <;> rfl

theorem fabricWrites_eq {m : Nat} {data : Bytes} {l : List (Nat × Nat)} : d.fabricWrites m data l = writesBy Dev.slotWrite m d data l := by
  delta Dev.fabricWrites writesBy
  rw [fabricWrites_body rfl]

theorem fabricWrites_form {m : Nat} {data : Bytes} {l : List (Nat × Nat)} (hd : d.mem.wf) : (d.fabricWrites m data l).2.mem.wf := by
  rw [fabricWrites_eq]
  exact writesBy_form hd fun _ _ _ hd' => slotWrite_form hd'

theorem fabric_forms : FabricForms fabric := ⟨fun _ _ _ _ hd => fabricReads_form hd, fun _ _ _ _ hd => fabricWrites_form hd⟩

theorem noAperture_form {ep : Nat} {kind : AccKind} (hd : d.mem.wf) : (d.noAperture ep kind).mem.wf := by
  unfold Dev.noAperture
  exact denied_form hd

theorem bar2ReadOp_form {ep aperture offset len : Nat} (hd : d.mem.wf) : (bar2ReadOp ep aperture offset len d).mem.wf := by
  unfold bar2ReadOp
  split
  · exact hd
  · split
    · exact hd
    · split
      · exact send_form (noAperture_form hd)
      · split
        · split
          · exact send_form (snd_form ‹_› (readParts_form hd fabric_forms))
          · exact send_form (snd_form ‹_› (readParts_form hd fabric_forms))

theorem aerAbort_form {ep : Nat} (hd : d.mem.wf) : (d.aerAbort ep).mem.wf := by
  unfold Dev.aerAbort
  exact send_form (modPcie_form hd)

theorem bar2WriteOp_form {ep aperture offset : Nat} {data : Bytes} {poisoned : Bool} (hd : d.mem.wf) :
    (bar2WriteOp ep aperture offset data poisoned d).mem.wf := by
  unfold bar2WriteOp
  split
  · exact hd
  · split
    · exact modPcie_form hd
    · split
      · exact hd
      · split
        · exact aerAbort_form (noAperture_form hd)
        · exact when_form (writeParts_form hd fabric_forms) (fun _ => aerAbort_form)

theorem outboundTimeoutOp_form {ep master : Nat} (hd : d.mem.wf) : (outboundTimeoutOp ep master d).mem.wf := by
  unfold outboundTimeoutOp
  exact when_form hd (fun _ => send_form)

theorem bar0Op_form {ep page : Nat} {write : Bool} (hd : d.mem.wf) : (bar0Op ep page write d).mem.wf := by
  unfold bar0Op
  split
  · exact hd
  · exact send_form hd

theorem traverseOp_form {c : Ctx} {session seq : Nat} (hd : d.mem.wf) : (traverseOp c session seq d).2.mem.wf := by
  unfold traverseOp
  exact hd

theorem keySetOp_form {c : Ctx} {port kind : Nat} {salt key : Bytes} (hd : d.mem.wf) : (keySetOp c port kind salt key d).2.mem.wf := by
  unfold keySetOp
  exact checked_form hd (fun _ hd' => audit_form (modPrt_form hd'))

theorem eventMaskOp_form {c : Ctx} {mask : Nat} (hd : d.mem.wf) : (eventMaskOp c mask d).2.mem.wf := by
  unfold eventMaskOp
  exact modSes_form hd

theorem stampBytes_form {s : Option Stamp} (hd : d.mem.wf) : (d.stampBytes s).2.mem.wf := by
  unfold Dev.stampBytes
  split
  · exact hd
  · exact freshBytes_form hd

theorem sourceQueryOp_form {c : Ctx} {n : Nat} (hd : d.mem.wf) : (sourceQueryOp c n d).2.mem.wf := by
  unfold sourceQueryOp
  refine checked_form hd (fun _ hd' => ?_)
  split
  · exact snd_form ‹_› (stampBytes_form hd')

theorem diagStampOp_form {c : Ctx} {n slice : Nat} (hd : d.mem.wf) : (diagStampOp c n slice d).2.mem.wf := by
  unfold diagStampOp
  refine checked_form hd (fun _ hd' => ?_)
  split
  · exact snd_form ‹_› (stampBytes_form hd')

theorem diagTileOp_form {c : Ctx} {o band : Nat} (hd : d.mem.wf) : (diagTileOp c o band d).2.mem.wf := by
  unfold diagTileOp
  refine checked_form hd (fun _ hd' => foldlSnd_form hd' (fun _ _ hd'' => ?_))
  split
  · dsimp only
    split
    · exact hd''
    · exact snd_form ‹_› (freshBytes_form hd'')

theorem stageItems_form {l : Layout} (hd : d.mem.wf) : (d.stageItems l).mem.wf := by
  unfold Dev.stageItems
  dsimp only
  split
  · split
    · exact stageLayout_form (paramMultiOp_form hd)
    · exact stageLayout_form (paramMultiOp_form hd)
  · exact stageLayout_form (paramMultiOp_form hd)

theorem layoutArrives_form {src : Nat} {image : Bytes} (hd : d.mem.wf) : (d.layoutArrives src image).mem.wf := by
  unfold Dev.layoutArrives
  split
  · split
    · exact stageItems_form hd
    · exact hd
  · exact hd

theorem routeRate_form {r : List Nat} (hd : d.mem.wf) : (d.routeRate r).2.mem.wf := by
  unfold Dev.routeRate
  split
  · split
    · exact hd
    · exact hd
  · exact fresh_form hd

theorem routeRates_form {l : List (List Nat)} (hd : d.mem.wf) : (d.routeRates l).2.mem.wf := by
  induction l generalizing d with
  | nil => exact hd
  | cons r l ih => exact ih (routeRate_form hd)

theorem routesOk_form {l : Layout} (hd : d.mem.wf) : (d.routesOk l).2.mem.wf := by
  unfold Dev.routesOk
  exact routeRates_form hd

theorem chainLayoutOp_form {c : Ctx} {addr len : Nat} (hd : d.mem.wf) : (chainLayoutOp c addr len d).2.mem.wf := by
  unfold chainLayoutOp
  refine checked_form hd (fun _ hd' => ?_)
  split
  · exact refuse_form hd'
  · split
    · split
      · exact refuse_form (snd_form ‹_› (routesOk_form hd'))
      · dsimp only
        split
        · exact stageItems_form (phaseDone_form (snd_form ‹_› (routesOk_form hd')))
        · exact each_form (stageItems_form (phaseDone_form (snd_form ‹_› (routesOk_form hd')))) (fun _ _ => sendLayout_form)

theorem runBody_form {c : Ctx} {op : IcpOp} (hd : d.mem.wf) : (runBody c op d).2.mem.wf := by
  unfold runBody
  split
  · exact hd
  · exact hd
  · exact hd
  · exact traverseOp_form hd
  · exact keySetOp_form hd
  · exact eventMaskOp_form hd
  · exact paramReadOp_form hd
  · exact paramWriteOp_form hd
  · exact paramMultiOp_form hd
  · exact sourceQueryOp_form hd
  · exact layerCommitOp_form hd
  · exact cartWriteOp_form hd
  · exact cartLutOp_form hd
  · exact cartGlyphOp_form hd
  · exact cartDescOp_form hd
  · exact cartCommitOp_form hd
  · exact witnessQueryOp_form hd
  · exact ipuExposeOp_form hd
  · exact ipuReprocessOp_form hd
  · exact tenCreateOp_form hd
  · exact tenConfigureOp_form hd
  · exact tenTearOp_form hd
  · exact tenTearOp_form hd
  · exact tenFreezeOp_form hd
  · exact tenSaveOp_form hd
  · exact tenRestoreOp_form hd
  · exact tenThawOp_form hd
  · exact timeStepOp_form hd
  · exact powerStateOp_form hd
  · exact recalibrateOp_form hd
  · exact hapticPlayOp_form hd
  · exact diagStampOp_form hd
  · exact diagTileOp_form hd
  · exact eyeScanOp_form hd
  · exact diagTallyOp_form hd
  · exact chainRoleOp_form hd
  · exact chainLayoutOp_form hd
  · exact chainQueryOp_form hd
  · exact attestOp_form hd
  · exact auditReadOp_form hd
  · exact serviceChallengeOp_form hd
  · exact serviceEnterOp_form hd
  · exact serviceExitOp_form hd
  · exact firmwareStageOp_form hd
  · exact faultReadOp_form hd
  · exact faultClearOp_form hd
  · exact resetOp_form hd
  · exact refuse_form hd

theorem guarded_form {bad : Bool} {st : Nat} {run : Dev → Answer} (hd : d.mem.wf) (hf : ∀ e : Dev, e.mem.wf → (run e).2.mem.wf) :
    (guarded bad st run d).2.mem.wf := by
  unfold guarded
  split
  · exact hf d hd
  · split
    · split
      · exact hd
      · exact hd
    · exact hd

theorem runOp_form {h : Hdr} {late : Bool} {c : Ctx} {op : IcpOp} (hd : d.mem.wf) : (runOp h late c op d).2.mem.wf := by
  unfold runOp
  split
  · exact refuse_form hd
  · split
    · exact refuse_form hd
    · dsimp only
      split
      · split
        · exact refuse_form hd
        · exact guarded_form hd (fun _ hd' => guarded_form hd' (fun _ => runBody_form))
      · exact guarded_form hd (fun _ hd' => guarded_form hd' (fun _ => runBody_form))

theorem closeDisabled_form (hd : d.mem.wf) : d.closeDisabled.mem.wf := by
  unfold Dev.closeDisabled
  exact each_form hd (fun _ _ => closeSession_form)

theorem settle_form (hd : d.mem.wf) : d.settle.mem.wf := by
  unfold Dev.settle
  exact closeDisabled_form (tenSettle_form (settleCommits_form hd))

theorem afterReply_form {port sid seq : Nat} {op : IcpOp} {st : Nat} (hd : d.mem.wf) : (d.afterReply port sid seq op st).mem.wf := by
  unfold Dev.afterReply
  split
  · exact hd
  · split
    · exact closeSession_form hd
    · split
      · exact modRec_form hd
      · exact resetAfter_form hd
    · exact hd

theorem start_form {s : Session} {w : Waiting} (hd : d.mem.wf) : (d.start s w).mem.wf := by
  unfold Dev.start
  dsimp only
  split
  · exact settle_form (runOp_form (modSes_form hd))
  · exact settle_form (afterReply_form (finishReply_form (runOp_form (modSes_form hd))))

theorem pumpN_form {fuel : Nat} (hd : d.mem.wf) : (Dev.pumpN fuel d).mem.wf := by
  induction fuel generalizing d with
  | zero => exact hd
  | succ fuel ih =>
    rw [Dev.pumpN]
    split
    · split
      · exact ih (start_form hd)
      · exact hd
    · exact hd

theorem pump_form (hd : d.mem.wf) : d.pump.mem.wf := by
  unfold Dev.pump
  exact pumpN_form hd

theorem settled_form (hd : d.mem.wf) : d.settled.mem.wf := by
  unfold Dev.settled
  exact pump_form (settle_form hd)

theorem turnAway_form {h : Hdr} {op : IcpOp} {st : Nat} {k : Option Nat} {via : Option Via} (hd : d.mem.wf) : (d.turnAway h op st k via).mem.wf := by
  unfold Dev.turnAway
  refine reply_form ?_
  split
  · exact sesCount_form hd
  · exact hd

theorem answerAgain_form {h : Hdr} {op : IcpOp} {r : Rec} {via : Option Via} (hd : d.mem.wf) : (d.answerAgain h op r via).mem.wf := by
  unfold Dev.answerAgain
  exact reply_form (sesCount_form hd)

theorem accept_form {s : Session} {h : Hdr} {op : IcpOp} {via : Option Via} (hd : d.mem.wf) : (d.accept s h op via).mem.wf := by
  unfold Dev.accept
  exact pump_form (retain_form (modSes_form hd))

theorem onCommand_form {s : Session} {h : Hdr} {op : IcpOp} {via : Option Via} (hd : d.mem.wf) : (d.onCommand s h op via).mem.wf := by
  unfold Dev.onCommand
  extract_lets k found
  clear_value k found
  refine ite_form (turnAway_form hd) (ite_form (turnAway_form hd) ?_)
  split
  · exact answerAgain_form hd
  · exact ite_form (turnAway_form hd) (ite_form (turnAway_form hd) (accept_form hd))

theorem deliver_form {h : Hdr} {op : IcpOp} {via : Option Via} (hd : d.mem.wf) : (d.deliver h op via).mem.wf := by
  unfold Dev.deliver
  split
  · exact hd
  · dsimp only
    split
    · split
      · exact turnAway_form (when_form hd (fun _ => sesCount_form))
      · exact when_form hd (fun _ => sesCount_form)
    · split
      · exact sesCount_form (when_form hd (fun _ => sesCount_form))
      · split
        · exact turnAway_form (when_form hd (fun _ => sesCount_form))
        · exact onCommand_form (when_form hd (fun _ => sesCount_form))

theorem packet_form {port peer : Nat} {p : Packet} {via : Option Via} (hd : d.mem.wf) : (d.packet port peer p via).mem.wf := by
  unfold Dev.packet
  split
  · split
    · exact badPacketOp_form hd
    · exact hd
  · exact helloOp_form hd
  · exact settled_form (authOp_form hd)
  · exact deliver_form hd

theorem holeExpireOp_form {port seq : Nat} (hd : d.mem.wf) : (holeExpireOp port seq d).mem.wf := by
  unfold holeExpireOp
  split
  · exact hd
  · split
    · exact pump_form (sesCount_form (modSes_form hd))
    · exact hd

theorem ringError_form {k tag port : Nat} (hd : d.mem.wf) : (d.ringError k tag port).mem.wf := by
  unfold Dev.ringError
  exact sesCount_form (signal_form (setRng_form (send_form hd)))

theorem takeEntry_form {k : Nat} {e : SubEntry} (hd : d.mem.wf) : (d.takeEntry k e).mem.wf := by
  unfold Dev.takeEntry
  split
  · exact ringError_form (modRng_form hd)
  · exact packet_form (modRng_form hd)

theorem sqDoorbellOp_form {ep page ring tail : Nat} {entries : List SubEntry} (hd : d.mem.wf) :
    (sqDoorbellOp ep page ring tail entries d).mem.wf := by
  unfold sqDoorbellOp
  refine ite_form hd ?_
  extract_lets k r n l
  clear_value n
  exact ite_form (each_form hd (fun _ _ => takeEntry_form)) (modRng_form hd)

theorem takeHeld_form (hd : d.mem.wf) : d.takeHeld.mem.wf := by
  unfold Dev.takeHeld
  exact each_form hd (fun _ _ hd' => each_form (modRng_form hd') (fun _ _ => takeEntry_form))

theorem cqDoorbellOp_form {ep page ring head : Nat} (hd : d.mem.wf) : (cqDoorbellOp ep page ring head d).mem.wf := by
  unfold cqDoorbellOp
  split
  · exact modRng_form hd
  · exact hd

theorem evtDoorbellOp_form {ep page head : Nat} (hd : d.mem.wf) : (evtDoorbellOp ep page head d).mem.wf := by
  unfold evtDoorbellOp
  dsimp only
  split
  · exact eventSpaceBack_form (setEvr_form hd)
  · exact hd

theorem unmatched_form {port : Nat} (hd : d.mem.wf) : (d.unmatched port).mem.wf := by
  unfold Dev.unmatched
  exact count2_form hd

theorem ethDeliver_form {port : Nat} {f : EthFrame} (hd : d.mem.wf) : (ethDeliver port f d).mem.wf := by
  unfold ethDeliver
  split
  · exact hd
  · exact hd
  · split
    · exact unmatched_form hd
    · split
      · exact ptpOp_form hd
      · exact hd
  · split
    · exact unmatched_form hd
    · exact neighbourRx_form hd
  · exact ipTx_form hd
  · split
    · exact rtpFrame_form hd
    · exact unmatched_form hd
  · split
    · exact unmatched_form hd
    · exact packet_form hd
  · split
    · split
      · exact witAckOp_form hd
      · exact hd
    · exact unmatched_form hd
  · exact unmatched_form hd

theorem ethFrameOp_form {port : Nat} {f : EthFrame} (hd : d.mem.wf) : (ethFrameOp port f d).mem.wf := by
  unfold ethFrameOp
  split
  · exact hd
  · split
    · exact count2_form hd
    · split
      · exact hd
      · exact count2_form (count2_form hd)
    · exact ethDeliver_form (count2_form hd)
    · exact ethDeliver_form (count2_form hd)
    · exact ethDeliver_form (count2_form hd)
    · exact ethDeliver_form (count2_form hd)
    · exact ethDeliver_form (count2_form hd)
    · exact ethDeliver_form (count2_form hd)
    · exact ethDeliver_form (count2_form hd)

theorem s0FrameOp_form {ok : Bool} {bytes : Nat} {pkt : Packet} (hd : d.mem.wf) : (s0FrameOp ok bytes pkt d).mem.wf := by
  unfold s0FrameOp
  exact packet_form hd

theorem resetReqRx_form {level count : Nat} {mac : Bytes} (hd : d.mem.wf) : (d.resetReqRx level count mac).mem.wf := by
  unfold Dev.resetReqRx
  split
  · exact takeReset_form hd
  · exact hd

theorem chainDeliver_form {port src : Nat} {body : ChainBody} (hd : d.mem.wf) : (d.chainDeliver port src body).mem.wf := by
  unfold Dev.chainDeliver
  split
  · split
    · exact packet_form hd
    · exact hd
  · split
    · exact settled_form (layoutArrives_form hd)
    · exact hd
  · exact sliceRx_form hd
  · exact settled_form (readyRx_form hd)
  · exact settled_form (goTake_form hd)
  · split
    · exact ptpOp_form hd
    · exact hd
  · split
    · exact hd
    · exact hd
  · exact resetReqRx_form hd
  · exact hd

theorem chainFrameOp_form {port dst src ttl bid : Nat} {body : ChainBody} (hd : d.mem.wf) : (chainFrameOp port dst src ttl bid body d).mem.wf := by
  unfold chainFrameOp
  split
  · exact hd
  · dsimp only
    split
    · split
      · exact firstSight_form hd
      · split
        · exact chainDeliver_form (when_form (firstSight_form hd) (fun _ => chainForward_form))
        · exact when_form (firstSight_form hd) (fun _ => chainForward_form)
    · split
      · exact hd
      · split
        · exact chainDeliver_form (when_form hd (fun _ => chainForward_form))
        · exact when_form hd (fun _ => chainForward_form)

theorem bursolStartsOp_form (hd : d.mem.wf) : (bursolStartsOp d).mem.wf := by
  unfold bursolStartsOp
  dsimp only
  split
  · exact settled_form (takeHeld_form (bursolStartOp_form hd))
  · exact bursolStartOp_form hd

theorem serviceExpireOp_form (hd : d.mem.wf) : (serviceExpireOp d).mem.wf := by
  unfold serviceExpireOp
  exact settled_form (endService_form hd)

end Sys2Proof.Goals
end

section
/-!
PROOF. Memory keeps its canonical form: the commands, and a step of the block.
-/
namespace Sys2Proof.Goals

open Sys2Proof Sys2Proof.Machine

/-- Every command has its effect on the device alone, and the effect keeps memory in form: that of a packet's command as it is delivered,
the others by their own lemma. -/
theorem exec_effect_form (i : Instr) :
    ∃ f : Dev → Dev, (∀ s, exec i s = onDev i.wellFormed f s) ∧ ∀ d : Dev, d.mem.wf → (f d).mem.wf := by
  cases i <;> dsimp only [exec] <;> refine ⟨_, fun _ => rfl, fun _ hd => ?_⟩
  case sessionClose | sessionPing | deviceDescribe | traverseQuery | keySet | eventMask | paramRead | paramWrite | paramWriteMulti | sourceQuery
      | layerCommit | cartWrite | cartLut | cartGlyph | cartDesc | cartCommit | witnessQuery | ipuExpose | ipuReprocess | tenancyCreate
      | tenancyConfigure | tenancyReset | tenancyRemove | tenancyFreeze | tenancySave | tenancyRestore | tenancyThaw | timeStep | powerState
      | touchRecalibrate | hapticPlay | diagStampRead | diagTileRead | diagEyeScan | diagTallyRead | chainRole | chainLayout | chainQuery | attest
      | auditRead | serviceChallenge | serviceEnter | serviceExit | firmwareStage | faultRead | faultClear | reset | srcCfgWrite | srcFlowWrite
      | dpiEdidWrite | failbackNWrite | monCfgWrite | witCfgWrite | tsiFifoRead | ptpCfgWrite | feCfgWrite | baseStoreWrite | touchRingWrite
      | ringRdWrite | audioPortCfgWrite | bndViolRead | ethCfgWrite | mdkCfgWrite | takebackNWrite =>
    exact deliver_form hd
  case sessionHello => exact helloOp_form hd
  case sessionAuth => exact settled_form (authOp_form hd)
  case authAttemptLapse => exact attemptLapseOp_form hd
  case authLockoutEnd => exact lockoutEndOp_form hd
  case sessionTimeout => exact settled_form (sessionTimeoutOp_form hd)
  case sessionAlive => exact sessionAliveOp_form hd
  case badPacket => exact badPacketOp_form hd
  case holeExpire => exact holeExpireOp_form hd
  case eventsLost => exact eventSpaceBack_form hd
  case sqDoorbell => exact sqDoorbellOp_form hd
  case cqDoorbell => exact cqDoorbellOp_form hd
  case evtDoorbell => exact evtDoorbellOp_form hd
  case bar0Access => exact bar0Op_form hd
  case bar2Read => exact bar2ReadOp_form hd
  case bar2Write => exact bar2WriteOp_form hd
  case outboundReadTimeout => exact outboundTimeoutOp_form hd
  case pcieFunctionReset => exact settled_form (pcieResetOp_form hd)
  case reprocessDone => exact settled_form (reprocessDoneOp_form hd)
  case freezeDrainTimeout => exact settled_form (freezeTimeoutOp_form hd)
  case tenancyDrainExpired => exact settled_form (drainExpiredOp_form hd)
  case zeroFillDone => exact settled_form (zeroFillOp_form hd)
  case tenancyQuiesced => exact settled_form (quiescedOp_form hd)
  case eyeScanDone => exact settled_form (eyeScanDoneOp_form hd)
  case serviceExpire => exact serviceExpireOp_form hd
  case igmpReportRepeat => exact igmpRepeatOp_form hd
  case igmpQueryRx => exact igmpQueryOp_form hd
  case dpiHpdPulseEnd => exact hpdPulseEndOp_form hd
  case ethFrameRx => exact ethFrameOp_form hd
  case jitterBufferExpire => exact jbExpireOp_form hd
  case dpiFrameRx => exact forwarding_form (dpiFrameOp_form hd)
  case sourceLossTimeout => exact lossTimeoutOp_form hd
  case sourceFrozen => exact frozenOp_form hd
  case holdoverTrustExpire => exact trustExpireOp_form hd
  case sliceDecoded => exact forwarding_form (sliceDecodedOp_form (ite_form hd (shedAhead_form hd)))
  case csiFrameStart => exact csiFsOp_form hd
  case ipuExposeTimeout => exact exposeTimeoutOp_form hd
  case csiLineRx => exact csiLineOp_form hd
  case csiFrameEnd => exact csiFeOp_form hd
  case csiExposureTimeout => exact csiTimeoutOp_form hd
  case ipuFrameDone => exact forwarding_form (frameDoneOp_form hd)
  case frameCommitPoint => exact settled_form (frameCommitOp_form hd)
  case frameStart => exact settled_form (frameStartOp_form hd)
  case bandCompose => exact bandComposeOp_form hd
  case bandDeadline => exact bandDeadlineOp_form hd
  case bandScanout => exact bandScanoutOp_form hd
  case sinkCrcReadback => exact sinkReadbackOp_form hd
  case benchCompare => exact benchCompareOp_form hd
  case failbackCompare => exact failbackCompareOp_form hd
  case failbackRunReached => exact failbackRunOp_form hd
  case checkpointWrite => exact ckptWriteOp_form hd
  case recordSigned => exact recSignedOp_form hd
  case witnessPictureCoded => exact witPictureOp_form hd
  case witnessNotCoded => exact witNotCodedOp_form hd
  case monitorPictureCoded => exact monPictureOp_form hd
  case witnessAckTimeout => exact ackTimeoutOp_form hd
  case accountingFrameStart => exact accountingOp_form hd
  case energyTick => exact energyTickOp_form hd
  case jobLatestStart => exact latestStartOp_form hd
  case jobTimeout => exact settled_form (reportFault_form hd)
  case islandWake => exact islandWakeOp_form hd
  case pllRestart => exact pllRestartOp_form hd
  case thermalSample => exact settled_form (thermalOp_form hd)
  case bthermUpdate => exact bthermOp_form hd
  case nightEntryStep => exact settled_form (nightEntryOp_form hd)
  case nightExitStep => exact settled_form (nightExitOp_form hd)
  case wakeTimerExpire => exact settled_form (wakeTimerOp_form hd)
  case ptpMessageRx => exact ptpOp_form hd
  case announceTimeout => exact announceTimeoutOp_form hd
  case ptpSyncSend => exact ptpSyncOp_form hd
  case tsiEdge => exact tsiEdgeOp_form hd
  case tsoEdge => exact tsoEdgeOp_form hd
  case tsoPulseEnd => exact tsoPulseEndOp_form hd
  case touchScanFrame => exact settled_form (touchScanOp_form hd)
  case touchStuck => exact touchStuckOp_form hd
  case selfScanFrame => exact settled_form (selfScanOp_form hd)
  case hapticPlayEnd => exact hapticEndOp_form hd
  case hapticOvercurrent => exact settled_form (overcurrentOp_form hd)
  case hapticTrackLost => exact trackLostOp_form hd
  case audioBlock => exact audioBlockOp_form hd
  case alertIdleExpire => exact alertIdleOp_form hd
  case memRead => exact memReadOp_form hd fabric_forms
  case memWrite => exact settled_form (memWriteOp_form hd fabric_forms)
  case dramRefresh => exact refreshOp_form hd
  case zqCalibration => exact zqOp_form hd
  case scanoutPanic => exact panicOp_form hd
  case caParityAlert => exact caParityOp_form hd
  case writeCrcAlert => exact writeCrcOp_form hd
  case patrolScrub => exact patrolOp_form hd
  case chartScrub => exact chartScrubOp_form hd
  case cartScrub => exact cartScrubOp_form hd
  case cartoucheRepair => exact cartRepairOp_form hd
  case dramTraining => exact trainingOp_form hd
  case tagRetag => exact retagOp_form hd
  case remapWrite => exact remapOp_form hd
  case bndCommit => exact bndCommitOp_form hd
  case ethLinkDown => exact ethLinkDownOp_form hd
  case ethLinkUp => exact ethLinkUpOp_form hd
  case arpRetry => exact arpRetryOp_form hd
  case neighborAgeOut => exact neighborAgeOp_form hd
  case ethTxTimeout => exact ethTxTimeoutOp_form hd
  case mdkFrameRx => exact withPorts_form hd fun _ hd' => mdkFrameOp_form hd'
  case mdkLinkctlRx => exact withPorts_form hd fun _ hd' => mdkLinkctlOp_form hd'
  case mdkAckTimer => exact mdkAckTimerOp_form hd
  case mdkNakRepeat => exact mdkNakRepeatOp_form hd
  case mdkReplayTimeout => exact withPorts_form hd fun _ hd' => mdkReplayTimeoutOp_form hd'
  case mdkBlockLock => exact withPorts_form hd fun _ hd' => mdkBlockLockOp_form hd'
  case mdkStartupBurst => exact mdkStartupOp_form hd
  case mdkRecoveryTimeout => exact withPorts_form hd fun _ hd' => mdkRecoveryTimeoutOp_form hd'
  case mdkIdleTimer => exact withPorts_form hd fun _ hd' => mdkIdleTimerOp_form hd'
  case mdkEidleRx => exact withPorts_form hd fun _ hd' => mdkEidleOp_form hd'
  case mdkExitBurstRx => exact withPorts_form hd fun _ hd' => mdkBurst_form hd'
  case mdkPeerRxUp => exact withPorts_form hd fun _ hd' => mdkPeerRxUpOp_form hd'
  case dpHpdAssert => exact dpHpdAssertOp_form hd
  case dpHpdIrq => exact dpHpdIrqOp_form hd
  case dpHpdDeassert => exact dpHpdDeassertOp_form hd
  case dpTrainingRetry => exact dpRetryOp_form hd
  case dpTrainingDone => exact dpTrainingDoneOp_form hd
  case dpiLinkLoss => exact hd
  case pcieLinkUp => exact pcieLinkUpOp_form hd
  case ringCfgWrite => exact ringCfgOp_form hd
  case msixUnmask => exact msixUnmaskOp_form hd
  case discoverSend => exact discoverSendOp_form hd
  case discoverRx => exact settled_form (discoverRxOp_form hd)
  case chainLinkCut => exact settled_form (linkCutOp_form hd)
  case chainFrameRx => exact chainFrameOp_form hd
  case readySend => exact settled_form (readySendOp_form hd)
  case goSend => exact settled_form (goSendOp_form hd)
  case barrierDeadline => exact settled_form (barrierDeadlineOp_form hd)
  case atlasListenExpire => exact settled_form (listenExpireOp_form hd)
  case takebackRunReached => exact settled_form (takebackReachedOp_form hd)
  case summarySend => exact summarySendOp_form hd
  case resetReqSend => exact resetReqSendOp_form hd
  case coldPowerOn => exact coldPowerOnOp_form hd
  case brownout => exact takeReset_form hd
  case supplyDrop => exact supplyDropOp_form hd
  case resetPin => exact resetPinOp_form hd
  case watchdog => exact watchdogOp_form hd
  case lockstep => exact lockstepOp_form hd
  case criticalState => exact settled_form (criticalStateOp_form hd)
  case safeResetExpire => exact safeResetOp_form hd
  case resetStretchEnd => exact stretchEndOp_form hd
  case thermalResetRelease => exact thermalReleaseOp_form hd
  case optionLoad => exact optionLoadOp_form hd
  case pllLock => exact pllLockOp_form hd
  case clockGoodTimeout => exact settled_form (clockTimeoutOp_form hd)
  case blkSrstWrite => exact settled_form (blkSrstOp_form hd)
  case blockResetDone => exact settled_form (blockResetDoneOp_form hd)
  case bursolStart => exact bursolStartsOp_form hd
  case bootMailboxGo => exact settled_form (bootMailboxOp_form hd)
  case svnCommitTimer => exact svnCommitOp_form hd
  case faultReport => exact settled_form (reportFault_form hd)
  case faultRetryDone => exact settled_form (faultRetryOp_form hd)
  case tallyMessage => exact tallyOp_form hd
  case tamperEdge => exact settled_form (tamperOp_form hd)
  case pgoodAssert => exact pgoodOp_form hd
  case pgoodTimeout => exact pgoodTimeoutOp_form hd
  case vcoreSettle => exact settled_form (vcoreSettleOp_form hd)
  case s0FrameRx => exact s0FrameOp_form hd
  case debugHalt => exact settled_form (debugHaltOp_form hd)

theorem onDev_form {wf : Bool} {f : Dev → Dev} {s t : State} (hs : s.dev.mem.wf) (hf : ∀ d : Dev, d.mem.wf → (f d).mem.wf)
    (ht : onDev wf f s = .next t) : t.dev.mem.wf := by
  unfold onDev at ht
  split at ht
  · cases ht
    exact hf _ hs
  · cases ht

theorem exec_form {i : Instr} {s t : State} (hs : s.dev.mem.wf) (ht : exec i s = .next t) : t.dev.mem.wf := by
  obtain ⟨f, hexec, hf⟩ := exec_effect_form i
  exact onDev_form hs hf (hexec s ▸ ht)

/-- Settles O60: a step is a tick or the effect of the front command, and each keeps memory in form. -/
theorem stepsKeepMemoryForm : Obligations.StepsKeepMemoryForm := by
  intro s t hs ht
  obtain ⟨q, d⟩ := s
  cases q with
  | nil =>
    cases ht
    exact tick_form hs
  | cons c cs => exact exec_form (i := c) (s := ⟨cs, d⟩) hs ht

end Sys2Proof.Goals
end
